-- ==== Sys2Proof/Word.lean ====
section
/-! DEFINITION. The word types of the part: registers are 32 bits wide (R4), memories are read in bytes. -/

namespace Sys2Proof

/-- A register word (R4). -/
abbrev Word := BitVec 32

/-- One byte of a packet, a frame or a memory. -/
abbrev Byte := BitVec 8

/-- A map held as a list of key and value pairs in canonical form: keys strictly rising, and no entry equal to
what an unlisted key reads as (`SMap.wf` in Machine/Ops.lean says so). -/
abbrev SMap (β : Type) := List (Nat × β)

/-- A byte memory: its unlisted addresses read as `Machine.unlistedByte`. -/
abbrev Memory := List Host.Cell

end Sys2Proof
end

