-- ==== Sys2Proof/Syntax.lean ====
section
/-! DEFINITION. The commands the block takes from outside, one constructor for each row of the operation and event
table: the opcodes of the host command packets, the register accesses that act by themselves, and the events of pins,
clocks, links and timers. -/

namespace Sys2Proof

/-- The three transports of command packets, and the origin of internal log entries (R385). -/
inductive Transport where
  | pcie
  | spi
  | udp
  | internal
deriving DecidableEq, Repr

/-- A command packet as it reaches the part (Table CMD-1), without its parameters. `port` is the mailbox slot on PCIe,
0 on SPI, and the source address of the datagram on UDP. `checkOk` says whether CRC-32C or the UDP tag checked. -/
structure Hdr where
  transport : Transport
  port : Nat
  version : Nat
  flags : Nat
  seq : Nat
  session : Nat
  length : Nat
  checkOk : Bool
deriving DecidableEq, Repr

/-- A generator signal and its parameters, as LE_INJ_START names them (Table LPE-4). Frequencies are in 1/64 Hz,
amplitudes Q1.15, phases in 2^-16 of a revolution. -/
inductive InjGen where
  | prbs (n hold amplitude : Nat)
  | steppedSine (freqs : List Nat) (dwell settle amplitude : Nat)
  | multisine (tones : List (Nat × Nat × Nat)) (period : Nat)
deriving DecidableEq, Repr

/-- A step of a Loop Engine task's run: a word written to data memory (byte address) or to Exchange RAM (byte offset); an exact result
formed in accumulator `k` (A0 to A3); that accumulator stored to data memory as 16 bits or as 32. -/
inductive TaskWrite where
  | data (addr word : Nat)
  | exch (addr word : Nat)
  | acc (k : Nat) (result : Int)
  | sts (addr k : Nat)
  | stl (addr k : Nat)
deriving DecidableEq, Repr

/-- What a run of a task that is not the kernel's does: its writes and accumulator results in order, whether it loads from the Granary
receive area, whether it executes TRIPREQ. -/
structure TaskRun where
  writes : List TaskWrite
  badLoad : Bool
  tripReq : Bool
deriving DecidableEq, Repr

/-- What a STATUS segment of the Granary carries (Table TWN-5): the digests (R289) and the SNAP counters. -/
structure GrStatus where
  fwDigest : Nat
  cfgCheck : Nat
  snaps : List Nat := []
deriving DecidableEq, Repr

/-- The data of a Granary segment on one lane (its packing into words is not in the spec): mirror items by number, or a status. -/
structure GrData extends GrStatus where
  items : List (Nat × List Int)
deriving DecidableEq, Repr

/-- What the firmware servo does with a PTP frame under PTP_FW_EN = 1 (R314): nothing, takes the Sync, takes it and writes an
increment, takes it and steps by an offset in ns. -/
inductive ServoAct where
  | ignore
  | accept
  | inc (value : Nat)
  | step (offset : Int)
deriving DecidableEq, Repr

/-- An ASDU of a sampled-value frame (R395): smpCnt, confRev, smpSynch, and its dataset entries (value as INT32, validity). -/
structure SvAsdu where
  smpCnt : Nat
  confRev : Nat
  smpSynch : Nat
  entries : List (Int × Nat)
deriving DecidableEq, Repr

/-- A sampled-value frame: destination address (48 bits), APPID, simulation bit, ASDUs. -/
structure SvFrame where
  dest : Nat
  appid : Nat
  sim : Bool
  asdus : List SvAsdu
deriving DecidableEq, Repr

/-- A GOOSE dataset entry by its type (R396). -/
inductive GooseVal where
  | bool (b : Bool)
  | dbpos (v : Nat)
  | int32 (v : Int)
  | other
deriving DecidableEq, Repr

/-- A GOOSE message: destination address (48 bits), APPID, confRev, test flag, stNum, sqNum, timeAllowedToLive in ms, dataset. -/
structure GooseMsg where
  dest : Nat
  appid : Nat
  confRev : Nat
  test : Bool
  stNum : Nat
  sqNum : Nat
  ttl : Nat
  entries : List GooseVal
deriving DecidableEq, Repr

/-- How a rail has risen at power-up (R433): rail of the RAIL coding, the times in us at which it left 10 % and reached 90 %, whether it
was monotonic. -/
structure RailRise where
  rail : Nat
  leaves : Nat
  up : Nat
  monotonic : Bool
deriving DecidableEq, Repr

/-- What a boot finds (R438): the strap pins, the seconds that the AON counter has counted since the last step, the bits of INT_BOOT that a test fails, the fits of foreground
calibration by converter (R51), the fitted DDR4 in GiB, whether the island's self-test passes, the bands the loops find, the ticks
counted up to the mode decision. -/
structure BootIn where
  reeve : Bool
  twinB : Bool
  ref : Nat
  aonSec : Nat
  testFail : Nat
  fits : List (Option (Int × Int))
  ddrGib : Nat
  safOk : Bool
  bands : List Nat
  ticks : Nat
deriving DecidableEq, Repr

/-- The commands of the block: one constructor for each row of the operation and event table. -/
inductive Instr where
  /-- MODE_GET (R44): Returns SYS_MODE, SYS_TRIPCAUSE and SYS_PEND. -/
  | modeGet (h : Hdr)
  /-- ENTER_COMMISSION (R32): Requests the transition from BLOCKED to COMMISSION. -/
  | enterCommission (h : Hdr)
  /-- LEAVE_COMMISSION (R39): Requests the transition from COMMISSION to BLOCKED after checking firmware, configuration, safety confirmation and trip causes. -/
  | leaveCommission (h : Hdr)
  /-- ENERGIZE (R150): Starts energization by DC pre-charge or black start from BLOCKED, or is deferred during a blocking sequence. -/
  | energize (h : Hdr) (method : Nat)
  /-- DEBLOCK_FORM (R159): Requests a hot deblock into FORM from BLOCKED or ENERGIZE when the hot-deblock criteria hold. -/
  | deblockForm (h : Hdr)
  /-- BLOCK (R35): Starts the blocking sequence of ramp and valve rest from ENERGIZE, FORM or RIDE-THROUGH. -/
  | block (h : Hdr)
  /-- TRIP (R44): Latches the trip cause MANUAL in this part and forwards it to the twin. -/
  | trip (h : Hdr)
  /-- TRIP_RESET (R39): Acknowledged reset of the latched trip causes against a matching cause word. -/
  | tripReset (h : Hdr) (causes : Nat)
  /-- ENABLE_CANCEL (R40): Cancels the pending enable of one class of SYS_PEND. -/
  | enableCancel (h : Hdr) (cls : Nat)
  /-- MODECFG_SET (R36): Writes SYS_MODECFG and SYS_BLKCFG, judging HOLD_STYLE against its own BYPASS_VDC_MAX, all or nothing. -/
  | modecfgSet (h : Hdr) (modecfg blkcfg : Nat)
  /-- FCH_STATUS_GET (R52): Returns the fast-channel control, fault, spare and calibration registers. -/
  | fchStatusGet (h : Hdr)
  /-- FCH_CALIBRATE (R51): Runs foreground calibration of every converter in COMMISSION. -/
  | fchCalibrate (h : Hdr)
  /-- SPARE_SUBST (R56): Moves a bank spare to a channel and replies once substitution takes effect. -/
  | spareSubst (h : Hdr) (bank index : Nat)
  /-- SPARE_RELEASE (R58): Returns a substituted channel to its main converter after the release check. -/
  | spareRelease (h : Hdr) (bank : Nat)
  /-- HKC_CONFIG (R66): Writes the configuration, sequences and injected trigger source of a housekeeping converter. -/
  | hkcConfig (h : Hdr) (conv cfg : Nat) (seqs injs : List Nat) (injcfg : Nat)
  /-- HKC_INJECT (R63): Triggers the injected sequence of one or both housekeeping converters. -/
  | hkcInject (h : Hdr) (mask : Nat)
  /-- HKC_READ (R64): Returns HKCn_DATA, clearing NEW, and HKCn_STAT. -/
  | hkcRead (h : Hdr) (conv : Nat)
  /-- SIEVE_STATUS_GET (R69): Returns Sieve channel selections and status and optionally the coefficients of one set. -/
  | sieveStatusGet (h : Hdr) (engine setCode : Nat)
  /-- SIEVE_SET_SELECT (R71): Selects the control and recorder filter sets of channels, effective at the next frame boundary. -/
  | sieveSetSelect (h : Hdr) (engine mask ctlSet recSet : Nat)
  /-- SIEVE_COEF_LOAD (R72): Writes tap count and coefficients into the shadow copy of a user set. -/
  | sieveCoefLoad (h : Hdr) (setNo taps : Nat) (coefs : List Int)
  /-- SIEVE_COEF_COMMIT (R72): Commits both user-set shadows at the next frame boundary and replies after it. -/
  | sieveCoefCommit (h : Hdr)
  /-- TONE_CONFIG (R78): Writes the CFG and FREQ of a tone detector. -/
  | toneConfig (h : Hdr) (engine det cfg freq : Nat)
  /-- TONE_READ (R77): Returns MAG2 and phase of the named tone detectors. -/
  | toneRead (h : Hdr) (engine mask : Nat)
  /-- LE_STATUS_GET (R79): Returns an engine's status, task registers, cluster status and rotation state. -/
  | leStatusGet (h : Hdr) (engine : Nat)
  /-- LE_IMAGE_LOAD (R98): Loads and verifies a chunk of a customer Loop Engine image. -/
  | leImageLoad (h : Hdr) (offset len : Nat) (bytes : List Byte) (final : Bool)
  /-- LE_IMAGE_ACTIVATE (R99): Activates a verified image on all its engines at the next frame boundary. -/
  | leImageActivate (h : Hdr)
  /-- LE_CLCFG_SET (R90): Writes K and DEG_TMO. -/
  | leClcfgSet (h : Hdr) (k degTmo : Nat)
  /-- LE_MISS_CLEAR (R89): Clears MISS_CNT and DLMISS of the named engines. -/
  | leMissClear (h : Hdr) (mask : Nat)
  /-- LE_ROTATE (R100): Starts moving an engine's tasks onto a free spare engine. -/
  | leRotate (h : Hdr) (engine shadowM1 : Nat)
  /-- LE_REGION_CFG (R93): Configures an engine's Region Selector inputs, map and forcing. -/
  | leRegionCfg (h : Hdr) (engine : Nat) (inputs maps : List Nat) (force forceSet : Nat)
  /-- LE_GAINSET_LOAD (R95): Loads a gain set into a shadow copy, active and replied at the next frame boundary. -/
  | leGainsetLoad (h : Hdr) (engine setNo : Nat) (gains : List Nat)
  /-- LE_INJ_START (R96): Binds and starts an injection point from the next frame boundary. -/
  | leInjStart (h : Hdr) (engine point gen : Nat) (signal : InjGen) (lim mon : Nat)
  /-- LE_INJ_STOP (R96): Stops the named injection points. -/
  | leInjStop (h : Hdr) (engine mask : Nat)
  /-- LE_VAR_READ (R80): Reads words of an engine's data memory or of Exchange RAM. -/
  | leVarRead (h : Hdr) (space engine addr count : Nat)
  /-- GFL_PARAM_SET (R123): Writes a kernel parameter register and replies with the tick from which it takes effect. -/
  | gflParamSet (h : Hdr) (offset value : Nat)
  /-- GFL_PARAM_GET (R123): Returns the working-copy value and the value in force of a kernel parameter. -/
  | gflParamGet (h : Hdr) (offset : Nat)
  /-- GFL_STATUS_GET (R110): Returns GFL_STAT and the published kernel words. -/
  | gflStatusGet (h : Hdr)
  /-- LFT_PARAM_SET (R149): Writes a limiting and ride-through parameter, checking threshold ordering. -/
  | lftParamSet (h : Hdr) (offset value : Nat)
  /-- LFT_PARAM_GET (R149): Returns the working-copy value and value in force of a ride-through parameter. -/
  | lftParamGet (h : Hdr) (offset : Nat)
  /-- LFT_STATUS_GET (R137): Returns fault status, kernel causes, last ride-through and published words. -/
  | lftStatusGet (h : Hdr)
  /-- ENG_PARAM_SET (R150): Writes an energization parameter in COMMISSION or BLOCKED. -/
  | engParamSet (h : Hdr) (offset value : Nat)
  /-- ENG_PARAM_GET (R150): Returns an energization parameter. -/
  | engParamGet (h : Hdr) (offset : Nat)
  /-- ENG_STATUS_GET (R159): Returns ENG_STAT, ENG_CRIT and the charge counts. -/
  | engStatusGet (h : Hdr)
  /-- RAMP_STATUS_GET (R164): Returns a ramp channel's value, status, turning point and queue. -/
  | rampStatusGet (h : Hdr) (ch : Nat)
  /-- RAMP_MOVE (R166): Appends a move to a ramp channel's queue. -/
  | rampMove (h : Hdr) (ch target vcap : Nat)
  /-- RAMP_REPLACE (R166): Flushes a channel's queue and makes its move current. -/
  | rampReplace (h : Hdr) (ch target vcap : Nat)
  /-- RAMP_STOP (R166): Flushes the queues of channels and turns their current moves into stops. -/
  | rampStop (h : Hdr) (mask : Nat)
  /-- RAMP_CFG_SET (R171): Writes a ramp channel's configuration, limits, range, task source and initial value. -/
  | rampCfgSet (h : Hdr) (ch cfg vmax amax dmax jmax range task initial : Nat)
  /-- SHAPE_LOAD (R178): Writes entries of the shadow bank of the user shape table. -/
  | shapeLoad (h : Hdr) (first count : Nat) (entries : List Nat)
  /-- SHAPE_COMMIT (R178): Checks the shadow shape bank and exchanges banks at the next frame boundary. -/
  | shapeCommit (h : Hdr)
  /-- SHAPE_SELECT (R177): Selects the active reference shape table. -/
  | shapeSelect (h : Hdr) (src : Nat)
  /-- VSQ_STATUS_GET (R183): Returns Valve Sequencer control, Thresher status and per-arm registers. -/
  | vsqStatusGet (h : Hdr)
  /-- VSQ_ARM_CFG_SET (R181): Writes an arm's selection and redundancy settings. -/
  | vsqArmCfgSet (h : Hdr) (arm cfg cfg2 : Nat)
  /-- VSQ_SLOT_TYPE_SET (R181): Writes slot types of a range of slots of an arm. -/
  | vsqSlotTypeSet (h : Hdr) (arm first count : Nat) (types : List Nat)
  /-- SLOT_EXCLUDE (R199): Excludes a slot by host command. -/
  | slotExclude (h : Hdr) (arm slot : Nat)
  /-- SLOT_RESTORE (R199): Restores an excluded slot to the candidates in COMMISSION or BLOCKED. -/
  | slotRestore (h : Hdr) (arm slot : Nat)
  /-- VSQ_SLOT_READ (R199): Returns slot registers and arm-set voltages of a range of slots. -/
  | vsqSlotRead (h : Hdr) (arm first count : Nat)
  /-- LANE_STATUS_GET (R220): Returns lane status, delay, compensation, round trip and error counts. -/
  | laneStatusGet (h : Hdr) (mask : Nat)
  /-- LANE_CFG_SET (R220): Writes a lane's configuration and asymmetry, starting idle entry or OFF when EN clears. -/
  | laneCfgSet (h : Hdr) (lane cfg asym : Nat)
  /-- LANE_BRINGUP (R220): Takes named lanes through TRAIN, MEASURE and ALIGN to RUN and replies when all are settled. -/
  | laneBringup (h : Hdr) (mask : Nat)
  /-- LANE_IDLE_ENTER (R221): Starts electrical idle entry of lanes in RUN. -/
  | laneIdleEnter (h : Hdr) (mask : Nat)
  /-- LANE_IDLE_EXIT (R222): Starts idle exit of lanes, or defers it during idle entry. -/
  | laneIdleExit (h : Hdr) (mask : Nat)
  /-- SHL_CFG_SET (R214): Writes SHL_CTRL. -/
  | shlCfgSet (h : Hdr) (ctrl : Nat)
  /-- SHF_STATUS_GET (R242): Returns frame and hub status registers. -/
  | shfStatusGet (h : Hdr) (mask : Nat)
  /-- SHF_CFG_SET (R236): Writes APPLY_OFS, LANE_TOL and HUB_L. -/
  | shfCfgSet (h : Hdr) (ctrl tol : Nat)
  /-- HUB_DISCOVER (R247): Sends IDENT_REQ on lanes in RUN and records hub identity and data. -/
  | hubDiscover (h : Hdr) (mask : Nat)
  /-- HUB_FALLBACK_SET (R248): Writes a lane's hub fallback bitmap. -/
  | hubFallbackSet (h : Hdr) (lane fb0 fb1 fb2 : Nat)
  /-- HUB_MSG (R246): Sends a hub-specific bulk message and returns its reply. -/
  | hubMsg (h : Hdr) (lane mtype tag : Nat) (body : List Byte)
  /-- LST_STATUS_GET (R251): Returns Local Stage control, leg status and group configuration. -/
  | lstStatusGet (h : Hdr)
  /-- LST_LEG_CFG_SET (R259): Writes a leg's configuration, period, dead time and source. -/
  | lstLegCfgSet (h : Hdr) (leg cfg per dt src : Nat)
  /-- LST_LEG_ENABLE (R253): Enables legs from OFF to RUN, or defers the enable during SOFT or REST. -/
  | lstLegEnable (h : Hdr) (mask : Nat)
  /-- LST_LEG_DISABLE (R252): Disables legs through a soft turn-off. -/
  | lstLegDisable (h : Hdr) (mask : Nat)
  /-- LST_UPDATE (R257): Writes PER and CMP of a leg together, optionally committing. -/
  | lstUpdate (h : Hdr) (leg : Nat) (perValid cmpValid commit : Bool) (per cmp : Nat)
  /-- LST_GROUP_SET (R261): Writes a group's mask source and patterns. -/
  | lstGroupSet (h : Hdr) (group cfg : Nat) (pats : List Nat)
  /-- LEG_CLEAR_CLK (R264): Clears CLK_LOSS of every leg while the timebase clock is within tolerance. -/
  | legClearClk (h : Hdr)
  /-- LST_CTRL_SET (R263): Writes LST_CTRL and the EVT filters. -/
  | lstCtrlSet (h : Hdr) (ctrl evt0 evt1 : Nat)
  /-- SWP_STATUS_GET (R271): Returns protection control, summary and per-switch status. -/
  | swpStatusGet (h : Hdr)
  /-- SWP_CFG_SET (R266): Writes a switch's desaturation and under-voltage configuration. -/
  | swpCfgSet (h : Hdr) (sw cfg uv : Nat)
  /-- SWP_CLEAR (R272): Clears the protection latches of the named switches. -/
  | swpClear (h : Hdr) (mask : Nat)
  /-- SWP_TEST (R277): Latches switches with cause C_TEST through the protection path. -/
  | swpTest (h : Hdr) (mask : Nat)
  /-- SWP_CTRL_SET (R269): Writes the under-voltage filter. -/
  | swpCtrlSet (h : Hdr) (ctrl : Nat)
  /-- TWIN_STATUS_GET (R286): Returns twin configuration, status, role tick, mirror state and the peer header. -/
  | twinStatusGet (h : Hdr)
  /-- TWIN_CFG_SET (R297): Writes TW_CFG in COMMISSION. -/
  | twinCfgSet (h : Hdr) (cfg : Nat)
  /-- TWIN_HANDOVER (R294): Sets SW_REQ on the ACTIVE twin and replies after the role change. -/
  | twinHandover (h : Hdr)
  /-- TWIN_PATH_TEST (R299): Records hub path evidence on a STANDBY twin for a duration. -/
  | twinPathTest (h : Hdr) (mask durationMs : Nat)
  /-- REEVE_STATUS_GET (R294): Returns the Reeve configuration, status and last grant. -/
  | reeveStatusGet (h : Hdr)
  /-- REEVE_CFG_SET (R295): Writes REEVE_CFG. -/
  | reeveCfgSet (h : Hdr) (cfg : Nat)
  /-- REEVE_FORCE (R294): Forces the Reeve to grant the named twin. -/
  | reeveForce (h : Hdr) (twin : Nat)
  /-- ALM_TIME_GET (R301): Returns Almanac time, increment, tick number and status. -/
  | almTimeGet (h : Hdr)
  /-- ALM_STEP (R307): Accepts an absolute or offset time step applied in the next tick and replies after application. -/
  | almStep (h : Hdr) (kind : Nat) (sec ns : Int)
  /-- ALM_INC_SET (R304): Submits a whole 36-bit Almanac increment. -/
  | almIncSet (h : Hdr) (inc : Nat)
  /-- ALM_TXTS_READ (R312): Returns and removes transmit time-stamp queue entries of a port. -/
  | almTxtsRead (h : Hdr) (port count : Nat)
  /-- ALM_CFG_SET (R314): Writes Almanac control, UTC offset and port latencies. -/
  | almCfgSet (h : Hdr) (ctrl utc lat0 lat1 : Nat)
  /-- ORY_STATUS_GET (R320): Returns clock synthesis configuration and status. -/
  | oryStatusGet (h : Hdr)
  /-- ORY_MDLL_SET (R321): Writes an MDLL configuration and restarts its acquisition, or defers the write. -/
  | oryMdllSet (h : Hdr) (mdll cfg : Nat)
  /-- ORY_SSC_SET (R324): Writes spread configuration, profile and duty trim, effective at the next frame boundary. -/
  | orySscSet (h : Hdr) (cfg : Nat) (profile : Option (List Nat)) (dutyTrim : Nat)
  /-- ORY_CLKOUT_SET (R327): Configures a clock output. -/
  | oryClkoutSet (h : Hdr) (out cfg : Nat)
  /-- CDC_STATUS_GET (R332): Returns crossing status and counters. -/
  | cdcStatusGet (h : Hdr)
  /-- CHR_STATUS_GET (R341): Returns Chronograph control, status and every unit and record status. -/
  | chrStatusGet (h : Hdr)
  /-- CHR_TRG_CFG (R336): Configures a trigger unit and clears its state. -/
  | chrTrgCfg (h : Hdr) (trgUnit cfg thr : Nat)
  /-- CHR_REC_CFG (R342): Configures a record and its memory slots. -/
  | chrRecCfg (h : Hdr) (rec cfg trg src len nseg base : Nat) (levs : Option (List Nat))
  /-- CHR_ARM (R339): Arms records from the next strobe, or defers while a segment closes. -/
  | chrArm (h : Hdr) (mask : Nat)
  /-- CHR_STOP (R340): Closes open segments at once and leaves records IDLE. -/
  | chrStop (h : Hdr) (mask : Nat)
  /-- CHR_FORCE (R336): Triggers armed records through their SOFT units. -/
  | chrForce (h : Hdr) (mask : Nat)
  /-- CHR_READ (R347): Reads DDR capture memory by byte offset. -/
  | chrRead (h : Hdr) (offset len : Nat)
  /-- CHR_STAT_CFG (R348): Configures a histogram or the persistence map. -/
  | chrStatCfg (h : Hdr) (statUnit cfg lo freq : Nat)
  /-- CHR_XSP_START (R352): Starts a cross-spectrum run. -/
  | chrXspStart (h : Hdr) (cfg sig blk avg leaddr : Nat) (bins : List Nat)
  /-- CHR_XSP_STOP (R353): Ends a cross-spectrum run with ABORTED. -/
  | chrXspStop (h : Hdr)
  /-- CHR_SYNC_ARM (R351): Makes a MASTER ready to release CHRONO_SYNC for one shot. -/
  | chrSyncArm (h : Hdr)
  /-- CHR_SELFTEST (R355): Runs the Chronograph memory and comparator self-test and replies when done. -/
  | chrSelftest (h : Hdr)
  /-- SAFETY_STATUS_GET (R357): Returns the safety island registers. -/
  | safetyStatusGet (h : Hdr)
  /-- SAFETY_PARAM_LOAD (R368): Loads a pending safety parameter block after validating it. -/
  | safetyParamLoad (h : Hdr) (block : List Byte)
  /-- SAFETY_PARAM_READ (R368): Returns the confirmed or pending safety parameter block. -/
  | safetyParamRead (h : Hdr) (copy : Nat)
  /-- SAFETY_CONFIRM (R369): Confirms the pending block against its check value, stores it and applies it. -/
  | safetyConfirm (h : Hdr) (check : Nat)
  /-- SAFETY_PROOF_TEST (R370): Runs the safety proof test and replies when done. -/
  | safetyProofTest (h : Hdr)
  /-- SYS_IDENT (R9): Returns device identity, firmware and check values. -/
  | sysIdent (h : Hdr)
  /-- SESSION_OPEN (R381): Phase 1: issues a pending session identifier and device nonce for a role. -/
  | sessionOpen (h : Hdr) (role options : Nat) (nonce : List Byte)
  /-- SESSION_OPEN_PROOF (R381): Phase 2: checks the proof and opens the session with its derived key. -/
  | sessionOpenProof (h : Hdr) (proof : List Byte)
  /-- SESSION_CLOSE (R401): Closes a session at once, discarding unstarted commands. -/
  | sessionClose (h : Hdr)
  /-- SYS_STATUS_GET (R374): Returns system mode, status, trip causes, tick and sessions. -/
  | sysStatusGet (h : Hdr)
  /-- SYS_RESET (R437): Replies and then resets the part. -/
  | sysReset (h : Hdr)
  /-- NET_CFG_SET (R393): Writes management network settings. -/
  | netCfgSet (h : Hdr) (ctrl ip mask gw : Nat)
  /-- SV_SUB_SET (R397): Configures a sampled-value stream subscription. -/
  | svSubSet (h : Hdr) (stream cfg addr confrev sel : Nat)
  /-- GOOSE_SUB_SET (R397): Configures a GOOSE subscription. -/
  | gooseSubSet (h : Hdr) (sub cfg addr confrev : Nat)
  /-- NET_STATUS_GET (R395): Returns network, sampled-value and GOOSE status. -/
  | netStatusGet (h : Hdr)
  /-- NET_FRAME_SEND (R311): Hands a frame to a station port with a stamping request. -/
  | netFrameSend (h : Hdr) (port request ingress : Nat) (frame : List Byte)
  /-- NET_RX_CFG (R391): Configures the network receive ring and Ethertype filters. -/
  | netRxCfg (h : Hdr) (base count : Nat) (ethertypes : List Nat)
  /-- TELEM_CFG_SET (R390): Configures or stops the telemetry ring from the next frame boundary. -/
  | telemCfgSet (h : Hdr) (base count rate decim : Nat) (words : List (Nat × Nat))
  /-- REG_READ (R400): Reads registers with their read side effects. -/
  | regRead (h : Hdr) (addr count : Nat)
  /-- REG_WRITE (R398): Masked write to a register that has no row of its own, under the owning block's rules. -/
  | regWrite (h : Hdr) (addr mask value : Nat)
  /-- REG_WRITE_BLOCK (R399): Judges then writes consecutive registers in one tick, all or nothing. -/
  | regWriteBlock (h : Hdr) (addr : Nat) (values : List Nat)
  /-- PACKET_DISCARD (R379): A packet with bad SYNC or failed UDP tag is discarded and counted. -/
  | packetDiscard (transport : Transport) (tagFailed : Bool)
  /-- STORE_STATUS_GET (R403): Returns store status, bank writes and CFG_CHECK. -/
  | storeStatusGet (h : Hdr)
  /-- STORE (R403): Writes a snapshot of the working copy into the other bank and reads it back. -/
  | store (h : Hdr)
  /-- STORE_REVERT (R405): Copies the bank in use back into the working copy at the next frame boundary. -/
  | storeRevert (h : Hdr)
  /-- STORE_ERASE (R405): Invalidates the configuration regions of both banks. -/
  | storeErase (h : Hdr)
  /-- SEC_STATUS_GET (R407): Returns boot, security status and configuration. -/
  | secStatusGet (h : Hdr)
  /-- FW_LOAD (R408): Writes a chunk into the non-running firmware slot. -/
  | fwLoad (h : Hdr) (slot offset len : Nat) (bytes : List Byte)
  /-- FW_VERIFY (R408): Verifies a firmware slot and returns its result. -/
  | fwVerify (h : Hdr) (slot : Nat)
  /-- FW_SELECT (R408): Makes a verified slot preferred for the next boot. -/
  | fwSelect (h : Hdr) (slot : Nat)
  /-- FW_SVN_COMMIT (R408): Raises MIN_SVN to the running image's SVN. -/
  | fwSvnCommit (h : Hdr)
  /-- KEY_ENROLL (R409): Enrols the customer public key in COMMISSION. -/
  | keyEnroll (h : Hdr) (key : List Byte)
  /-- KEY_REVOKE (R409): Removes the customer key and customer images from the working copy. -/
  | keyRevoke (h : Hdr)
  /-- ROLEKEY_SET (R411): Enrols or unenrols a wrapped role key. -/
  | rolekeySet (h : Hdr) (role : Nat) (wrapped : BitVec 256)
  /-- ATTEST_QUOTE (R413): Builds and signs a quote after reserving a signing index. -/
  | attestQuote (h : Hdr) (nonce : List Byte)
  /-- ATTEST_READ (R413): Returns a chunk of the last quote's signature. -/
  | attestRead (h : Hdr) (offset len : Nat)
  /-- IDENTITY_GET (R412): Returns a chunk of the identity public key and certificate. -/
  | identityGet (h : Hdr) (offset len : Nat)
  /-- SEC_CFG_SET (R413): Writes SEC_CFG. -/
  | secCfgSet (h : Hdr) (cfg : Nat)
  /-- LOG_STATUS_GET (R417): Returns change-log positions, policy, status and head chain. -/
  | logStatusGet (h : Hdr)
  /-- LOG_READ (R417): Returns change-log entries by SEQ. -/
  | logRead (h : Hdr) (first count : Nat)
  /-- LOG_ACK (R417): Marks entries up to a SEQ as exported. -/
  | logAck (h : Hdr) (seq : Nat)
  /-- LOG_CFG_SET (R417): Sets the change-log full-ring policy. -/
  | logCfgSet (h : Hdr) (cfg : Nat)
  /-- INT_STATUS_GET (R423): Returns integrity configuration, status, boundary counters and boot tests. -/
  | intStatusGet (h : Hdr)
  /-- INT_CFG_SET (R423): Writes the integrity escalation thresholds. -/
  | intCfgSet (h : Hdr) (cfg : Nat)
  /-- INT_INJECT (R427): Inverts one bundle check bit to prove the integrity monitors. -/
  | intInject (h : Hdr) (boundary index : Nat)
  /-- SV_USERCTL_COMMIT (R72): Write of COMMIT marks both Sieve user-set shadows for transfer. -/
  | svUserctlCommit (h : Hdr)
  /-- SHAPE_CTRL_COMMIT (R178): Write of COMMIT checks the shadow shape bank and schedules the exchange. -/
  | shapeCtrlCommit (h : Hdr)
  /-- LST_COMMIT (R258): Write of a leg's commit bit releases its shadow set for the next reload. -/
  | lstCommit (h : Hdr) (legs : Nat)
  /-- SYS_TLMAX_CLR (R25): Write of CLR clears the latest completion times. -/
  | sysTlmaxClr (h : Hdr)
  /-- CHR_HIST_CLR (R348): Write of CLR zeroes a histogram or the map at the next strobe. -/
  | chrHistClr (h : Hdr) (statUnit : Nat)
  /-- ALM_INCL_WRITE (R304): Write to ALM_INCL stages the low increment word. -/
  | almInclWrite (h : Hdr) (value : Nat)
  /-- ALM_INCH_WRITE (R304): Write to ALM_INCH submits the 36-bit increment. -/
  | almInchWrite (h : Hdr) (value : Nat)
  /-- ALM_NS_READ (R302): Read of ALM_NS captures seconds and fraction of the same cycle. -/
  | almNsRead (h : Hdr)
  /-- HKCN_DATA_READ (R64): Read of HKCn_DATA returns the result and clears NEW. -/
  | hkcnDataRead (h : Hdr) (conv : Nat)
  /-- TD_MAG2_READ (R77): Read of a detector's MAG2 captures its phase of the same block. -/
  | tdMag2Read (h : Hdr) (engine det : Nat)
  /-- ALM_TXTS_ID_READ (R312): Read of ALM_TXTSp_ID moves the oldest transmit stamp into the registers. -/
  | almTxtsIdRead (h : Hdr) (port : Nat)
  /-- MB_DB (R389): Doorbell write submits the packet of a free command slot. -/
  | mbDb (slot : Nat)
  /-- MB_READY_RELEASE (R389): Writing 1 to a MB_READY bit releases the slot pair. -/
  | mbReadyRelease (mask : Nat)
  /-- WRITE_PACKET (R392): SPI transaction submitting a packet on the rise of HSPI_CS_N. -/
  | writePacket (bytes : List Byte)
  /-- READ_STATUS (R392): SPI transaction returning port status and reply length, clearing OVF. -/
  | readStatus
  /-- READ_REPLY (R392): SPI transaction returning the reply, clearing REPLY when complete. -/
  | readReply (count : Nat)
  /-- POWER_UP (R434): Supply ramp watched by the supervisor, holding reset on ordering or slew violations. -/
  | powerUp (rises : List RailRise)
  /-- POWER_DOWN (R435): Supply fall watched for analogue rails held over 10 ms. -/
  | powerDown (down anaUs allDownUs aonDownUs : Nat)
  /-- BROWN_OUT (R436): A rail below its brown-out threshold asserts internal reset. -/
  | brownOut (rail : Nat)
  /-- RESET_N_LOW (R437): A low on RESET_N asserts internal reset. -/
  | resetNLow (ns : Nat) (taken : Bool)
  /-- THERMAL_LIMIT (R445): The die comparator above 125 °C asserts internal reset; above 115 °C sets THERM_HOT. -/
  | thermalLimit (deg : Int)
  /-- RESET_RELEASE (R438): Internal reset releases 2 ms after the last condition and boot runs to the mode decision. -/
  | resetRelease (boot : BootIn)
  /-- TB_CLOCK_LOSS (R264): Loss of the timebase clock drives legs safe asynchronously and raises CLOCK. -/
  | tbClockLoss
  /-- TB_CLOCK_RETURN (R317): Return of the timebase clock resumes Almanac with TIME_INVALID set. -/
  | tbClockReturn
  /-- CORE_CLOCK_LOSS (R326): Loss of the core clock releases transmit disables, soft-stops legs and records CLOCK. -/
  | coreClockLoss
  /-- LANE_CLOCK_LOSS (R326): Loss of the lane clock stops transmitting lanes. -/
  | laneClockLoss
  /-- DDR_CLOCK_LOSS (R346): Loss of the DDR clock clears DDR_OK and drops DDR-bound instants. -/
  | ddrClockLoss
  /-- MONITOR_WINDOW (R325): End of a 512-cycle monitor window checks every clock count. -/
  | monitorWindow (counts : List (Nat × Nat))
  /-- MDLL_LOCK_LOST (R320): An MDLL loses lock and acquires again. -/
  | mdllLockLost (mdll : Nat)
  /-- MDLL_LOCKED (R320): An MDLL completes band search and lock. -/
  | mdllLocked (mdll band : Nat)
  /-- CDC_TIMEOUT (R332): A crossing's source sends no edge for 4,096 destination cycles. -/
  | cdcTimeout (xid : Nat)
  /-- TICK_BOUNDARY (R14): Input latch at timebase cycle 0: per-tick inputs latched and the tick's mode and role take effect. -/
  | tickBoundary (unstable overflow : List Nat)
  /-- ADC_STROBE (R48): All converters sample on the common strobe. -/
  | adcStrobe
  /-- CONVERSION_DONE (R50): A converter result is corrected and bundled. -/
  | conversionDone (conv : Nat) (code : Int) (bad : Bool)
  /-- CONVERSION_FAULT (R55): A result not ready 125 ns after its strobe is replaced and flagged. -/
  | conversionFault (conv : Nat) (bad : Bool)
  /-- SIEVE_CONTROL_BURST (R67): Sieve computes the control outputs of all channels. -/
  | sieveControlBurst (done bad : Nat)
  /-- SIEVE_RECORDER_EVAL (R70): Sieve evaluates recorder outputs every 4 strobes. -/
  | sieveRecorderEval (strobe bad : Nat)
  /-- COEF_ECC_ERROR (R73): Uncorrectable user-set coefficient error switches its channels to RAW. -/
  | coefEccError (setNo : Nat)
  /-- TONE_BLOCK_DONE (R77): A tone detector completes a block and reports it. -/
  | toneBlockDone (engine det : Nat)
  /-- INPUT_RELEASE (R14): At cycle 110 latched inputs and Sieve outputs become readable. -/
  | inputRelease
  /-- TASK_START (R86): A Loop Engine task run starts at its offset or rate boundary. -/
  | taskStart (engine task : Nat) (run : TaskRun)
  /-- TASK_END (R88): A task executes END and commits its buffer. -/
  | taskEnd (engine task : Nat) (differs : Bool)
  /-- TASK_DEADLINE (R84): At a task's deadline offset its commits become readable, or the run is abandoned. -/
  | taskDeadline (engine task : Nat) (shadowMiss : Bool)
  /-- DEG_TMO_EXPIRY (R91): A degraded part still ACTIVE after DEG_TMO raises DLMISS_K. -/
  | degTmoExpiry
  /-- SEQUENCER_LATCH (R15): At cycle 184 task outputs are taken and the Sequencer and Thresher run. -/
  | sequencerLatch (bad : List Nat) (shadowBad : Bool)
  /-- FRAME_RELEASE (R14): At cycle 221 results go to the Sheaf controller. -/
  | frameRelease (bad : List Nat) (done : Nat)
  /-- LAUNCH (R20): Downlink frames leave every lane at the launch offset. -/
  | launch
  /-- GRANARY_LAUNCH (R285): A Granary frame is sent at cycle 232. -/
  | granaryLaunch
  /-- UPLINK_FRAME_RECEIVE (R242): An uplink frame is received, checked and entered for its lane. -/
  | uplinkFrameReceive (lane : Nat) (spaced : Bool) (train marker : Nat) (line : List Bool) (arr : Int) (bad : List Nat)
  /-- BULK_MESSAGE_RECEIVE (R246): A complete bulk message from a hub is taken. -/
  | bulkMessageReceive (lane : Nat)
  /-- LOSS_OF_LOCK (R212): Four bad or missing markers lose lock. -/
  | lossOfLock (lane : Nat)
  /-- LOS_ASSERT (R212): LN_LOSn or GR_LOSn high causes loss of lock. -/
  | losAssert (lane : Nat) (high : Bool)
  /-- UPLINK_LOSS_TOL (R242): No usable uplink frame for LANE_TOL ticks makes LANE active. -/
  | uplinkLossTol (lane : Nat)
  /-- IDLE_ENTRY_COMPLETE (R221): A lane holds differential zero from the launch of tick n + 3. -/
  | idleEntryComplete (lane : Nat)
  /-- EXIT_BURST (R222): TXEN_LEAD ticks after transmitter enable the lane sends burst and training markers. -/
  | exitBurst (lane : Nat)
  /-- BRINGUP_TMO_EXPIRY (R220): A bring-up or deferred deblock wait exceeds BRINGUP_TMO. -/
  | bringupTmoExpiry
  /-- BULK_RESEND (R244): NEXT unchanged for 64 ticks resends from the oldest unacknowledged cell. -/
  | bulkResend (lane : Nat)
  /-- HUB_REPLY_TIMEOUT (R247): No hub reply within 100 ms. -/
  | hubReplyTimeout
  /-- GRANARY_FRAME_RECEIVE (R285): A Granary frame from the twin is received and staged. -/
  | granaryFrameReceive (lane : Nat) (spaced : Bool) (train marker : Nat) (line : List Bool) (arr : Int) (items : List (Nat × List Int))
    (status : GrStatus)
  /-- ACTIVE_IN_EDGE (R280): An ACTIVE_IN edge closes a half-period and is decoded. -/
  | activeInEdge (cyc : Nat)
  /-- ACTIVE_IN_TIMEOUT (R280): No ACTIVE_IN edge for 3,000 ns sets REEVE_LOST. -/
  | activeInTimeout
  /-- HEALTH_WORD_RECEIVE (R283): The Reeve receives and checks a twin's health word. -/
  | healthWordReceive (twin : Nat) (clean : Bool) (word : Nat)
  /-- HEARTBEAT_LOSS (R293): No heartbeat edge from a twin for 3,000 ns. -/
  | heartbeatLoss (twin : Nat)
  /-- REEVE_FIRST_GRANT (R295): The Reeve makes its first grant once enabled, set and a heartbeat is present. -/
  | reeveFirstGrant
  /-- HANDOVER_TMO (R300): SW_REQ clears after 100 ms without a role change. -/
  | handoverTmo
  /-- PATH_TEST_END (R299): The path test duration elapses and results are returned. -/
  | pathTestEnd
  /-- REST_TIME_END (R40): A shutdown sequence and its rest time end and a pending enable is rechecked and executed. -/
  | restTimeEnd (cls : Nat)
  /-- RT_MAX_EXPIRY (R34): RIDE-THROUGH lasting RT_MAX raises RT_TIMEOUT. -/
  | rtMaxExpiry
  /-- BLOCKING_RAMP_END (R35): The blocking ramp ends and the mode becomes BLOCKED. -/
  | blockingRampEnd
  /-- DETECTOR_COUNT (R136): A fault detector's consecutive-tick count reaches its limit. -/
  | detectorCount (det : Nat)
  /-- AC_RECOVERY (R139): Recovery conditions held for REC_T clear ACF. -/
  | acRecovery
  /-- DC_STAGE_TIMER (R141): A DC fault stage timer or recovery count ends its stage or clears DCF. -/
  | dcStageTimer
  /-- DCF_NOCLR (R144): CLEAR not ended within DCF_TCLR raises KERNEL. -/
  | dcfNoclr
  /-- ENERGIZE_FAIL (R161): An energization stage time limit or failure condition raises ENERGIZE_FAIL. -/
  | energizeFail
  /-- RAMP_STEP_TIMER (R170): A ramp channel's step timer expires and the value moves one LSB. -/
  | rampStepTimer (ch : Nat)
  /-- SHAPE_COPY_DONE (R178): The new shadow shape bank has received its copy. -/
  | shapeCopyDone
  /-- CFG_CHECK_DONE (R406): CFG_CHECK recomputation completes. -/
  | cfgCheckDone
  /-- HKC_ENTRY_COMPLETE (R60): A housekeeping entry completes and its result lands in HKCn_DATA. -/
  | hkcEntryComplete (conv code : Nat)
  /-- HKC_INJ_TRIGGER (R62): An injected trigger starts the injected sequence. -/
  | hkcInjTrigger (conv src sel : Nat)
  /-- FOREGROUND_CAL_DONE (R51): Foreground calibration completes. -/
  | foregroundCalDone (fits : List (Option (Int × Int)))
  /-- CAL_DWELL_END (R53): A background calibration dwell ends and coefficients are scheduled or rejected. -/
  | calDwellEnd (bank : Nat)
  /-- REFSEL_SETTLE_END (R47): 5 ms after a reference change foreground calibration starts. -/
  | refselSettleEnd
  /-- ROTATION_COPY_DONE (R100): The rotation copy completes. -/
  | rotationCopyDone
  /-- ROTATION_SHADOW_END (R100): The shadow frames end and handover follows. -/
  | rotationShadowEnd
  /-- LE_BIST_DONE (R100): The freed engine's self-test completes. -/
  | leBistDone (pass : Bool)
  /-- DEBUG_HALT (R102): A debug halt of an engine or the Local Stage begins. -/
  | debugHalt (blk : Nat)
  /-- DEBUG_HALT_END (R263): A debug halt ends and counting resumes. -/
  | debugHaltEnd (blk : Nat)
  /-- HALT_HOLD_EXPIRY (R263): A halt exceeds HALT_HOLD and running legs soft-stop. -/
  | haltHoldExpiry
  /-- LEG_RELOAD (R257): A leg counter reaches 0 counting up and loads its shadows. -/
  | legReload (leg : Nat)
  /-- SOFT_TURNOFF_END (R251): SOFT_T elapses and the leg goes to REST or FAULT. -/
  | softTurnoffEnd (leg : Nat)
  /-- LEG_REST_END (R253): A leg's REST elapses to OFF or a pending enable. -/
  | legRestEnd (leg : Nat)
  /-- EVT_PIN_CHANGE (R261): A filtered EVT pin level change. -/
  | evtPinChange (pin cyc : Nat) (high : Bool)
  /-- DESAT_DETECT (R268): Three counting high samples latch desaturation and force the leg safe. -/
  | desatDetect (sw cyc : Nat) (high : Bool)
  /-- UV_ACCEPT (R269): An asserted under-voltage held for UV_FLT is accepted. -/
  | uvAccept (sw cyc : Nat) (neg : Bool)
  /-- SAFETY_EVALUATION (R357): The safety island evaluates inputs and functions every 100 µs. -/
  | safetyEvaluation (levels moved readback : Nat) (apart osc : Bool)
  /-- DISCREPANCY_TIMEOUT (R360): A MIXED input lasting DISC latches DISC_FLT. -/
  | discrepancyTimeout (input : Nat)
  /-- STOP1_DELAY_END (R361): A category 1 stop withholds its outputs. -/
  | stop1DelayEnd (fn : Nat)
  /-- OUTPUT_TEST_PULSE (R366): An energised safe output channel is pulsed off for OTP_W. -/
  | outputTestPulse (out chan : Nat) (readsBack : Bool)
  /-- EDM_TIMEOUT (R366): An EDM input fails to follow its output within EDM_T. -/
  | edmTimeout (out : Nat)
  /-- STEP_APPLY (R308): A time step is applied at cycle 256 and the tick in progress ends. -/
  | stepApply
  /-- HOLDOVER_TIMEOUT (R315): No increment or Sync for HOLD_TMO sets HOLDOVER. -/
  | holdoverTimeout
  /-- STATION_FRAME_RECEIVE (R391): A station-port frame is stamped and forwarded to the receive ring. -/
  | stationFrameReceive (port cyc : Nat) (dev : Int) (frame : List Byte) (own : Bool) (servo : ServoAct)
  /-- TX_EGRESS_STAMP (R311): A frame leaves a station port and is stamped. -/
  | txEgressStamp (port cyc : Nat) (dev : Int)
  /-- SV_FRAME_RECEIVE (R395): A subscribed sampled-value frame is dated and written. -/
  | svFrameReceive (port cyc : Nat) (dev : Int) (frame : SvFrame)
  /-- SV_STALE (R395): No sample for 4 periods clears VALID. -/
  | svStale (stream : Nat)
  /-- GOOSE_MESSAGE_RECEIVE (R396): A subscribed GOOSE message is taken. -/
  | gooseMessageReceive (msg : GooseMsg)
  /-- GOOSE_TTL_EXPIRY (R396): No message within timeAllowedToLive clears VALID and applies LOSS. -/
  | gooseTtlExpiry (sub : Nat)
  /-- TRIG_PIN_EDGE (R336): An accepted TRIG pin edge. -/
  | trigPinEdge (pin cyc : Nat) (rising : Bool)
  /-- SEGMENT_CLOSE (R339): A segment closes after its last POST instant and its header is written. -/
  | segmentClose (rec : Nat)
  /-- AUTO_REARM (R339): A record re-arms itself after a segment closes. -/
  | autoRearm (rec : Nat)
  /-- SYNC_LINE_FALL (R351): A detected fall of CHRONO_SYNC triggers SYNC_EN records. -/
  | syncLineFall (cyc : Nat)
  /-- BUFFER_OVERFLOW (R345): The elastic buffer fills and DDR-bound instants are dropped. -/
  | bufferOverflow
  /-- BUFFER_DRAINED (R345): Buffer fill falls to 2 MiB and capture resumes. -/
  | bufferDrained
  /-- XSP_BLOCK_END (R352): A cross-spectrum block ends and its accumulators update or results are written. -/
  | xspBlockEnd
  /-- TELEMETRY_RECORD (R390): A telemetry record is written to host memory. -/
  | telemetryRecord (rd : Nat)
  /-- SESSION_IDLE_EXPIRY (R382): A session with no accepted command for SESSION_IDLE closes. -/
  | sessionIdleExpiry (session : Nat)
  /-- PENDING_ID_EXPIRY (R381): A pending session identifier without phase 2 for 10 s is discarded. -/
  | pendingIdExpiry (ident : Nat)
  /-- AUTH_LOCK_END (R382): A role's 60 s authentication lock ends. -/
  | authLockEnd (role : Nat)
  /-- STORE_COMPLETE (R403): The STORE write and read-back end up to 40 ms after acceptance, switching the bank in use or recording STORE_FAILED, and STORE replies. -/
  | storeComplete (readsBack : Bool)
  /-- PROOF_TEST_COMPLETE (R370): The safety proof test ends up to 2 s after its start, either re-enabling outputs and resetting PROOF_AGE or latching SAFE_FAULT, and SAFETY_PROOF_TEST replies. -/
  | proofTestComplete (pass : Bool)
  /-- SELFTEST_COMPLETE (R355): The Chronograph self-test, run at lowest priority, finishes and sets SELFTEST_FAIL or not before CHR_SELFTEST replies. -/
  | selftestComplete (pass : Bool)
  /-- SOFT_RESET (R437): Within 10 ms after replying to SYS_RESET the part asserts internal reset for 100 µs, closing every session and losing arriving commands. -/
  | softReset
  /-- UV_RELEASE (R272): A UVP or UVN comparator input rises above threshold plus hysteresis and UVP_NOW or UVN_NOW clears. -/
  | uvRelease (sw : Nat) (neg : Bool)
  /-- HEARTBEAT_RETURN (R293): A heartbeat edge arrives on REEVE_HBA or REEVE_HBB after the heartbeat was missing, so the twin's heartbeat is present again. -/
  | heartbeatReturn (twin : Nat)
  /-- TP_TEST_PULSE (R359): A test-pulse source TPk drives low for TP_W once per TP_PER at its offset, and the inputs fed from it are checked for TP_FLT. -/
  | tpTestPulse (source high : Nat)
  /-- SYNC_LINE_RISE (R351): CHRONO_SYNC rises once every part releases it, so SYNC_LINE reads high and a local trigger may pull it low again. -/
  | syncLineRise (cyc : Nat)
  /-- PROOF_DUE (R370): PROOF_AGE advances each day and PROOF_DUE sets once it exceeds 365. -/
  | proofDue
deriving DecidableEq, Repr

end Sys2Proof
end

