-- ==== Sys2Proof/Config.lean ====
section
/-! DEFINITION. What the spec fixes by name only, and the values it leaves open. Every `opaque` constant here has no
body: no proof can see a value of it, and a claim about it holds whatever it is. -/

namespace Sys2Proof

/-- A task as an image declares it (R85). `rate`: 1 TICK, 2 FRAME, 3 SLOW. -/
structure TaskDecl where
  rate : Nat
  start : Nat
  deadline : Nat
  feedsSeq : Bool
  wcet : Nat
deriving DecidableEq, Repr

/-- A bumpless pair (R94): its type, the byte addresses of integrator and error in state memory, gain indices p and q. -/
structure Bumpless where
  typeI : Bool
  iAddr : Nat
  eAddr : Nat
  p : Nat
  q : Nat
deriving DecidableEq, Repr

/-- A range of mirrored state memory (R92, R285): byte address, 16-bit words, whether it is marked TICK, whether its values wrap,
whether they are 32 bits wide (two words each, low word first). -/
structure MirrorDecl where
  addr : Nat
  words : Nat
  tick : Bool
  wrap : Bool
  wide : Bool
deriving DecidableEq, Repr

/-- A task of an image (R85): its schedule, entry address, mirrored ranges and injection points, each with the byte address of its
monitor word where it declares one. -/
structure ImageTask extends TaskDecl where
  entry : Nat
  mirror : List MirrorDecl
  points : List (Nat × Option Nat)
deriving DecidableEq, Repr

/-- What a customer image holds for one engine (R98): task table, program, initial state (byte address and word), bumpless pairs,
integer bits m of the gain formats, Region Selector settings (register offset and word). -/
structure EngineDecl where
  engine : Nat
  tasks : List ImageTask
  code : List (BitVec 8)
  state : List (Nat × Nat)
  pairs : List Bumpless
  formats : List Nat
  region : List (Nat × Nat)
deriving DecidableEq, Repr

end Sys2Proof

namespace Sys2Proof.Config

/-- The content of a customer image's body (R98 lists it; its layout is not in the spec); `none`: malformed. -/
opaque imageParts : List (BitVec 8) → Option (List EngineDecl)

/-- The generator and scan tasks that the Keamen image declares for LE22 and LE23 (R79), by firmware version and engine. -/
opaque generatorTasks : Nat → Nat → List TaskDecl

/-- A word of a kernel engine's data memory, by engine, byte address and the kernel's state variables (the spec gives no addresses). -/
opaque kernelWord : Nat → Nat → List (Nat × Int) → BitVec 16

/-- The byte address of the monitor word of a kernel engine's injection point, where its task declares one (R85). -/
opaque kernelMonitor : Nat → Nat → Option Nat

/-- What scratch memory holds after an event that does not preserve it (R80), by the count of such events, engine and byte address. -/
opaque scratchWord : Nat → Nat → Nat → BitVec 16

/-- A value that the spec leaves open, by the count of such values taken (`Hw.free`), as a 32-bit word. -/
opaque freeWord : Nat → BitVec 32

/-- SHAKE256 of a byte string, as the first `bits` bits of its output read little-endian (R402, R406, R416; the
algorithm is FIPS 202's, which the spec names and does not restate). -/
opaque shake256 (data : List Byte) (bits : Nat) : Nat

/-- KMAC256 of NIST SP 800-185 (R377, R381, R411): key, input, output length in bits, customisation string. -/
opaque kmac256 (key : BitVec 256) (data : List Byte) (bits : Nat) (custom : String) : Nat

/-- The count of data words of a Granary segment and each of them (R285 gives the room and the items, not the packing). -/
opaque granaryWords : GrData → Nat
opaque granaryWord : GrData → Nat → BitVec 16

/-- Whether an XMSS-SHAKE256_20_256 signature verifies against a public key (Table STO-3, R407, R410). -/
opaque xmssVerify (publicKey message signature : List Byte) : Bool

/-- The signature of a message under the part's identity key with a signing index (R412). -/
opaque xmssSign (index : Nat) (message : List Byte) : List Byte

/-- The Keamen public key whose digest the boot ROM holds (R407). -/
opaque keamenKey : List Byte

/-- The identity public key (68 bytes) followed by Keamen's certificate (2,820 bytes), written at manufacture (R412). -/
opaque identity : List Byte

/-- The part's 64-bit serial number (SYS_IDENT, Table STO-5). -/
opaque serial : BitVec 64

/-- The configuration formats that the running firmware accepts (R405), by firmware version and format. -/
opaque cfgFmtAccepted : Nat → Nat → Bool

/-- A word of the configuration store window whose content the spec does not lay out, by bank, WRITES of the bank and offset. -/
opaque storeWord : Nat → Nat → Nat → BitVec 32

/-- The configuration format the running firmware writes (Table STO-2), by firmware version. -/
opaque cfgFmt : Nat → Nat

/-- The contents of the Boot ROM, byte by byte (Table TCK-13 gives its window; the spec gives no contents). -/
opaque bootRom : Nat → Byte

/-- Which way an exact quotient that is not an integer is rounded, where the spec states no rounding. -/
opaque roundUp : Int → Int → Bool

/-- Which of the values next to the exact one the tone detectors' interpolated 18-bit table gives for the sine and the cosine of a
32-bit angle (R76 gives the width, not the entries). -/
opaque toneSin : Nat → Int
opaque toneCos : Nat → Int

/-- The phase that a tone detector reports where both sums are 0 (R76 gives none). -/
opaque tonePhaseZero : BitVec 16

/-- The angle that the scan task publishes where G_UY is 0 (R354 gives none). -/
opaque scanAngleZero : BitVec 16

/-- ROM coefficients of the fixed filter sets by set code and age (R69: the manual does not list them). -/
opaque romCoef : Nat → Nat → BitVec 16

/-- Which value SINCOS and ATAN2 give within the error that the spec allows them (R82, R116). -/
opaque sinPick : Nat → Int
opaque cosPick : Nat → Int
opaque atanPick : Int → Int → Int

/-- What the n-th Chronograph self-test leaves in a byte of its areas (R355 gives the areas, not the patterns). -/
opaque testByte : Nat → Nat → Byte

/-- A 64-bit word of the DDR at a byte offset holds an uncorrectable error when it is read in a given timebase cycle (R347 gives the
reply, not what strikes the memory). -/
opaque ddrBad : Nat → Nat → Bool

/-- What a quotient with divisor 0 gives, where the spec states no result. -/
opaque divZero : Int → Int

/-- The key that tags a UDP reply whose SESSION names no open session (R377 gives one for SESSION = 0 and for sessions only). -/
opaque strayKey : Nat → BitVec 256

/-- The gains of the tracking law of R127, which the spec gives by its kind and its bandwidth only: proportional and integral, in
units of w per unit of v_q / vmf. -/
opaque trackKp : Int
opaque trackKi : Int

end Sys2Proof.Config
end

