-- ==== Sys2Proof/Machine/RegMap.lean ====
section
/-! DEFINITION. The register map of the part: one descriptor for each register description of the spec (its offset,
its reset value, and by field the access code of Table SCO-4), and one named field for each row of each field table.
Addresses are those of the internal 32-bit address space (Table TCK-13, R27). The BAR2 control registers (Table CMD-16)
have no address there; the model keys them at 0x8000_0000 + their BAR2 offset, outside every window. -/

namespace Sys2Proof.Machine

/-- A field of a register: its register's address and its bits [hi:lo]. -/
structure Fld where
  addr : Nat
  hi : Nat
  lo : Nat
deriving DecidableEq, Repr

/-- A register description. The register (i, j) lies at `base + i * s1 + j * s2` for i below `n1` and j below `n2`.
The masks hold the bits of the fields by access code of Table SCO-4; every other bit is RO or reserved. -/
structure RegDesc where
  base : Nat
  n1 : Nat
  s1 : Nat
  n2 : Nat
  s2 : Nat
  reset : Nat
  rws : Nat
  rw : Nat
  w1c : Nat
  wo : Nat
deriving DecidableEq, Repr

/-- The description covers address `a`. -/
def RegDesc.covers (r : RegDesc) (a : Nat) : Bool :=
  if a < r.base then false
  else
    let o := a - r.base
    let i := if r.s1 = 0 then 0 else o / r.s1
    let p := if r.s1 = 0 then o else o % r.s1
    let j := if r.s2 = 0 then 0 else p / r.s2
    let q := if r.s2 = 0 then p else p % r.s2
    decide (q = 0) && decide (i < r.n1) && decide (j < r.n2)

/-- Register descriptions of the Sys window. -/
def regTableSys : List RegDesc :=
  [ ⟨0x20000000, 1, 0x0, 1, 0x0, 0x46081101, 0x0, 0x0, 0x0, 0x0⟩  -- SYS_DEVID
  , ⟨0x20000010, 1, 0x0, 1, 0x0, 0x0, 0x0, 0x0, 0x0, 0x0⟩  -- SYS_TICKNUM
  , ⟨0x20000020, 1, 0x0, 1, 0x0, 0x384, 0x7ff, 0x0, 0x0, 0x0⟩  -- SYS_TICKCFG
  , ⟨0x20000024, 1, 0x0, 1, 0x0, 0x0, 0x0, 0x0, 0x1f, 0x0⟩  -- SYS_TISTAT
  , ⟨0x20000028, 1, 0x0, 1, 0x0, 0x0, 0x0, 0x0, 0x0, 0x80000000⟩  -- SYS_TLMAX
  , ⟨0x20000030, 1, 0x0, 1, 0x0, 0x0, 0x0, 0x0, 0x1000000, 0x0⟩  -- SYS_MODE
  , ⟨0x20000034, 1, 0x0, 1, 0x0, 0xbb80080, 0xffff00bf, 0x0, 0x0, 0x0⟩  -- SYS_MODECFG
  , ⟨0x20000038, 1, 0x0, 1, 0x0, 0x0, 0x0, 0x0, 0x0, 0x0⟩  -- SYS_TRIPCAUSE
  , ⟨0x2000003c, 1, 0x0, 1, 0x0, 0x0, 0x0, 0x0, 0x3f00, 0x0⟩  -- SYS_PEND
  , ⟨0x20000040, 1, 0x0, 1, 0x0, 0xa140333, 0xffffffff, 0x0, 0x0, 0x0⟩  -- SYS_BLKCFG
  , ⟨0x20000080, 1, 0x0, 1, 0x0, 0x0, 0x0, 0x0, 0xff00, 0x0⟩  -- SYS_RSTCAUSE
  , ⟨0x20000084, 1, 0x0, 1, 0x0, 0x0, 0x0, 0x0, 0x200, 0x0⟩  -- SYS_PWRSTAT
  , ⟨0x20000088, 1, 0x0, 1, 0x0, 0x44a, 0x7fff, 0x0, 0x0, 0x0⟩  -- SYS_IOCFG
  ]

/-- Register descriptions of the Fast window. -/
def regTableFast : List RegDesc :=
  [ ⟨0x20030000, 1, 0x0, 1, 0x0, 0x18, 0x19, 0x0, 0x0, 0x0⟩  -- FCH_CTRL
  , ⟨0x20030010, 1, 0x0, 1, 0x0, 0x0, 0x0, 0x0, 0xffffffff, 0x0⟩  -- FCH_OVRNG
  , ⟨0x20030014, 1, 0x0, 1, 0x0, 0x0, 0x0, 0x0, 0xffffffff, 0x0⟩  -- FCH_PLFAIL
  , ⟨0x20030018, 1, 0x0, 1, 0x0, 0x0, 0x0, 0x0, 0x0, 0x0⟩  -- FCH_CONVFLT
  , ⟨0x20030020, 2, 0x4, 1, 0x0, 0x100820, 0xffff3f, 0x0, 0x0, 0x0⟩  -- FCH_SPAREn
  , ⟨0x20030028, 1, 0x0, 1, 0x0, 0x40, 0xffff, 0x0, 0x0, 0x0⟩  -- FCH_PLTHR
  , ⟨0x2003002c, 1, 0x0, 1, 0x0, 0x0, 0x0, 0x0, 0x3, 0x0⟩  -- FCH_CALSTAT
  , ⟨0x20030100, 32, 0x4, 1, 0x0, 0x40000000, 0xffffffff, 0x0, 0x0, 0x0⟩  -- FCH_CALn
  ]

/-- Register descriptions of the Hkc window. -/
def regTableHkc : List RegDesc :=
  [ ⟨0x20050000, 2, 0x100, 1, 0x0, 0x3000200, 0xc71fdfff, 0x0, 0x0, 0x0⟩  -- HKCn_CFG
  , ⟨0x20050010, 2, 0x100, 32, 0x4, 0x1f, 0x1f, 0x0, 0x0, 0x0⟩  -- HKCn_SEQm
  , ⟨0x20050090, 2, 0x100, 4, 0x4, 0x1f, 0x1f, 0x0, 0x0, 0x0⟩  -- HKCn_INJm
  , ⟨0x200500a0, 2, 0x100, 1, 0x0, 0x0, 0x7f, 0x0, 0x0, 0x0⟩  -- HKCn_INJCFG
  , ⟨0x200500b0, 2, 0x100, 1, 0x0, 0x0, 0x0, 0x0, 0x0, 0x0⟩  -- HKCn_DATA
  , ⟨0x200500b4, 2, 0x100, 1, 0x0, 0x0, 0x0, 0x0, 0xf, 0x0⟩  -- HKCn_STAT
  , ⟨0x20050200, 1, 0x0, 1, 0x0, 0x2000, 0xfffff, 0x0, 0x0, 0x0⟩  -- HKC_PLCFG
  ]

/-- Register descriptions of the Sieve window. -/
def regTableSieve : List RegDesc :=
  [ ⟨0x20040000, 2, 0x100, 16, 0x4, 0x50, 0xff, 0x0, 0x0, 0x0⟩  -- SVn_CHk
  , ⟨0x20040080, 2, 0x100, 1, 0x0, 0x0, 0x0, 0x0, 0xffff0004, 0x0⟩  -- SVn_STAT
  , ⟨0x20040f00, 1, 0x0, 1, 0x0, 0x0, 0xffff, 0x0, 0x0, 0x80000000⟩  -- SV_USERCTL
  , ⟨0x20041000, 2, 0x100, 64, 0x4, 0x0, 0xffffffff, 0x0, 0x0, 0x0⟩  -- SV_USERm_COEFj
  , ⟨0x20042000, 2, 0x200, 16, 0x10, 0x3e7, 0xc00fffff, 0x0, 0x0, 0x0⟩  -- SVn_TDm_CFG
  , ⟨0x20042004, 2, 0x200, 16, 0x10, 0xc80, 0xffffff, 0x0, 0x0, 0x0⟩  -- SVn_TDm_FREQ
  , ⟨0x20042008, 2, 0x200, 16, 0x10, 0x0, 0x0, 0x0, 0x0, 0x0⟩  -- SVn_TDm_MAG2
  , ⟨0x2004200c, 2, 0x200, 16, 0x10, 0x0, 0x0, 0x0, 0x20000000, 0x0⟩  -- SVn_TDm_PH
  ]

/-- Register descriptions of the Cluster window. -/
def regTableCluster : List RegDesc :=
  [ ⟨0x20060000, 1, 0x0, 1, 0x0, 0x100003, 0x7f001f, 0x0, 0x0, 0x0⟩  -- LE_CLCFG
  , ⟨0x20060004, 1, 0x0, 1, 0x0, 0x0, 0x0, 0x0, 0x0, 0x0⟩  -- LE_CLSTAT
  , ⟨0x20060008, 1, 0x0, 1, 0x0, 0x0, 0x0, 0x0, 0xc000000, 0x0⟩  -- LE_ROT
  , ⟨0x20061000, 1, 0x0, 1, 0x0, 0x0, 0xffffffff, 0x0, 0x0, 0x0⟩  -- GFL_BASE0
  , ⟨0x20061004, 1, 0x0, 1, 0x0, 0x0, 0x3ffff, 0x0, 0x0, 0x0⟩  -- GFL_BASE1
  , ⟨0x20061008, 1, 0x0, 1, 0x0, 0xc801f4, 0xffffffff, 0x0, 0x0, 0x0⟩  -- GFL_VSM
  , ⟨0x2006100c, 1, 0x0, 1, 0x0, 0x12c01f4, 0xffffffff, 0x0, 0x0, 0x0⟩  -- GFL_DROOP
  , ⟨0x20061010, 1, 0x0, 1, 0x0, 0x5321414, 0xffffffff, 0x0, 0x0, 0x0⟩  -- GFL_FILT
  , ⟨0x20061014, 1, 0x0, 1, 0x0, 0x10000148, 0xffffffff, 0x0, 0x0, 0x0⟩  -- GFL_ZV
  , ⟨0x20061018, 1, 0x0, 1, 0x0, 0x12c0320, 0xffffffff, 0x0, 0x0, 0x0⟩  -- GFL_CTRL
  , ⟨0x2006101c, 1, 0x0, 1, 0x0, 0x666099a, 0xffffffff, 0x0, 0x0, 0x0⟩  -- GFL_LIND
  , ⟨0x20061020, 1, 0x0, 1, 0x0, 0xa05050a, 0xffffffff, 0x0, 0x0, 0x0⟩  -- GFL_ENERGY
  , ⟨0x20061024, 1, 0x0, 1, 0x0, 0x40002000, 0xffffffff, 0x0, 0x0, 0x0⟩  -- GFL_DCCTL
  , ⟨0x20061028, 1, 0x0, 1, 0x0, 0x0, 0xffff03ff, 0x0, 0x0, 0x0⟩  -- GFL_SM
  , ⟨0x2006102c, 1, 0x0, 1, 0x0, 0x0, 0xffff, 0x0, 0x0, 0x0⟩  -- GFL_CSM
  , ⟨0x20061030, 1, 0x0, 1, 0x0, 0x0, 0xffffffff, 0x0, 0x0, 0x0⟩  -- GFL_AUX
  , ⟨0x20061034, 1, 0x0, 1, 0x0, 0x3330666, 0xffffffff, 0x0, 0x0, 0x0⟩  -- GFL_LIMS
  , ⟨0x20061038, 1, 0x0, 1, 0x0, 0x0, 0x0, 0x0, 0x73f0000, 0x0⟩  -- GFL_STAT
  , ⟨0x20061040, 14, 0x4, 1, 0x0, 0x0, 0x1f00ffff, 0x0, 0x0, 0x0⟩  -- GFL_MAPq
  , ⟨0x20061100, 1, 0x0, 1, 0x0, 0x43334666, 0xffffffff, 0x0, 0x0, 0x0⟩  -- LFT_IMAX
  , ⟨0x20061104, 1, 0x0, 1, 0x0, 0x140a0110, 0xffff0fff, 0x0, 0x0, 0x0⟩  -- LFT_PRIO
  , ⟨0x20061108, 1, 0x0, 1, 0x0, 0x20000666, 0xffffffff, 0x0, 0x0, 0x0⟩  -- LFT_RC
  , ⟨0x2006110c, 1, 0x0, 1, 0x0, 0x3666499a, 0xffffffff, 0x0, 0x0, 0x0⟩  -- LFT_ACDET
  , ⟨0x20061110, 1, 0x0, 1, 0x0, 0x399a4666, 0xffffffff, 0x0, 0x0, 0x0⟩  -- LFT_ACREC
  , ⟨0x20061114, 1, 0x0, 1, 0x0, 0x140500fa, 0xffffffff, 0x0, 0x0, 0x0⟩  -- LFT_ACTIME
  , ⟨0x20061118, 1, 0x0, 1, 0x0, 0x9c47333, 0xffffffff, 0x0, 0x0, 0x0⟩  -- LFT_OC
  , ⟨0x2006111c, 1, 0x0, 1, 0x0, 0x26666000, 0xffffffff, 0x0, 0x0, 0x0⟩  -- LFT_DCDET
  , ⟨0x20061120, 1, 0x0, 1, 0x0, 0x13330a32, 0xffffffff, 0x0, 0x0, 0x0⟩  -- LFT_DCDET2
  , ⟨0x20061124, 1, 0x0, 1, 0x0, 0x800a2000, 0x80ffffff, 0x0, 0x0, 0x0⟩  -- LFT_DCF
  , ⟨0x20061128, 1, 0x0, 1, 0x0, 0x14320333, 0xffffffff, 0x0, 0x0, 0x0⟩  -- LFT_DCF2
  , ⟨0x2006112c, 1, 0x0, 1, 0x0, 0x3200399a, 0xff00ffff, 0x0, 0x0, 0x0⟩  -- LFT_DCREC
  , ⟨0x20061130, 1, 0x0, 1, 0x0, 0xc80ccd, 0xffffffff, 0x0, 0x0, 0x0⟩  -- LFT_REC
  , ⟨0x20061134, 1, 0x0, 1, 0x0, 0xa055333, 0xff0fffff, 0x0, 0x0, 0x0⟩  -- LFT_REPEAT
  , ⟨0x20061138, 1, 0x0, 1, 0x0, 0x46664333, 0xffffffff, 0x0, 0x0, 0x0⟩  -- LFT_CHOP
  , ⟨0x2006113c, 1, 0x0, 1, 0x0, 0xa000a0a, 0xffffffff, 0x0, 0x0, 0x0⟩  -- LFT_CHOP2
  , ⟨0x20061140, 1, 0x0, 1, 0x0, 0x0, 0x0, 0x0, 0xfc0000, 0x0⟩  -- LFT_STAT
  , ⟨0x20061144, 1, 0x0, 1, 0x0, 0x0, 0x0, 0x0, 0x0, 0x0⟩  -- LFT_KCAUSE
  , ⟨0x20061148, 1, 0x0, 1, 0x0, 0x0, 0x0, 0x0, 0x0, 0x0⟩  -- LFT_LAST0
  , ⟨0x2006114c, 1, 0x0, 1, 0x0, 0x0, 0x0, 0x0, 0x0, 0x0⟩  -- LFT_LAST1
  , ⟨0x20061200, 1, 0x0, 1, 0x0, 0x41e3333, 0xffffffff, 0x0, 0x0, 0x0⟩  -- ENG_PRE
  , ⟨0x20061204, 1, 0x0, 1, 0x0, 0x6660148, 0xffffffff, 0x0, 0x0, 0x0⟩  -- ENG_PREI
  , ⟨0x20061208, 1, 0x0, 1, 0x0, 0xa0a0500, 0xffffff00, 0x0, 0x0, 0x0⟩  -- ENG_EQ
  , ⟨0x2006120c, 1, 0x0, 1, 0x0, 0x3333399a, 0xffffffff, 0x0, 0x0, 0x0⟩  -- ENG_DONE
  , ⟨0x20061210, 1, 0x0, 1, 0x0, 0x643c0666, 0xffffffff, 0x0, 0x0, 0x0⟩  -- ENG_BS
  , ⟨0x20061214, 1, 0x0, 1, 0x0, 0x0, 0x0, 0x0, 0x0, 0x0⟩  -- ENG_STAT
  , ⟨0x20061218, 1, 0x0, 1, 0x0, 0x0, 0x0, 0x0, 0x0, 0x0⟩  -- ENG_CRIT
  , ⟨0x20061220, 3, 0x4, 1, 0x0, 0x0, 0x0, 0x0, 0x0, 0x0⟩  -- ENG_NCHGj
  ]

/-- Register descriptions of the Engine window. -/
def regTableEngine : List RegDesc :=
  [ ⟨0x21000000, 24, 0x10000, 1, 0x0, 0x0, 0x0, 0x0, 0x3e000000, 0x0⟩  -- LEn_STAT
  , ⟨0x21000100, 24, 0x10000, 8, 0x10, 0x0, 0x0, 0x0, 0x0, 0x0⟩  -- LEn_TASKm_CFG
  , ⟨0x21000104, 24, 0x10000, 8, 0x10, 0x0, 0x0, 0x0, 0x0, 0x0⟩  -- LEn_TASKm_WCET
  , ⟨0x21000108, 24, 0x10000, 8, 0x10, 0x0, 0x0, 0x0, 0x80000000, 0x0⟩  -- LEn_TASKm_STAT
  , ⟨0x21000040, 24, 0x10000, 1, 0x0, 0x0, 0x8f000000, 0x0, 0x0, 0x0⟩  -- LEn_RSEL
  , ⟨0x21000050, 24, 0x10000, 4, 0x10, 0x0, 0x8003ffff, 0x0, 0x0, 0x0⟩  -- LEn_RINi_ADDR
  , ⟨0x21000054, 24, 0x10000, 4, 0x10, 0x0, 0xffffffff, 0x0, 0x0, 0x0⟩  -- LEn_RINi_TA
  , ⟨0x21000058, 24, 0x10000, 4, 0x10, 0x0, 0xffffffff, 0x0, 0x0, 0x0⟩  -- LEn_RINi_TB
  , ⟨0x21000180, 24, 0x10000, 32, 0x4, 0x0, 0xffffffff, 0x0, 0x0, 0x0⟩  -- LEn_RMAPj
  , ⟨0x21000200, 24, 0x10000, 8, 0x4, 0x6660666, 0xffffffff, 0x0, 0x0, 0x0⟩  -- LEn_INJLIMj
  , ⟨0x21000220, 24, 0x10000, 1, 0x0, 0x0, 0x0, 0x0, 0xff, 0x0⟩  -- LEn_INJSTAT
  ]

/-- Register descriptions of the Ramp window. -/
def regTableRamp : List RegDesc :=
  [ ⟨0x20070000, 2, 0x40, 1, 0x0, 0x20000000, 0xf0000000, 0x0, 0x0, 0x0⟩  -- RMPc_CFG c = 0, 1
  , ⟨0x20070080, 6, 0x40, 1, 0x0, 0x0, 0xf0000000, 0x0, 0x0, 0x0⟩  -- RMPc_CFG c = 2 to 7
  , ⟨0x20070004, 8, 0x40, 1, 0x0, 0x8637c, 0xffffffff, 0x0, 0x0, 0x0⟩  -- RMPc_VMAX
  , ⟨0x20070008, 8, 0x40, 1, 0x0, 0x1197a, 0xffffffff, 0x0, 0x0, 0x0⟩  -- RMPc_AMAX
  , ⟨0x2007000c, 8, 0x40, 1, 0x0, 0x1197a, 0xffffffff, 0x0, 0x0, 0x0⟩  -- RMPc_DMAX
  , ⟨0x20070010, 8, 0x40, 1, 0x0, 0x170ef54, 0xffffffff, 0x0, 0x0, 0x0⟩  -- RMPc_JMAX
  , ⟨0x20070014, 8, 0x40, 1, 0x0, 0x7fff8000, 0xffffffff, 0x0, 0x0, 0x0⟩  -- RMPc_RANGE
  , ⟨0x20070018, 8, 0x40, 1, 0x0, 0x0, 0x1f0fff, 0x0, 0x0, 0x0⟩  -- RMPc_TASK
  , ⟨0x2007001c, 1, 0x0, 1, 0x0, 0x0, 0xffff, 0x0, 0x0, 0x0⟩  -- RMPc_INIT c = 0
  , ⟨0x2007005c, 1, 0x0, 1, 0x0, 0x0, 0xffff, 0x0, 0x0, 0x0⟩  -- RMPc_INIT c = 1
  , ⟨0x2007009c, 1, 0x0, 1, 0x0, 0x4000, 0xffff, 0x0, 0x0, 0x0⟩  -- RMPc_INIT c = 2
  , ⟨0x200700dc, 1, 0x0, 1, 0x0, 0x4000, 0xffff, 0x0, 0x0, 0x0⟩  -- RMPc_INIT c = 3
  , ⟨0x2007011c, 1, 0x0, 1, 0x0, 0x0, 0xffff, 0x0, 0x0, 0x0⟩  -- RMPc_INIT c = 4
  , ⟨0x2007015c, 1, 0x0, 1, 0x0, 0x4000, 0xffff, 0x0, 0x0, 0x0⟩  -- RMPc_INIT c = 5
  , ⟨0x2007019c, 1, 0x0, 1, 0x0, 0x0, 0xffff, 0x0, 0x0, 0x0⟩  -- RMPc_INIT c = 6
  , ⟨0x200701dc, 1, 0x0, 1, 0x0, 0x0, 0xffff, 0x0, 0x0, 0x0⟩  -- RMPc_INIT c = 7
  , ⟨0x20070020, 8, 0x40, 1, 0x0, 0x0, 0x0, 0x0, 0x0, 0x0⟩  -- RMPc_VALUE
  , ⟨0x20070024, 8, 0x40, 1, 0x0, 0x0, 0x0, 0x0, 0x1e000000, 0x0⟩  -- RMPc_STAT
  , ⟨0x20070028, 8, 0x40, 1, 0x0, 0x0, 0x0, 0x0, 0x0, 0x0⟩  -- RMPc_TURN
  , ⟨0x20070400, 1, 0x0, 1, 0x0, 0x0, 0x3, 0x0, 0x0, 0x80000000⟩  -- SHAPE_CTRL
  , ⟨0x20070404, 1, 0x0, 1, 0x0, 0x0, 0x0, 0x0, 0x0, 0x0⟩  -- SHAPE_FUND
  , ⟨0x20070408, 1, 0x0, 1, 0x0, 0x0, 0x0, 0x0, 0x0, 0x0⟩  -- SHAPE_DC
  , ⟨0x20071000, 768, 0x4, 1, 0x0, 0x0, 0xffffffff, 0x0, 0x0, 0x0⟩  -- SHAPE_Sj
  , ⟨0x20072000, 768, 0x4, 1, 0x0, 0x0, 0x0, 0x0, 0x0, 0x0⟩  -- SHAPE_Aj
  ]

/-- Register descriptions of the Sequencer window. -/
def regTableSequencer : List RegDesc :=
  [ ⟨0x20080000, 1, 0x0, 1, 0x0, 0x80000000, 0x80000000, 0x0, 0x0, 0x0⟩  -- VSQ_CTRL
  , ⟨0x20080004, 1, 0x0, 1, 0x0, 0x0, 0x0, 0x0, 0x80000000, 0x0⟩  -- VSQ_THRSTAT
  , ⟨0x20080100, 6, 0x20, 1, 0x0, 0x51042000, 0xffffff7f, 0x0, 0x0, 0x0⟩  -- VSQ_ARMa_CFG
  , ⟨0x20080104, 6, 0x20, 1, 0x0, 0x20080148, 0xffffffff, 0x0, 0x0, 0x0⟩  -- VSQ_ARMa_CFG2
  , ⟨0x20080108, 6, 0x20, 1, 0x0, 0x0, 0x0, 0x0, 0x0, 0x0⟩  -- VSQ_ARMa_STAT
  , ⟨0x2008010c, 6, 0x20, 1, 0x0, 0x0, 0x0, 0x0, 0x0, 0x0⟩  -- VSQ_ARMa_STAT2
  , ⟨0x20080110, 6, 0x20, 1, 0x0, 0x0, 0x0, 0x0, 0x1f, 0x0⟩  -- VSQ_ARMa_FLAGS
  , ⟨0x20080114, 6, 0x20, 1, 0x0, 0x0, 0x0, 0x0, 0x0, 0x0⟩  -- VSQ_ARMa_CNT
  , ⟨0x20081000, 6, 0x1000, 768, 0x4, 0x0, 0xc0000000, 0x0, 0x0, 0x0⟩  -- VSQ_SLOTa_j
  ]

/-- Register descriptions of the Lane window. -/
def regTableLane : List RegDesc :=
  [ ⟨0x22000000, 48, 0x1000, 1, 0x0, 0x40020404, 0xf0ff0ccc, 0x0, 0x0, 0x0⟩  -- LNn_CFG
  , ⟨0x22000004, 48, 0x1000, 1, 0x0, 0x0, 0xffff, 0x0, 0x0, 0x0⟩  -- LNn_ASYM
  , ⟨0x22000008, 48, 0x1000, 1, 0x0, 0x0, 0x0, 0x0, 0x1ff, 0x0⟩  -- LNn_STAT
  , ⟨0x2200000c, 48, 0x1000, 1, 0x0, 0x0, 0x0, 0x0, 0x0, 0x0⟩  -- LNn_DLY
  , ⟨0x22000010, 48, 0x1000, 1, 0x0, 0x0, 0x0, 0x0, 0x0, 0x0⟩  -- LNn_COMP
  , ⟨0x22000014, 48, 0x1000, 1, 0x0, 0x0, 0x0, 0x0, 0x0, 0x0⟩  -- LNn_RTT
  , ⟨0x22000018, 48, 0x1000, 1, 0x0, 0x0, 0x0, 0x0, 0x0, 0x0⟩  -- LNn_ERRCNT
  , ⟨0x22000100, 48, 0x1000, 1, 0x0, 0x0, 0xffffffff, 0x0, 0x0, 0x0⟩  -- LNn_HUBID0
  , ⟨0x22000104, 48, 0x1000, 1, 0x0, 0x0, 0xffffffff, 0x0, 0x0, 0x0⟩  -- LNn_HUBID1
  , ⟨0x22000108, 48, 0x1000, 1, 0x0, 0x0, 0xffffffff, 0x0, 0x0, 0x0⟩  -- LNn_HUBID2
  , ⟨0x2200010c, 48, 0x1000, 1, 0x0, 0x0, 0x0, 0x0, 0x0, 0x0⟩  -- LNn_HUBINFO
  , ⟨0x22000110, 48, 0x1000, 1, 0x0, 0x0, 0x0, 0x0, 0x0, 0x0⟩  -- LNn_HUBFW
  , ⟨0x22000114, 48, 0x1000, 1, 0x0, 0x0, 0x0, 0x0, 0x740000f0, 0x0⟩  -- LNn_HUBSTAT
  , ⟨0x22000120, 48, 0x1000, 3, 0x4, 0x0, 0xffffffff, 0x0, 0x0, 0x0⟩  -- LNn_FBk
  , ⟨0x22000130, 48, 0x1000, 1, 0x0, 0x0, 0x0, 0x0, 0x0, 0x0⟩  -- LNn_ULCNT
  ]

/-- Register descriptions of the Sheaf window. -/
def regTableSheaf : List RegDesc :=
  [ ⟨0x20090100, 1, 0x0, 1, 0x0, 0x640006, 0xff000f, 0x0, 0x0, 0x0⟩  -- SHL_CTRL
  , ⟨0x20090104, 1, 0x0, 1, 0x0, 0x0, 0x0, 0x0, 0x3f000000, 0x0⟩  -- SHL_DSTAT
  , ⟨0x20090200, 1, 0x0, 1, 0x0, 0x1a00, 0xffff, 0x0, 0x0, 0x0⟩  -- SHF_CTRL
  , ⟨0x20090204, 1, 0x0, 1, 0x0, 0x808, 0xffff, 0x0, 0x0, 0x0⟩  -- SHF_TOL
  , ⟨0x20090208, 1, 0x0, 1, 0x0, 0x0, 0x0, 0x0, 0x0, 0x0⟩  -- SHF_STAT
  , ⟨0x20090210, 1, 0x0, 1, 0x0, 0x0, 0x0, 0x0, 0x0, 0x0⟩  -- SHF_LOSTL
  , ⟨0x20090214, 1, 0x0, 1, 0x0, 0x0, 0x0, 0x0, 0x0, 0x0⟩  -- SHF_LOSTH
  ]

/-- Register descriptions of the LocalStage window. -/
def regTableLocalStage : List RegDesc :=
  [ ⟨0x200a0000, 12, 0x20, 1, 0x0, 0x5002000, 0xff80ff00, 0x0, 0x0, 0x0⟩  -- LEGn_CFG
  , ⟨0x200a0004, 12, 0x20, 1, 0x0, 0x7cff, 0xffffff, 0x0, 0x0, 0x0⟩  -- LEGn_PER
  , ⟨0x200a0008, 12, 0x20, 1, 0x0, 0x0, 0x0, 0xc000ffff, 0x0, 0x0⟩  -- LEGn_CMP
  , ⟨0x200a000c, 12, 0x20, 1, 0x0, 0x1100100, 0xffffe7ff, 0x0, 0x0, 0x0⟩  -- LEGn_DT
  , ⟨0x200a0010, 12, 0x20, 1, 0x0, 0x0, 0x1f0fff, 0x0, 0x0, 0x0⟩  -- LEGn_SRC
  , ⟨0x200a0014, 12, 0x20, 1, 0x0, 0x0, 0x0, 0x0, 0xbc00000, 0x0⟩  -- LEGn_STAT
  , ⟨0x200a0200, 1, 0x0, 1, 0x0, 0xa00000a, 0xffff03ff, 0x0, 0x0, 0x0⟩  -- LST_CTRL
  , ⟨0x200a0204, 1, 0x0, 1, 0x0, 0x0, 0x0, 0x0, 0x0, 0xfff⟩  -- LST_COMMIT
  , ⟨0x200a0208, 2, 0x4, 1, 0x0, 0x0, 0xffffffff, 0x0, 0x0, 0x0⟩  -- LST_EVTFLTj
  , ⟨0x200a0240, 4, 0x4, 1, 0x0, 0x0, 0xffe0ffff, 0x0, 0x0, 0x0⟩  -- LST_GRPg_CFG
  , ⟨0x200a0280, 4, 0x20, 8, 0x4, 0x0, 0xfff, 0x0, 0x0, 0x0⟩  -- LST_GRPg_PATk
  ]

/-- Register descriptions of the Protection window. -/
def regTableProtection : List RegDesc :=
  [ ⟨0x200b0000, 24, 0x10, 1, 0x0, 0xc0409900, 0xc1ffff00, 0x0, 0x0, 0x0⟩  -- SWP_SWn_CFG
  , ⟨0x200b0004, 24, 0x10, 1, 0x0, 0x66406640, 0xfff0fff0, 0x0, 0x0, 0x0⟩  -- SWP_SWn_UV
  , ⟨0x200b0008, 24, 0x10, 1, 0x0, 0x0, 0x0, 0x0, 0x0, 0x0⟩  -- SWP_SWn_STAT
  , ⟨0x200b000c, 24, 0x10, 1, 0x0, 0x0, 0x0, 0x0, 0x0, 0x0⟩  -- SWP_SWn_TICK
  , ⟨0x200b0400, 1, 0x0, 1, 0x0, 0x10, 0x7f, 0x0, 0x0, 0x0⟩  -- SWP_CTRL
  , ⟨0x200b0404, 1, 0x0, 1, 0x0, 0x0, 0x0, 0x0, 0x0, 0x0⟩  -- SWP_SUMMARY
  ]

/-- Register descriptions of the Twin window. -/
def regTableTwin : List RegDesc :=
  [ ⟨0x200e0000, 1, 0x0, 1, 0x0, 0x1020000, 0xcf0f0000, 0x0, 0x0, 0x0⟩  -- TW_CFG
  , ⟨0x200e0004, 1, 0x0, 1, 0x0, 0x0, 0x0, 0x0, 0xfe, 0x0⟩  -- TW_STAT
  , ⟨0x200e0008, 1, 0x0, 1, 0x0, 0x0, 0x0, 0x0, 0x0, 0x0⟩  -- TW_ROLETICK
  , ⟨0x200e000c, 1, 0x0, 1, 0x0, 0x0, 0x0, 0x0, 0x0, 0x0⟩  -- TW_MIRROR
  , ⟨0x200e0100, 1, 0x0, 1, 0x0, 0x2000064, 0xcf00ffff, 0x0, 0x0, 0x0⟩  -- REEVE_CFG
  , ⟨0x200e0104, 1, 0x0, 1, 0x0, 0x0, 0x0, 0x0, 0x800000, 0x0⟩  -- REEVE_STAT
  , ⟨0x200e0108, 1, 0x0, 1, 0x0, 0x0, 0x0, 0x0, 0x0, 0x0⟩  -- REEVE_LAST
  ]

/-- Register descriptions of the Almanac window. -/
def regTableAlmanac : List RegDesc :=
  [ ⟨0x20020000, 1, 0x0, 1, 0x0, 0xa01f4, 0xc0ffffff, 0x0, 0x0, 0x0⟩  -- ALM_CTRL
  , ⟨0x20020004, 1, 0x0, 1, 0x0, 0x0, 0x0, 0x0, 0xfb, 0x0⟩  -- ALM_STAT
  , ⟨0x20020008, 1, 0x0, 1, 0x0, 0x0, 0x0, 0x0, 0x0, 0x0⟩  -- ALM_NS
  , ⟨0x2002000c, 1, 0x0, 1, 0x0, 0x0, 0x0, 0x0, 0x0, 0x0⟩  -- ALM_SECL
  , ⟨0x20020010, 1, 0x0, 1, 0x0, 0x0, 0x0, 0x0, 0x0, 0x0⟩  -- ALM_SECH
  , ⟨0x20020014, 1, 0x0, 1, 0x0, 0x0, 0x0, 0x0, 0x0, 0x0⟩  -- ALM_FRAC
  , ⟨0x20020018, 1, 0x0, 1, 0x0, 0xe8000000, 0x0, 0xffffffff, 0x0, 0x0⟩  -- ALM_INCL
  , ⟨0x2002001c, 1, 0x0, 1, 0x0, 0x3, 0x0, 0xf, 0x0, 0x0⟩  -- ALM_INCH
  , ⟨0x20020020, 1, 0x0, 1, 0x0, 0x0, 0x0, 0x0, 0x0, 0x0⟩  -- ALM_INCAGE
  , ⟨0x20020024, 1, 0x0, 1, 0x0, 0x25, 0x1ffff, 0x0, 0x0, 0x0⟩  -- ALM_UTC
  , ⟨0x20020028, 1, 0x0, 1, 0x0, 0x0, 0x0, 0x0, 0x0, 0x0⟩  -- ALM_BKSEC
  , ⟨0x20020040, 2, 0x4, 1, 0x0, 0x0, 0xffffffff, 0x0, 0x0, 0x0⟩  -- ALM_PORTp_LAT
  , ⟨0x20020100, 2, 0x20, 1, 0x0, 0x0, 0x0, 0x0, 0x0, 0x0⟩  -- ALM_TXTSp_STAT
  , ⟨0x20020104, 2, 0x20, 1, 0x0, 0x0, 0x0, 0x0, 0x0, 0x0⟩  -- ALM_TXTSp_ID
  , ⟨0x20020108, 2, 0x20, 1, 0x0, 0x0, 0x0, 0x0, 0x0, 0x0⟩  -- ALM_TXTSp_NS
  , ⟨0x2002010c, 2, 0x20, 1, 0x0, 0x0, 0x0, 0x0, 0x0, 0x0⟩  -- ALM_TXTSp_SECL
  , ⟨0x20020110, 2, 0x20, 1, 0x0, 0x0, 0x0, 0x0, 0x0, 0x0⟩  -- ALM_TXTSp_SECH
  ]

/-- Register descriptions of the Orrery window. -/
def regTableOrrery : List RegDesc :=
  [ ⟨0x20010000, 1, 0x0, 1, 0x0, 0x40000000, 0xff, 0x0, 0x0, 0x0⟩  -- ORY_REFCFG
  , ⟨0x20010010, 1, 0x0, 1, 0x0, 0x80000020, 0x8f000000, 0x0, 0x0, 0x0⟩  -- ORY_MDLLm_CFG m = 0
  , ⟨0x20010020, 1, 0x0, 1, 0x0, 0x80000008, 0x8f000000, 0x0, 0x0, 0x0⟩  -- ORY_MDLLm_CFG m = 1
  , ⟨0x20010030, 1, 0x0, 1, 0x0, 0x80000060, 0x8f000000, 0x0, 0x0, 0x0⟩  -- ORY_MDLLm_CFG m = 2
  , ⟨0x20010040, 1, 0x0, 1, 0x0, 0x80000032, 0x8f0000ff, 0x0, 0x0, 0x0⟩  -- ORY_MDLLm_CFG m = 3
  , ⟨0x20010014, 4, 0x10, 1, 0x0, 0x0, 0x0, 0x0, 0x10000000, 0x0⟩  -- ORY_MDLLm_STAT
  , ⟨0x20010050, 1, 0x0, 1, 0x0, 0x83000000, 0xa3000000, 0x0, 0x0, 0x0⟩  -- ORY_SSC_CFG
  , ⟨0x20010060, 1, 0x0, 1, 0x0, 0x30201000, 0xffffffff, 0x0, 0x0, 0x0⟩  -- ORY_SSC_PROFj j = 0
  , ⟨0x20010064, 1, 0x0, 1, 0x0, 0x70605040, 0xffffffff, 0x0, 0x0, 0x0⟩  -- ORY_SSC_PROFj j = 1
  , ⟨0x20010068, 1, 0x0, 1, 0x0, 0xaf9f8f80, 0xffffffff, 0x0, 0x0, 0x0⟩  -- ORY_SSC_PROFj j = 2
  , ⟨0x2001006c, 1, 0x0, 1, 0x0, 0xefdfcfbf, 0xffffffff, 0x0, 0x0, 0x0⟩  -- ORY_SSC_PROFj j = 3
  , ⟨0x20010070, 1, 0x0, 1, 0x0, 0xcfdfefff, 0xffffffff, 0x0, 0x0, 0x0⟩  -- ORY_SSC_PROFj j = 4
  , ⟨0x20010074, 1, 0x0, 1, 0x0, 0x8f9fafbf, 0xffffffff, 0x0, 0x0, 0x0⟩  -- ORY_SSC_PROFj j = 5
  , ⟨0x20010078, 1, 0x0, 1, 0x0, 0x50607080, 0xffffffff, 0x0, 0x0, 0x0⟩  -- ORY_SSC_PROFj j = 6
  , ⟨0x2001007c, 1, 0x0, 1, 0x0, 0x10203040, 0xffffffff, 0x0, 0x0, 0x0⟩  -- ORY_SSC_PROFj j = 7
  , ⟨0x20010080, 4, 0x4, 1, 0x0, 0x0, 0xff8003ff, 0x0, 0x0, 0x0⟩  -- ORY_CLKOUTn
  , ⟨0x200100a0, 1, 0x0, 1, 0x0, 0x0, 0x0, 0x0, 0x7ff, 0x0⟩  -- ORY_MON
  ]

/-- Register descriptions of the Integrity window. -/
def regTableIntegrity : List RegDesc :=
  [ ⟨0x20130000, 1, 0x0, 1, 0x0, 0x0, 0x0, 0x0, 0xe0000000, 0x0⟩  -- CDC_STAT
  , ⟨0x20130004, 1, 0x0, 1, 0x0, 0x0, 0x0, 0x0, 0x0, 0x0⟩  -- CDC_CNT
  , ⟨0x20130100, 1, 0x0, 1, 0x0, 0x400008, 0xffff00ff, 0x0, 0x0, 0x0⟩  -- INT_CFG
  , ⟨0x20130104, 1, 0x0, 1, 0x0, 0x0, 0x0, 0x0, 0x1fe01f, 0x0⟩  -- INT_STAT
  , ⟨0x20130110, 5, 0x4, 1, 0x0, 0x0, 0x0, 0x0, 0x0, 0x0⟩  -- INT_BDRYb
  , ⟨0x20130130, 1, 0x0, 1, 0x0, 0x0, 0x0, 0x0, 0x0, 0x0⟩  -- INT_BOOT
  ]

/-- Register descriptions of the Chronograph window. -/
def regTableChronograph : List RegDesc :=
  [ ⟨0x200c0000, 1, 0x0, 1, 0x0, 0x40008, 0xc07f00ff, 0x0, 0x0, 0x0⟩  -- CHR_CTRL
  , ⟨0x200c0004, 1, 0x0, 1, 0x0, 0x0, 0x0, 0x0, 0x18000000, 0x0⟩  -- CHR_STAT
  , ⟨0x200c0008, 1, 0x0, 1, 0x0, 0x0, 0x0, 0x0, 0x0, 0x0⟩  -- CHR_TRUNC
  , ⟨0x200c0100, 16, 0x10, 1, 0x0, 0x0, 0xff1fffff, 0x0, 0x0, 0x0⟩  -- CHR_TRGu_CFG
  , ⟨0x200c0104, 16, 0x10, 1, 0x0, 0x0, 0xffffffff, 0x0, 0x0, 0x0⟩  -- CHR_TRGu_THR
  , ⟨0x200c0108, 16, 0x10, 1, 0x0, 0x0, 0x0, 0x0, 0x40000000, 0x0⟩  -- CHR_TRGu_STAT
  , ⟨0x200c0400, 4, 0x40, 1, 0x0, 0x0, 0xfe000000, 0x0, 0x0, 0x0⟩  -- CHR_RECk_CFG
  , ⟨0x200c0404, 4, 0x40, 1, 0x0, 0x0, 0xffffffff, 0x0, 0x0, 0x0⟩  -- CHR_RECk_TRG
  , ⟨0x200c0408, 4, 0x40, 1, 0x0, 0x0, 0xffffffff, 0x0, 0x0, 0x0⟩  -- CHR_RECk_SRC
  , ⟨0x200c040c, 4, 0x40, 1, 0x0, 0x0, 0xffffffff, 0x0, 0x0, 0x0⟩  -- CHR_RECk_LEN
  , ⟨0x200c0410, 4, 0x40, 1, 0x0, 0x0, 0x1ffff, 0x0, 0x0, 0x0⟩  -- CHR_RECk_NSEG
  , ⟨0x200c0414, 4, 0x40, 1, 0x0, 0x0, 0xffffffff, 0x0, 0x0, 0x0⟩  -- CHR_RECk_BASE
  , ⟨0x200c0418, 4, 0x40, 1, 0x0, 0x0, 0x0, 0x0, 0x18000000, 0x0⟩  -- CHR_RECk_STAT
  , ⟨0x200c041c, 4, 0x40, 1, 0x0, 0x0, 0x0, 0x0, 0x0, 0x0⟩  -- CHR_RECk_SEGB
  , ⟨0x200c0420, 4, 0x40, 1, 0x0, 0x0, 0x0, 0x0, 0x0, 0x0⟩  -- CHR_RECk_MISS
  , ⟨0x200c0600, 32, 0x4, 1, 0x0, 0x0, 0x1f001fff, 0x0, 0x0, 0x0⟩  -- CHR_LEVj
  , ⟨0x200c0700, 16, 0x8, 1, 0x0, 0x0, 0xb01f0007, 0x0, 0x0, 0x40000000⟩  -- CHR_HISTh_CFG
  , ⟨0x200c0704, 16, 0x8, 1, 0x0, 0x0, 0xffff, 0x0, 0x0, 0x0⟩  -- CHR_HISTh_LO
  , ⟨0x200c0780, 1, 0x0, 1, 0x0, 0x0, 0xb81f0007, 0x0, 0x0, 0x40000000⟩  -- CHR_MAP_CFG
  , ⟨0x200c0784, 1, 0x0, 1, 0x0, 0x0, 0xffff, 0x0, 0x0, 0x0⟩  -- CHR_MAP_LO
  , ⟨0x200c0788, 1, 0x0, 1, 0x0, 0x0, 0xffffff, 0x0, 0x0, 0x0⟩  -- CHR_MAP_FREQ
  , ⟨0x200c0800, 1, 0x0, 1, 0x0, 0x0, 0x0, 0xffefc000, 0x0, 0x0⟩  -- CHR_XSP_CFG
  , ⟨0x200c0804, 1, 0x0, 1, 0x0, 0x0, 0x0, 0xffffffff, 0x0, 0x0⟩  -- CHR_XSP_SIG
  , ⟨0x200c0808, 1, 0x0, 1, 0x0, 0x0, 0x0, 0xffffff, 0x0, 0x0⟩  -- CHR_XSP_BLK
  , ⟨0x200c080c, 1, 0x0, 1, 0x0, 0x0, 0x0, 0xffff, 0x0, 0x0⟩  -- CHR_XSP_AVG
  , ⟨0x200c0810, 1, 0x0, 1, 0x0, 0x0, 0x0, 0x7fff, 0x0, 0x0⟩  -- CHR_XSP_LEADDR
  , ⟨0x200c0814, 1, 0x0, 1, 0x0, 0x0, 0x0, 0x0, 0x78000000, 0x0⟩  -- CHR_XSP_STAT
  , ⟨0x200c0900, 64, 0x4, 1, 0x0, 0x0, 0x0, 0xffffff, 0x0, 0x0⟩  -- CHR_XSP_BINb
  ]

/-- Register descriptions of the Safety window. -/
def regTableSafety : List RegDesc :=
  [ ⟨0x200d0000, 1, 0x0, 1, 0x0, 0x0, 0x0, 0x0, 0x0, 0x0⟩  -- SAF_STAT
  , ⟨0x200d0004, 1, 0x0, 1, 0x0, 0x0, 0x0, 0x0, 0x0, 0x0⟩  -- SAF_CHECK
  , ⟨0x200d0008, 1, 0x0, 1, 0x0, 0x0, 0x0, 0x0, 0x0, 0x0⟩  -- SAF_PCHECK
  , ⟨0x200d0010, 1, 0x0, 1, 0x0, 0x0, 0x0, 0x0, 0x0, 0x0⟩  -- SAF_IN
  , ⟨0x200d0014, 1, 0x0, 1, 0x0, 0x0, 0x0, 0x0, 0x0, 0x0⟩  -- SAF_INFLT
  , ⟨0x200d0018, 1, 0x0, 1, 0x0, 0x0, 0x0, 0x0, 0x0, 0x0⟩  -- SAF_FAULT
  , ⟨0x200d001c, 1, 0x0, 1, 0x0, 0x0, 0x0, 0x0, 0x0, 0x0⟩  -- SAF_PROOF
  ]

/-- Register descriptions of the Bar2 window. -/
def regTableBar2 : List RegDesc :=
  [ ⟨0x80000000, 1, 0x0, 1, 0x0, 0x0, 0x0, 0x0, 0x0, 0x7⟩  -- MB_DB
  , ⟨0x80000004, 1, 0x0, 1, 0x0, 0xff, 0x0, 0x0, 0x0, 0x0⟩  -- MB_FREE
  , ⟨0x80000008, 1, 0x0, 1, 0x0, 0x0, 0x0, 0x0, 0xff, 0x0⟩  -- MB_READY
  , ⟨0x8000000c, 1, 0x0, 1, 0x0, 0x0, 0x0, 0x0, 0x0, 0x0⟩  -- MB_ERR
  , ⟨0x80000010, 1, 0x0, 1, 0x0, 0x0, 0x0, 0x0, 0x0, 0x0⟩  -- TL_WR
  , ⟨0x80000014, 1, 0x0, 1, 0x0, 0x0, 0x0, 0xffffff, 0x0, 0x0⟩  -- TL_RD
  , ⟨0x80000018, 1, 0x0, 1, 0x0, 0x0, 0x0, 0x0, 0x0, 0x0⟩  -- TL_DROP
  , ⟨0x8000001c, 1, 0x0, 1, 0x0, 0x0, 0x0, 0x0, 0x0, 0x0⟩  -- NR_HEAD
  , ⟨0x80000020, 1, 0x0, 1, 0x0, 0x0, 0x0, 0x0, 0x0, 0x0⟩  -- NR_DROP
  ]

/-- Register descriptions of the Network window. -/
def regTableNetwork : List RegDesc :=
  [ ⟨0x200f0000, 1, 0x0, 1, 0x0, 0x4000012c, 0xc000ffff, 0x0, 0x0, 0x0⟩  -- NET_CTRL
  , ⟨0x200f0004, 1, 0x0, 1, 0x0, 0x0, 0xffffffff, 0x0, 0x0, 0x0⟩  -- NET_IP
  , ⟨0x200f0008, 1, 0x0, 1, 0x0, 0xffffff00, 0xffffffff, 0x0, 0x0, 0x0⟩  -- NET_MASK
  , ⟨0x200f000c, 1, 0x0, 1, 0x0, 0x0, 0xffffffff, 0x0, 0x0, 0x0⟩  -- NET_GW
  , ⟨0x200f0010, 1, 0x0, 1, 0x0, 0x0, 0x0, 0x0, 0x30000, 0x0⟩  -- NET_STAT
  , ⟨0x200f0100, 16, 0x10, 1, 0x0, 0x0, 0xff00ffff, 0x0, 0x0, 0x0⟩  -- NET_SVs_CFG
  , ⟨0x200f0104, 16, 0x10, 1, 0x0, 0x0, 0xffff, 0x0, 0x0, 0x0⟩  -- NET_SVs_ADDR
  , ⟨0x200f0108, 16, 0x10, 1, 0x0, 0x0, 0xffffffff, 0x0, 0x0, 0x0⟩  -- NET_SVs_CONFREV
  , ⟨0x200f010c, 16, 0x10, 1, 0x0, 0x0, 0xffffffff, 0x0, 0x0, 0x0⟩  -- NET_SVs_SEL
  , ⟨0x200f0400, 32, 0x10, 1, 0x0, 0x0, 0xff80ffff, 0x0, 0x0, 0x0⟩  -- NET_GOg_CFG
  , ⟨0x200f0404, 32, 0x10, 1, 0x0, 0x0, 0xffff, 0x0, 0x0, 0x0⟩  -- NET_GOg_ADDR
  , ⟨0x200f0408, 32, 0x10, 1, 0x0, 0x0, 0xffffffff, 0x0, 0x0, 0x0⟩  -- NET_GOg_CONFREV
  , ⟨0x200f040c, 32, 0x10, 1, 0x0, 0x0, 0x0, 0x0, 0x0, 0x0⟩  -- NET_GOg_STAT
  ]

/-- Register descriptions of the Security window. -/
def regTableSecurity : List RegDesc :=
  [ ⟨0x20110000, 1, 0x0, 1, 0x0, 0x0, 0x0, 0x0, 0xa000000, 0x0⟩  -- STO_STAT
  , ⟨0x20110004, 2, 0x4, 1, 0x0, 0x0, 0x0, 0x0, 0x0, 0x0⟩  -- STO_BANKn
  , ⟨0x20110010, 4, 0x4, 1, 0x0, 0x0, 0x0, 0x0, 0x0, 0x0⟩  -- STO_CFGCHKj
  , ⟨0x20110020, 1, 0x0, 1, 0x0, 0x0, 0x0, 0x0, 0x0, 0x0⟩  -- SEC_BOOT
  , ⟨0x20110024, 1, 0x0, 1, 0x0, 0x0, 0x0, 0x0, 0x0, 0x0⟩  -- SEC_STAT
  , ⟨0x20110028, 1, 0x0, 1, 0x0, 0xa, 0x3ff, 0x0, 0x0, 0x0⟩  -- SEC_CFG
  ]

/-- Register descriptions of the Log window. -/
def regTableLog : List RegDesc :=
  [ ⟨0x20120000, 1, 0x0, 1, 0x0, 0x0, 0x0, 0x0, 0x0, 0x0⟩  -- LOG_HEAD
  , ⟨0x20120004, 1, 0x0, 1, 0x0, 0x0, 0x0, 0x0, 0x0, 0x0⟩  -- LOG_EXP
  , ⟨0x20120008, 1, 0x0, 1, 0x0, 0x0, 0x0, 0x0, 0x0, 0x0⟩  -- LOG_CFG
  , ⟨0x2012000c, 1, 0x0, 1, 0x0, 0x0, 0x0, 0x0, 0x0, 0x0⟩  -- LOG_STAT
  ]

/-- The register descriptions of the window that holds address `a`. -/
def regTableAt (a : Nat) : List RegDesc :=
  if 0x80000000 ≤ a then regTableBar2
  else if 0x22000000 ≤ a then regTableLane
  else if 0x21000000 ≤ a then regTableEngine
  else match a / 0x10000 with
  | 0x2000 => regTableSys
  | 0x2001 => regTableOrrery
  | 0x2002 => regTableAlmanac
  | 0x2003 => regTableFast
  | 0x2004 => regTableSieve
  | 0x2005 => regTableHkc
  | 0x2006 => regTableCluster
  | 0x2007 => regTableRamp
  | 0x2008 => regTableSequencer
  | 0x2009 => regTableSheaf
  | 0x200a => regTableLocalStage
  | 0x200b => regTableProtection
  | 0x200c => regTableChronograph
  | 0x200d => regTableSafety
  | 0x200e => regTableTwin
  | 0x200f => regTableNetwork
  | 0x2011 => regTableSecurity
  | 0x2012 => regTableLog
  | 0x2013 => regTableIntegrity
  | _ => []

/-- The description of the register at address `a`, if one is defined there. -/
def regDesc (a : Nat) : Option RegDesc := (regTableAt a).find? (·.covers a)

/-- The reset value of the register at `a` on a part with no stored value; 0 at a reserved address (R4). -/
def regReset (a : Nat) : Word :=
  match regDesc a with
  | some d => BitVec.ofNat 32 d.reset
  | none => 0#32

/-- Every register description, in ascending order of window. -/
def regTableAll : List RegDesc :=
  regTableSys ++ regTableOrrery ++ regTableAlmanac ++ regTableFast ++ regTableSieve ++ regTableHkc ++ regTableCluster ++ regTableRamp ++ regTableSequencer ++ regTableSheaf ++ regTableLocalStage ++ regTableProtection ++ regTableChronograph ++ regTableSafety ++ regTableTwin ++ regTableNetwork ++ regTableSecurity ++ regTableLog ++ regTableIntegrity ++ regTableEngine ++ regTableLane

/-- The addresses of one description's registers, ascending. -/
def RegDesc.addrs (r : RegDesc) : List Nat :=
  (List.range r.n1).flatMap fun i => (List.range r.n2).map fun j => r.base + i * r.s1 + j * r.s2

end Sys2Proof.Machine
end

