-- ==== Sys2Proof/Machine/Regs.lean ====
section
/-! DEFINITION. The names of the registers and of their fields, one for each row of the spec's field tables. -/

namespace Sys2Proof.Machine

/-! ### Sys -/

/-- Address of SYS_DEVID (00_scope.md, Table SCO-6). -/
def SYS_DEVID : Nat := 0x20000000
/-- PART [31:16] RO. -/
def SYS_DEVID_PART : Fld := ⟨SYS_DEVID, 31, 16⟩
/-- FAMILY [15:12] RO. -/
def SYS_DEVID_FAMILY : Fld := ⟨SYS_DEVID, 15, 12⟩
/-- MAJOR [11:8] RO. -/
def SYS_DEVID_MAJOR : Fld := ⟨SYS_DEVID, 11, 8⟩
/-- MINOR [7:4] RO. -/
def SYS_DEVID_MINOR : Fld := ⟨SYS_DEVID, 7, 4⟩
/-- GRADE [3:0] RO. -/
def SYS_DEVID_GRADE : Fld := ⟨SYS_DEVID, 3, 0⟩
/-- Address of SYS_TICKNUM (01_tick_and_data_flow.md, Table TCK-8). -/
def SYS_TICKNUM : Nat := 0x20000010
/-- TICK [31:0] RO. -/
def SYS_TICKNUM_TICK : Fld := ⟨SYS_TICKNUM, 31, 0⟩
/-- Address of SYS_TICKCFG (01_tick_and_data_flow.md, Table TCK-9). -/
def SYS_TICKCFG : Nat := 0x20000020
/-- LO_PEND [15:15] RO. -/
def SYS_TICKCFG_LO_PEND : Fld := ⟨SYS_TICKCFG, 15, 15⟩
/-- LAUNCH_OFS [10:0] RWS. -/
def SYS_TICKCFG_LAUNCH_OFS : Fld := ⟨SYS_TICKCFG, 10, 0⟩
/-- Address of SYS_TISTAT (01_tick_and_data_flow.md, Table TCK-10). -/
def SYS_TISTAT : Nat := 0x20000024
/-- TI_NOW [31:31] RO. -/
def SYS_TISTAT_TI_NOW : Fld := ⟨SYS_TISTAT, 31, 31⟩
/-- CFG_DIFF [4:4] W1C. -/
def SYS_TISTAT_CFG_DIFF : Fld := ⟨SYS_TISTAT, 4, 4⟩
/-- DLMISS_SEEN [3:3] W1C. -/
def SYS_TISTAT_DLMISS_SEEN : Fld := ⟨SYS_TISTAT, 3, 3⟩
/-- CLK_TOL [2:2] W1C. -/
def SYS_TISTAT_CLK_TOL : Fld := ⟨SYS_TISTAT, 2, 2⟩
/-- HALT_SEEN [1:1] W1C. -/
def SYS_TISTAT_HALT_SEEN : Fld := ⟨SYS_TISTAT, 1, 1⟩
/-- CDC_ERR [0:0] W1C. -/
def SYS_TISTAT_CDC_ERR : Fld := ⟨SYS_TISTAT, 0, 0⟩
/-- Address of SYS_TLMAX (01_tick_and_data_flow.md, Table TCK-11). -/
def SYS_TLMAX : Nat := 0x20000028
/-- CLR [31:31] WO. -/
def SYS_TLMAX_CLR : Fld := ⟨SYS_TLMAX, 31, 31⟩
/-- SEQ_DONE_MAX [24:16] RO. -/
def SYS_TLMAX_SEQ_DONE_MAX : Fld := ⟨SYS_TLMAX, 24, 16⟩
/-- SIEVE_DONE_MAX [8:0] RO. -/
def SYS_TLMAX_SIEVE_DONE_MAX : Fld := ⟨SYS_TLMAX, 8, 0⟩
/-- Address of SYS_MODE (02_operating_modes.md, Table MOD-9). -/
def SYS_MODE : Nat := 0x20000030
/-- MODE [31:29] RO. -/
def SYS_MODE_MODE : Fld := ⟨SYS_MODE, 31, 29⟩
/-- ACTIVE [28:28] RO. -/
def SYS_MODE_ACTIVE : Fld := ⟨SYS_MODE, 28, 28⟩
/-- REEVE [27:27] RO. -/
def SYS_MODE_REEVE : Fld := ⟨SYS_MODE, 27, 27⟩
/-- TWIN_ID [26:26] RO. -/
def SYS_MODE_TWIN_ID : Fld := ⟨SYS_MODE, 26, 26⟩
/-- BLK_SEQ [25:25] RO. -/
def SYS_MODE_BLK_SEQ : Fld := ⟨SYS_MODE, 25, 25⟩
/-- BYPASS_REVERT [24:24] W1C. -/
def SYS_MODE_BYPASS_REVERT : Fld := ⟨SYS_MODE, 24, 24⟩
/-- DEVID_MISMATCH [23:23] RO. -/
def SYS_MODE_DEVID_MISMATCH : Fld := ⟨SYS_MODE, 23, 23⟩
/-- FW_UNVERIFIED [22:22] RO. -/
def SYS_MODE_FW_UNVERIFIED : Fld := ⟨SYS_MODE, 22, 22⟩
/-- CFG_INVALID [21:21] RO. -/
def SYS_MODE_CFG_INVALID : Fld := ⟨SYS_MODE, 21, 21⟩
/-- SAFETY_UNCONF [20:20] RO. -/
def SYS_MODE_SAFETY_UNCONF : Fld := ⟨SYS_MODE, 20, 20⟩
/-- HOST_COMMISSION [19:19] RO. -/
def SYS_MODE_HOST_COMMISSION : Fld := ⟨SYS_MODE, 19, 19⟩
/-- MODE_AGE [15:0] RO. -/
def SYS_MODE_MODE_AGE : Fld := ⟨SYS_MODE, 15, 0⟩
/-- Address of SYS_MODECFG (02_operating_modes.md, Table MOD-10). -/
def SYS_MODECFG : Nat := 0x20000034
/-- RT_MAX [31:16] RWS. -/
def SYS_MODECFG_RT_MAX : Fld := ⟨SYS_MODECFG, 31, 16⟩
/-- AUTO_FORM [7:7] RWS. -/
def SYS_MODECFG_AUTO_FORM : Fld := ⟨SYS_MODECFG, 7, 7⟩
/-- HOLD_STYLE [5:0] RWS. -/
def SYS_MODECFG_HOLD_STYLE : Fld := ⟨SYS_MODECFG, 5, 0⟩
/-- Address of SYS_TRIPCAUSE (02_operating_modes.md, Table MOD-11). -/
def SYS_TRIPCAUSE : Nat := 0x20000038
/-- ACTIVE [31:16] RO. -/
def SYS_TRIPCAUSE_ACTIVE : Fld := ⟨SYS_TRIPCAUSE, 31, 16⟩
/-- LATCHED [15:0] RO. -/
def SYS_TRIPCAUSE_LATCHED : Fld := ⟨SYS_TRIPCAUSE, 15, 0⟩
/-- Address of SYS_PEND (02_operating_modes.md, Table MOD-12). -/
def SYS_PEND : Nat := 0x2000003c
/-- DROPPED [13:8] W1C. -/
def SYS_PEND_DROPPED : Fld := ⟨SYS_PEND, 13, 8⟩
/-- PENDING [5:0] RO. -/
def SYS_PEND_PENDING : Fld := ⟨SYS_PEND, 5, 0⟩
/-- Address of SYS_BLKCFG (02_operating_modes.md, Table MOD-13). -/
def SYS_BLKCFG : Nat := 0x20000040
/-- VALVE_REST [31:24] RWS. -/
def SYS_BLKCFG_VALVE_REST : Fld := ⟨SYS_BLKCFG, 31, 24⟩
/-- BLK_RAMP [23:16] RWS. -/
def SYS_BLKCFG_BLK_RAMP : Fld := ⟨SYS_BLKCFG, 23, 16⟩
/-- BYPASS_VDC_MAX [15:0] RWS. -/
def SYS_BLKCFG_BYPASS_VDC_MAX : Fld := ⟨SYS_BLKCFG, 15, 0⟩
/-! ### Fast -/

/-- Address of FCH_CTRL (03_fast_channels.md, Table FCH-5). -/
def FCH_CTRL : Nat := 0x20030000
/-- CAL_BUSY [8:8] RO. -/
def FCH_CTRL_CAL_BUSY : Fld := ⟨FCH_CTRL, 8, 8⟩
/-- AUTO_SUB1 [4:4] RWS. -/
def FCH_CTRL_AUTO_SUB1 : Fld := ⟨FCH_CTRL, 4, 4⟩
/-- AUTO_SUB0 [3:3] RWS. -/
def FCH_CTRL_AUTO_SUB0 : Fld := ⟨FCH_CTRL, 3, 3⟩
/-- REFSEL [0:0] RWS. -/
def FCH_CTRL_REFSEL : Fld := ⟨FCH_CTRL, 0, 0⟩
/-- Address of FCH_OVRNG (03_fast_channels.md, Table FCH-6). -/
def FCH_OVRNG : Nat := 0x20030010
/-- OVRNG [31:0] W1C. -/
def FCH_OVRNG_OVRNG : Fld := ⟨FCH_OVRNG, 31, 0⟩
/-- Address of FCH_PLFAIL (03_fast_channels.md, Table FCH-7). -/
def FCH_PLFAIL : Nat := 0x20030014
/-- PLFAIL [31:0] W1C. -/
def FCH_PLFAIL_PLFAIL : Fld := ⟨FCH_PLFAIL, 31, 0⟩
/-- Address of FCH_CONVFLT (03_fast_channels.md, Table FCH-8). -/
def FCH_CONVFLT : Nat := 0x20030018
/-- CONV_FAULT [31:0] RO. -/
def FCH_CONVFLT_CONV_FAULT : Fld := ⟨FCH_CONVFLT, 31, 0⟩
/-- Address of FCH_SPAREn (03_fast_channels.md, Table FCH-9; n below 2). -/
def FCH_SPAREn (n : Nat) : Nat := 0x20030020 + 0x4 * n
/-- SUBST_ACTIVE [31:31] RO. -/
def FCH_SPAREn_SUBST_ACTIVE (n : Nat) : Fld := ⟨FCH_SPAREn n, 31, 31⟩
/-- TRACKED [30:30] RO. -/
def FCH_SPAREn_TRACKED (n : Nat) : Fld := ⟨FCH_SPAREn n, 30, 30⟩
/-- SPARE_FLT [29:29] RO. -/
def FCH_SPAREn_SPARE_FLT (n : Nat) : Fld := ⟨FCH_SPAREn n, 29, 29⟩
/-- CUR_CH [27:24] RO. -/
def FCH_SPAREn_CUR_CH (n : Nat) : Fld := ⟨FCH_SPAREn n, 27, 24⟩
/-- CAL_DWELL [23:16] RWS. -/
def FCH_SPAREn_CAL_DWELL (n : Nat) : Fld := ⟨FCH_SPAREn n, 23, 16⟩
/-- PL_COUNT [15:8] RWS. -/
def FCH_SPAREn_PL_COUNT (n : Nat) : Fld := ⟨FCH_SPAREn n, 15, 8⟩
/-- SPARE_MODE [5:4] RWS. -/
def FCH_SPAREn_SPARE_MODE (n : Nat) : Fld := ⟨FCH_SPAREn n, 5, 4⟩
/-- PL_CH [3:0] RWS. -/
def FCH_SPAREn_PL_CH (n : Nat) : Fld := ⟨FCH_SPAREn n, 3, 0⟩
/-- Address of FCH_PLTHR (03_fast_channels.md, Table FCH-10). -/
def FCH_PLTHR : Nat := 0x20030028
/-- PL_THR [15:0] RWS. -/
def FCH_PLTHR_PL_THR : Fld := ⟨FCH_PLTHR, 15, 0⟩
/-- Address of FCH_CALSTAT (03_fast_channels.md, Table FCH-11). -/
def FCH_CALSTAT : Nat := 0x2003002c
/-- REJ_CNT [23:16] RO. -/
def FCH_CALSTAT_REJ_CNT : Fld := ⟨FCH_CALSTAT, 23, 16⟩
/-- CAL_REJECT [1:1] W1C. -/
def FCH_CALSTAT_CAL_REJECT : Fld := ⟨FCH_CALSTAT, 1, 1⟩
/-- CAL_FAILED [0:0] W1C. -/
def FCH_CALSTAT_CAL_FAILED : Fld := ⟨FCH_CALSTAT, 0, 0⟩
/-- Address of FCH_CALn (03_fast_channels.md, Table FCH-12; n below 32). -/
def FCH_CALn (n : Nat) : Nat := 0x20030100 + 0x4 * n
/-- GAIN [31:16] RWS. -/
def FCH_CALn_GAIN (n : Nat) : Fld := ⟨FCH_CALn n, 31, 16⟩
/-- OFS [15:0] RWS. -/
def FCH_CALn_OFS (n : Nat) : Fld := ⟨FCH_CALn n, 15, 0⟩
/-! ### Hkc -/

/-- Address of HKCn_CFG (03_fast_channels.md, Table FCH-13; n below 2). -/
def HKCn_CFG (n : Nat) : Nat := 0x20050000 + 0x100 * n
/-- EN [31:31] RWS. -/
def HKCn_CFG_EN (n : Nat) : Fld := ⟨HKCn_CFG n, 31, 31⟩
/-- RTRIG [30:30] RWS. -/
def HKCn_CFG_RTRIG (n : Nat) : Fld := ⟨HKCn_CFG n, 30, 30⟩
/-- ORDER [26:24] RWS. -/
def HKCn_CFG_ORDER (n : Nat) : Fld := ⟨HKCn_CFG n, 26, 24⟩
/-- SEQ_LEN [20:16] RWS. -/
def HKCn_CFG_SEQ_LEN (n : Nat) : Fld := ⟨HKCn_CFG n, 20, 16⟩
/-- INJ_LEN [15:14] RWS. -/
def HKCn_CFG_INJ_LEN (n : Nat) : Fld := ⟨HKCn_CFG n, 15, 14⟩
/-- OSR [12:0] RWS. -/
def HKCn_CFG_OSR (n : Nat) : Fld := ⟨HKCn_CFG n, 12, 0⟩
/-- Address of HKCn_SEQm (03_fast_channels.md, Table FCH-14; n below 2; m below 32). -/
def HKCn_SEQm (n : Nat) (m : Nat) : Nat := 0x20050010 + 0x100 * n + 0x4 * m
/-- INPUT [4:0] RWS. -/
def HKCn_SEQm_INPUT (n : Nat) (m : Nat) : Fld := ⟨HKCn_SEQm n m, 4, 0⟩
/-- Address of HKCn_INJm (03_fast_channels.md, Table FCH-14; n below 2; m below 4). -/
def HKCn_INJm (n : Nat) (m : Nat) : Nat := 0x20050090 + 0x100 * n + 0x4 * m
/-- INPUT [4:0] RWS. -/
def HKCn_INJm_INPUT (n : Nat) (m : Nat) : Fld := ⟨HKCn_INJm n m, 4, 0⟩
/-- Address of HKCn_INJCFG (03_fast_channels.md, Table FCH-15; n below 2). -/
def HKCn_INJCFG (n : Nat) : Nat := 0x200500a0 + 0x100 * n
/-- SRC [6:4] RWS. -/
def HKCn_INJCFG_SRC (n : Nat) : Fld := ⟨HKCn_INJCFG n, 6, 4⟩
/-- SEL [3:0] RWS. -/
def HKCn_INJCFG_SEL (n : Nat) : Fld := ⟨HKCn_INJCFG n, 3, 0⟩
/-- Address of HKCn_DATA (03_fast_channels.md, Table FCH-16; n below 2). -/
def HKCn_DATA (n : Nat) : Nat := 0x200500b0 + 0x100 * n
/-- NEW [31:31] RO. -/
def HKCn_DATA_NEW (n : Nat) : Fld := ⟨HKCn_DATA n, 31, 31⟩
/-- INJ [30:30] RO. -/
def HKCn_DATA_INJ (n : Nat) : Fld := ⟨HKCn_DATA n, 30, 30⟩
/-- ENTRY [29:25] RO. -/
def HKCn_DATA_ENTRY (n : Nat) : Fld := ⟨HKCn_DATA n, 29, 25⟩
/-- VALUE [23:0] RO. -/
def HKCn_DATA_VALUE (n : Nat) : Fld := ⟨HKCn_DATA n, 23, 0⟩
/-- Address of HKCn_STAT (03_fast_channels.md, Table FCH-17; n below 2). -/
def HKCn_STAT (n : Nat) : Nat := 0x200500b4 + 0x100 * n
/-- BUSY [31:31] RO. -/
def HKCn_STAT_BUSY (n : Nat) : Fld := ⟨HKCn_STAT n, 31, 31⟩
/-- INJ_RUN [30:30] RO. -/
def HKCn_STAT_INJ_RUN (n : Nat) : Fld := ⟨HKCn_STAT n, 30, 30⟩
/-- CUR_ENTRY [29:25] RO. -/
def HKCn_STAT_CUR_ENTRY (n : Nat) : Fld := ⟨HKCn_STAT n, 29, 25⟩
/-- HK_PLAUS_FAIL [3:3] W1C. -/
def HKCn_STAT_HK_PLAUS_FAIL (n : Nat) : Fld := ⟨HKCn_STAT n, 3, 3⟩
/-- SEQ_LATE [2:2] W1C. -/
def HKCn_STAT_SEQ_LATE (n : Nat) : Fld := ⟨HKCn_STAT n, 2, 2⟩
/-- INJ_MISS [1:1] W1C. -/
def HKCn_STAT_INJ_MISS (n : Nat) : Fld := ⟨HKCn_STAT n, 1, 1⟩
/-- OVR [0:0] W1C. -/
def HKCn_STAT_OVR (n : Nat) : Fld := ⟨HKCn_STAT n, 0, 0⟩
/-- Address of HKC_PLCFG (03_fast_channels.md, Table FCH-18). -/
def HKC_PLCFG : Nat := 0x20050200
/-- TOL [19:0] RWS. -/
def HKC_PLCFG_TOL : Fld := ⟨HKC_PLCFG, 19, 0⟩
/-! ### Sieve -/

/-- Address of SVn_CHk (04_sieve.md, Table SIV-4; n below 2; k below 16). -/
def SVn_CHk (n : Nat) (k : Nat) : Nat := 0x20040000 + 0x100 * n + 0x4 * k
/-- RET_SET [12:9] RO. -/
def SVn_CHk_RET_SET (n : Nat) (k : Nat) : Fld := ⟨SVn_CHk n k, 12, 9⟩
/-- PEND [8:8] RO. -/
def SVn_CHk_PEND (n : Nat) (k : Nat) : Fld := ⟨SVn_CHk n k, 8, 8⟩
/-- REC_SET [7:4] RWS. -/
def SVn_CHk_REC_SET (n : Nat) (k : Nat) : Fld := ⟨SVn_CHk n k, 7, 4⟩
/-- CTL_SET [3:0] RWS. -/
def SVn_CHk_CTL_SET (n : Nat) (k : Nat) : Fld := ⟨SVn_CHk n k, 3, 0⟩
/-- Address of SVn_STAT (04_sieve.md, Table SIV-5; n below 2). -/
def SVn_STAT (n : Nat) : Nat := 0x20040080 + 0x100 * n
/-- SAT [31:16] W1C. -/
def SVn_STAT_SAT (n : Nat) : Fld := ⟨SVn_STAT n, 31, 16⟩
/-- COEF_ERR [2:2] W1C. -/
def SVn_STAT_COEF_ERR (n : Nat) : Fld := ⟨SVn_STAT n, 2, 2⟩
/-- Address of SV_USERCTL (04_sieve.md, Table SIV-6). -/
def SV_USERCTL : Nat := 0x20040f00
/-- COMMIT [31:31] WO. -/
def SV_USERCTL_COMMIT : Fld := ⟨SV_USERCTL, 31, 31⟩
/-- PEND1 [17:17] RO. -/
def SV_USERCTL_PEND1 : Fld := ⟨SV_USERCTL, 17, 17⟩
/-- PEND0 [16:16] RO. -/
def SV_USERCTL_PEND0 : Fld := ⟨SV_USERCTL, 16, 16⟩
/-- TAPS1 [15:8] RWS. -/
def SV_USERCTL_TAPS1 : Fld := ⟨SV_USERCTL, 15, 8⟩
/-- TAPS0 [7:0] RWS. -/
def SV_USERCTL_TAPS0 : Fld := ⟨SV_USERCTL, 7, 0⟩
/-- Address of SV_USERm_COEFj (04_sieve.md, Table SIV-7; m below 2; j below 64). -/
def SV_USERm_COEFj (m : Nat) (j : Nat) : Nat := 0x20041000 + 0x100 * m + 0x4 * j
/-- C_ODD [31:16] RWS. -/
def SV_USERm_COEFj_C_ODD (m : Nat) (j : Nat) : Fld := ⟨SV_USERm_COEFj m j, 31, 16⟩
/-- C_EVEN [15:0] RWS. -/
def SV_USERm_COEFj_C_EVEN (m : Nat) (j : Nat) : Fld := ⟨SV_USERm_COEFj m j, 15, 0⟩
/-- Address of SVn_TDm_CFG (04_sieve.md, Table SIV-8; n below 2; m below 16). -/
def SVn_TDm_CFG (n : Nat) (m : Nat) : Nat := 0x20042000 + 0x200 * n + 0x10 * m
/-- EN [31:31] RWS. -/
def SVn_TDm_CFG_EN (n : Nat) (m : Nat) : Fld := ⟨SVn_TDm_CFG n m, 31, 31⟩
/-- SRC [30:30] RWS. -/
def SVn_TDm_CFG_SRC (n : Nat) (m : Nat) : Fld := ⟨SVn_TDm_CFG n m, 30, 30⟩
/-- CH [19:16] RWS. -/
def SVn_TDm_CFG_CH (n : Nat) (m : Nat) : Fld := ⟨SVn_TDm_CFG n m, 19, 16⟩
/-- LEN_M1 [15:0] RWS. -/
def SVn_TDm_CFG_LEN_M1 (n : Nat) (m : Nat) : Fld := ⟨SVn_TDm_CFG n m, 15, 0⟩
/-- Address of SVn_TDm_FREQ (04_sieve.md, Table SIV-9; n below 2; m below 16). -/
def SVn_TDm_FREQ (n : Nat) (m : Nat) : Nat := 0x20042004 + 0x200 * n + 0x10 * m
/-- FREQ [23:0] RWS. -/
def SVn_TDm_FREQ_FREQ (n : Nat) (m : Nat) : Fld := ⟨SVn_TDm_FREQ n m, 23, 0⟩
/-- Address of SVn_TDm_MAG2 (04_sieve.md, Table SIV-10; n below 2; m below 16). -/
def SVn_TDm_MAG2 (n : Nat) (m : Nat) : Nat := 0x20042008 + 0x200 * n + 0x10 * m
/-- MAG2 [31:0] RO. -/
def SVn_TDm_MAG2_MAG2 (n : Nat) (m : Nat) : Fld := ⟨SVn_TDm_MAG2 n m, 31, 0⟩
/-- Address of SVn_TDm_PH (04_sieve.md, Table SIV-11; n below 2; m below 16). -/
def SVn_TDm_PH (n : Nat) (m : Nat) : Nat := 0x2004200c + 0x200 * n + 0x10 * m
/-- VALID [31:31] RO. -/
def SVn_TDm_PH_VALID (n : Nat) (m : Nat) : Fld := ⟨SVn_TDm_PH n m, 31, 31⟩
/-- SAT [30:30] RO. -/
def SVn_TDm_PH_SAT (n : Nat) (m : Nat) : Fld := ⟨SVn_TDm_PH n m, 30, 30⟩
/-- ABORT [29:29] W1C. -/
def SVn_TDm_PH_ABORT (n : Nat) (m : Nat) : Fld := ⟨SVn_TDm_PH n m, 29, 29⟩
/-- SEQ [28:16] RO. -/
def SVn_TDm_PH_SEQ (n : Nat) (m : Nat) : Fld := ⟨SVn_TDm_PH n m, 28, 16⟩
/-- PHASE [15:0] RO. -/
def SVn_TDm_PH_PHASE (n : Nat) (m : Nat) : Fld := ⟨SVn_TDm_PH n m, 15, 0⟩
/-! ### Cluster -/

/-- Address of LE_CLCFG (05_loop_engines.md, Table LPE-7). -/
def LE_CLCFG : Nat := 0x20060000
/-- DEG_TMO [22:16] RWS. -/
def LE_CLCFG_DEG_TMO : Fld := ⟨LE_CLCFG, 22, 16⟩
/-- K [4:0] RWS. -/
def LE_CLCFG_K : Fld := ⟨LE_CLCFG, 4, 0⟩
/-- Address of LE_CLSTAT (05_loop_engines.md, Table LPE-8). -/
def LE_CLSTAT : Nat := 0x20060004
/-- DEGRADED [31:31] RO. -/
def LE_CLSTAT_DEGRADED : Fld := ⟨LE_CLSTAT, 31, 31⟩
/-- DEG_ENGINE [29:25] RO. -/
def LE_CLSTAT_DEG_ENGINE : Fld := ⟨LE_CLSTAT, 29, 25⟩
/-- LE_FAULT [23:0] RO. -/
def LE_CLSTAT_LE_FAULT : Fld := ⟨LE_CLSTAT, 23, 0⟩
/-- Address of LE_ROT (05_loop_engines.md, Table LPE-9). -/
def LE_ROT : Nat := 0x20060008
/-- BUSY [31:31] RO. -/
def LE_ROT_BUSY : Fld := ⟨LE_ROT, 31, 31⟩
/-- PHASE [30:28] RO. -/
def LE_ROT_PHASE : Fld := ⟨LE_ROT, 30, 28⟩
/-- MISMATCH [27:27] W1C. -/
def LE_ROT_MISMATCH : Fld := ⟨LE_ROT, 27, 27⟩
/-- BIST_FAIL [26:26] W1C. -/
def LE_ROT_BIST_FAIL : Fld := ⟨LE_ROT, 26, 26⟩
/-- SRC [23:19] RO. -/
def LE_ROT_SRC : Fld := ⟨LE_ROT, 23, 19⟩
/-- SPARE [18:18] RO. -/
def LE_ROT_SPARE : Fld := ⟨LE_ROT, 18, 18⟩
/-- SHADOW_M1 [11:8] RO. -/
def LE_ROT_SHADOW_M1 : Fld := ⟨LE_ROT, 11, 8⟩
/-! ### Engine -/

/-- Address of LEn_STAT (05_loop_engines.md, Table LPE-10; n below 24). -/
def LEn_STAT (n : Nat) : Nat := 0x21000000 + 0x10000 * n
/-- LOADED [31:31] RO. -/
def LEn_STAT_LOADED (n : Nat) : Fld := ⟨LEn_STAT n, 31, 31⟩
/-- HALTED [30:30] RO. -/
def LEn_STAT_HALTED (n : Nat) : Fld := ⟨LEn_STAT n, 30, 30⟩
/-- AOV [29:29] W1C. -/
def LEn_STAT_AOV (n : Nat) : Fld := ⟨LEn_STAT n, 29, 29⟩
/-- WBUF_OVF [28:28] W1C. -/
def LEn_STAT_WBUF_OVF (n : Nat) : Fld := ⟨LEn_STAT n, 28, 28⟩
/-- XWR_ERR [27:27] W1C. -/
def LEn_STAT_XWR_ERR (n : Nat) : Fld := ⟨LEn_STAT n, 27, 27⟩
/-- RESC_SAT [26:26] W1C. -/
def LEn_STAT_RESC_SAT (n : Nat) : Fld := ⟨LEn_STAT n, 26, 26⟩
/-- XRD_ERR [25:25] W1C. -/
def LEn_STAT_XRD_ERR (n : Nat) : Fld := ⟨LEn_STAT n, 25, 25⟩
/-- NTASK [10:8] RO. -/
def LEn_STAT_NTASK (n : Nat) : Fld := ⟨LEn_STAT n, 10, 8⟩
/-- INJ_RUN [7:0] RO. -/
def LEn_STAT_INJ_RUN (n : Nat) : Fld := ⟨LEn_STAT n, 7, 0⟩
/-- Address of LEn_TASKm_CFG (05_loop_engines.md, Table LPE-11; n below 24; m below 8). -/
def LEn_TASKm_CFG (n : Nat) (m : Nat) : Nat := 0x21000100 + 0x10000 * n + 0x10 * m
/-- RATE [31:30] RO. -/
def LEn_TASKm_CFG_RATE (n : Nat) (m : Nat) : Fld := ⟨LEn_TASKm_CFG n m, 31, 30⟩
/-- FEEDS_SEQ [29:29] RO. -/
def LEn_TASKm_CFG_FEEDS_SEQ (n : Nat) (m : Nat) : Fld := ⟨LEn_TASKm_CFG n m, 29, 29⟩
/-- START [26:18] RO. -/
def LEn_TASKm_CFG_START (n : Nat) (m : Nat) : Fld := ⟨LEn_TASKm_CFG n m, 26, 18⟩
/-- DEADLINE [17:9] RO. -/
def LEn_TASKm_CFG_DEADLINE (n : Nat) (m : Nat) : Fld := ⟨LEn_TASKm_CFG n m, 17, 9⟩
/-- Address of LEn_TASKm_WCET (05_loop_engines.md, Table LPE-12; n below 24; m below 8). -/
def LEn_TASKm_WCET (n : Nat) (m : Nat) : Nat := 0x21000104 + 0x10000 * n + 0x10 * m
/-- WCET [19:0] RO. -/
def LEn_TASKm_WCET_WCET (n : Nat) (m : Nat) : Fld := ⟨LEn_TASKm_WCET n m, 19, 0⟩
/-- Address of LEn_TASKm_STAT (05_loop_engines.md, Table LPE-13; n below 24; m below 8). -/
def LEn_TASKm_STAT (n : Nat) (m : Nat) : Nat := 0x21000108 + 0x10000 * n + 0x10 * m
/-- DLMISS [31:31] W1C. -/
def LEn_TASKm_STAT_DLMISS (n : Nat) (m : Nat) : Fld := ⟨LEn_TASKm_STAT n m, 31, 31⟩
/-- CONSEC [20:16] RO. -/
def LEn_TASKm_STAT_CONSEC (n : Nat) (m : Nat) : Fld := ⟨LEn_TASKm_STAT n m, 20, 16⟩
/-- MISS_CNT [15:0] RO. -/
def LEn_TASKm_STAT_MISS_CNT (n : Nat) (m : Nat) : Fld := ⟨LEn_TASKm_STAT n m, 15, 0⟩
/-- Address of LEn_RSEL (05_loop_engines.md, Table LPE-14; n below 24). -/
def LEn_RSEL (n : Nat) : Nat := 0x21000040 + 0x10000 * n
/-- FORCE [31:31] RWS. -/
def LEn_RSEL_FORCE (n : Nat) : Fld := ⟨LEn_RSEL n, 31, 31⟩
/-- FORCE_SET [27:24] RWS. -/
def LEn_RSEL_FORCE_SET (n : Nat) : Fld := ⟨LEn_RSEL n, 27, 24⟩
/-- ACTIVE_SET [19:16] RO. -/
def LEn_RSEL_ACTIVE_SET (n : Nat) : Fld := ⟨LEn_RSEL n, 19, 16⟩
/-- BANDS [15:8] RO. -/
def LEn_RSEL_BANDS (n : Nat) : Fld := ⟨LEn_RSEL n, 15, 8⟩
/-- Address of LEn_RINi_ADDR (05_loop_engines.md, Table LPE-15; n below 24; i below 4). -/
def LEn_RINi_ADDR (n : Nat) (i : Nat) : Nat := 0x21000050 + 0x10000 * n + 0x10 * i
/-- EN [31:31] RWS. -/
def LEn_RINi_ADDR_EN (n : Nat) (i : Nat) : Fld := ⟨LEn_RINi_ADDR n i, 31, 31⟩
/-- WADDR [17:0] RWS. -/
def LEn_RINi_ADDR_WADDR (n : Nat) (i : Nat) : Fld := ⟨LEn_RINi_ADDR n i, 17, 0⟩
/-- Address of LEn_RINi_TA (05_loop_engines.md, Table LPE-15; n below 24; i below 4). -/
def LEn_RINi_TA (n : Nat) (i : Nat) : Nat := 0x21000054 + 0x10000 * n + 0x10 * i
/-- T2 [31:16] RWS. -/
def LEn_RINi_TA_T2 (n : Nat) (i : Nat) : Fld := ⟨LEn_RINi_TA n i, 31, 16⟩
/-- T1 [15:0] RWS. -/
def LEn_RINi_TA_T1 (n : Nat) (i : Nat) : Fld := ⟨LEn_RINi_TA n i, 15, 0⟩
/-- Address of LEn_RINi_TB (05_loop_engines.md, Table LPE-15; n below 24; i below 4). -/
def LEn_RINi_TB (n : Nat) (i : Nat) : Nat := 0x21000058 + 0x10000 * n + 0x10 * i
/-- HYS [31:16] RWS. -/
def LEn_RINi_TB_HYS (n : Nat) (i : Nat) : Fld := ⟨LEn_RINi_TB n i, 31, 16⟩
/-- T3 [15:0] RWS. -/
def LEn_RINi_TB_T3 (n : Nat) (i : Nat) : Fld := ⟨LEn_RINi_TB n i, 15, 0⟩
/-- Address of LEn_RMAPj (05_loop_engines.md, Table LPE-16; n below 24; j below 32). -/
def LEn_RMAPj (n : Nat) (j : Nat) : Nat := 0x21000180 + 0x10000 * n + 0x4 * j
/-- SET7 [31:28] RWS. -/
def LEn_RMAPj_SET7 (n : Nat) (j : Nat) : Fld := ⟨LEn_RMAPj n j, 31, 28⟩
/-- SET6 [27:24] RWS. -/
def LEn_RMAPj_SET6 (n : Nat) (j : Nat) : Fld := ⟨LEn_RMAPj n j, 27, 24⟩
/-- SET5 [23:20] RWS. -/
def LEn_RMAPj_SET5 (n : Nat) (j : Nat) : Fld := ⟨LEn_RMAPj n j, 23, 20⟩
/-- SET4 [19:16] RWS. -/
def LEn_RMAPj_SET4 (n : Nat) (j : Nat) : Fld := ⟨LEn_RMAPj n j, 19, 16⟩
/-- SET3 [15:12] RWS. -/
def LEn_RMAPj_SET3 (n : Nat) (j : Nat) : Fld := ⟨LEn_RMAPj n j, 15, 12⟩
/-- SET2 [11:8] RWS. -/
def LEn_RMAPj_SET2 (n : Nat) (j : Nat) : Fld := ⟨LEn_RMAPj n j, 11, 8⟩
/-- SET1 [7:4] RWS. -/
def LEn_RMAPj_SET1 (n : Nat) (j : Nat) : Fld := ⟨LEn_RMAPj n j, 7, 4⟩
/-- SET0 [3:0] RWS. -/
def LEn_RMAPj_SET0 (n : Nat) (j : Nat) : Fld := ⟨LEn_RMAPj n j, 3, 0⟩
/-- Address of LEn_INJLIMj (05_loop_engines.md, Table LPE-17; n below 24; j below 8). -/
def LEn_INJLIMj (n : Nat) (j : Nat) : Nat := 0x21000200 + 0x10000 * n + 0x4 * j
/-- MON [31:16] RWS. -/
def LEn_INJLIMj_MON (n : Nat) (j : Nat) : Fld := ⟨LEn_INJLIMj n j, 31, 16⟩
/-- LIM [15:0] RWS. -/
def LEn_INJLIMj_LIM (n : Nat) (j : Nat) : Fld := ⟨LEn_INJLIMj n j, 15, 0⟩
/-- Address of LEn_INJSTAT (05_loop_engines.md, Table LPE-18; n below 24). -/
def LEn_INJSTAT (n : Nat) : Nat := 0x21000220 + 0x10000 * n
/-- ABORT [7:0] W1C. -/
def LEn_INJSTAT_ABORT (n : Nat) : Fld := ⟨LEn_INJSTAT n, 7, 0⟩
/-! ### Cluster -/

/-- Address of GFL_BASE0 (06_forming_law.md, Table GFL-10). -/
def GFL_BASE0 : Nat := 0x20061000
/-- V_BASE [31:16] RWS. -/
def GFL_BASE0_V_BASE : Fld := ⟨GFL_BASE0, 31, 16⟩
/-- S_BASE [15:0] RWS. -/
def GFL_BASE0_S_BASE : Fld := ⟨GFL_BASE0, 15, 0⟩
/-- Address of GFL_BASE1 (06_forming_law.md, Table GFL-11). -/
def GFL_BASE1 : Nat := 0x20061004
/-- DCMODE [17:17] RWS. -/
def GFL_BASE1_DCMODE : Fld := ⟨GFL_BASE1, 17, 17⟩
/-- FNOM [16:16] RWS. -/
def GFL_BASE1_FNOM : Fld := ⟨GFL_BASE1, 16, 16⟩
/-- V_DC_BASE [15:0] RWS. -/
def GFL_BASE1_V_DC_BASE : Fld := ⟨GFL_BASE1, 15, 0⟩
/-- Address of GFL_VSM (06_forming_law.md, Table GFL-12). -/
def GFL_VSM : Nat := 0x20061008
/-- D [31:16] RWS. -/
def GFL_VSM_D : Fld := ⟨GFL_VSM, 31, 16⟩
/-- H [15:0] RWS. -/
def GFL_VSM_H : Fld := ⟨GFL_VSM, 15, 0⟩
/-- Address of GFL_DROOP (06_forming_law.md, Table GFL-13). -/
def GFL_DROOP : Nat := 0x2006100c
/-- NQ [31:16] RWS. -/
def GFL_DROOP_NQ : Fld := ⟨GFL_DROOP, 31, 16⟩
/-- RF [15:0] RWS. -/
def GFL_DROOP_RF : Fld := ⟨GFL_DROOP, 15, 0⟩
/-- Address of GFL_FILT (06_forming_law.md, Table GFL-14). -/
def GFL_FILT : Nat := 0x20061010
/-- T_V [31:24] RWS. -/
def GFL_FILT_T_V : Fld := ⟨GFL_FILT, 31, 24⟩
/-- T_D [23:16] RWS. -/
def GFL_FILT_T_D : Fld := ⟨GFL_FILT, 23, 16⟩
/-- T_Q [15:8] RWS. -/
def GFL_FILT_T_Q : Fld := ⟨GFL_FILT, 15, 8⟩
/-- T_P [7:0] RWS. -/
def GFL_FILT_T_P : Fld := ⟨GFL_FILT, 7, 0⟩
/-- Address of GFL_ZV (06_forming_law.md, Table GFL-15). -/
def GFL_ZV : Nat := 0x20061014
/-- X_V [31:16] RWS. -/
def GFL_ZV_X_V : Fld := ⟨GFL_ZV, 31, 16⟩
/-- R_V [15:0] RWS. -/
def GFL_ZV_R_V : Fld := ⟨GFL_ZV, 15, 0⟩
/-- Address of GFL_CTRL (06_forming_law.md, Table GFL-16). -/
def GFL_CTRL : Nat := 0x20061018
/-- BW_CIRC [31:16] RWS. -/
def GFL_CTRL_BW_CIRC : Fld := ⟨GFL_CTRL, 31, 16⟩
/-- BW_AC [15:0] RWS. -/
def GFL_CTRL_BW_AC : Fld := ⟨GFL_CTRL, 15, 0⟩
/-- Address of GFL_LIND (06_forming_law.md, Table GFL-17). -/
def GFL_LIND : Nat := 0x2006101c
/-- L_ARM [31:16] RWS. -/
def GFL_LIND_L_ARM : Fld := ⟨GFL_LIND, 31, 16⟩
/-- L_AC [15:0] RWS. -/
def GFL_LIND_L_AC : Fld := ⟨GFL_LIND, 15, 0⟩
/-- Address of GFL_ENERGY (06_forming_law.md, Table GFL-18). -/
def GFL_ENERGY : Nat := 0x20061020
/-- DC_TI [31:24] RWS. -/
def GFL_ENERGY_DC_TI : Fld := ⟨GFL_ENERGY, 31, 24⟩
/-- BW_WV [23:16] RWS. -/
def GFL_ENERGY_BW_WV : Fld := ⟨GFL_ENERGY, 23, 16⟩
/-- BW_WH [15:8] RWS. -/
def GFL_ENERGY_BW_WH : Fld := ⟨GFL_ENERGY, 15, 8⟩
/-- BW_WT [7:0] RWS. -/
def GFL_ENERGY_BW_WT : Fld := ⟨GFL_ENERGY, 7, 0⟩
/-- Address of GFL_DCCTL (06_forming_law.md, Table GFL-19). -/
def GFL_DCCTL : Nat := 0x20061024
/-- KDC [31:16] RWS. -/
def GFL_DCCTL_KDC : Fld := ⟨GFL_DCCTL, 31, 16⟩
/-- P_DC_LIM [15:0] RWS. -/
def GFL_DCCTL_P_DC_LIM : Fld := ⟨GFL_DCCTL, 15, 0⟩
/-- Address of GFL_SM (06_forming_law.md, Table GFL-20). -/
def GFL_SM : Nat := 0x20061028
/-- V_SM_NOM [31:16] RWS. -/
def GFL_SM_V_SM_NOM : Fld := ⟨GFL_SM, 31, 16⟩
/-- N_NOM [9:0] RWS. -/
def GFL_SM_N_NOM : Fld := ⟨GFL_SM, 9, 0⟩
/-- Address of GFL_CSM (06_forming_law.md, Table GFL-21). -/
def GFL_CSM : Nat := 0x2006102c
/-- C_SM [15:0] RWS. -/
def GFL_CSM_C_SM : Fld := ⟨GFL_CSM, 15, 0⟩
/-- Address of GFL_AUX (06_forming_law.md, Table GFL-22). -/
def GFL_AUX : Nat := 0x20061030
/-- P_EN [31:31] RWS. -/
def GFL_AUX_P_EN : Fld := ⟨GFL_AUX, 31, 31⟩
/-- P_ENG [30:28] RWS. -/
def GFL_AUX_P_ENG : Fld := ⟨GFL_AUX, 30, 28⟩
/-- P_WORD [27:16] RWS. -/
def GFL_AUX_P_WORD : Fld := ⟨GFL_AUX, 27, 16⟩
/-- Q_EN [15:15] RWS. -/
def GFL_AUX_Q_EN : Fld := ⟨GFL_AUX, 15, 15⟩
/-- Q_ENG [14:12] RWS. -/
def GFL_AUX_Q_ENG : Fld := ⟨GFL_AUX, 14, 12⟩
/-- Q_WORD [11:0] RWS. -/
def GFL_AUX_Q_WORD : Fld := ⟨GFL_AUX, 11, 0⟩
/-- Address of GFL_LIMS (06_forming_law.md, Table GFL-23). -/
def GFL_LIMS : Nat := 0x20061034
/-- FREQ_LIM [31:16] RWS. -/
def GFL_LIMS_FREQ_LIM : Fld := ⟨GFL_LIMS, 31, 16⟩
/-- AUX_LIM [15:0] RWS. -/
def GFL_LIMS_AUX_LIM : Fld := ⟨GFL_LIMS, 15, 0⟩
/-- Address of GFL_STAT (06_forming_law.md, Table GFL-24). -/
def GFL_STAT : Nat := 0x20061038
/-- RUN [31:31] RO. -/
def GFL_STAT_RUN : Fld := ⟨GFL_STAT, 31, 31⟩
/-- TRACK [30:30] RO. -/
def GFL_STAT_TRACK : Fld := ⟨GFL_STAT, 30, 30⟩
/-- TRACK_LOCK [29:29] RO. -/
def GFL_STAT_TRACK_LOCK : Fld := ⟨GFL_STAT, 29, 29⟩
/-- RAMPING [28:28] RO. -/
def GFL_STAT_RAMPING : Fld := ⟨GFL_STAT, 28, 28⟩
/-- LIM_ACT [27:27] RO. -/
def GFL_STAT_LIM_ACT : Fld := ⟨GFL_STAT, 27, 27⟩
/-- W_LIM [26:26] W1C. -/
def GFL_STAT_W_LIM : Fld := ⟨GFL_STAT, 26, 26⟩
/-- E_SAT [25:25] W1C. -/
def GFL_STAT_E_SAT : Fld := ⟨GFL_STAT, 25, 25⟩
/-- IV_FLOOR [24:24] W1C. -/
def GFL_STAT_IV_FLOOR : Fld := ⟨GFL_STAT, 24, 24⟩
/-- OUT_SAT [21:16] W1C. -/
def GFL_STAT_OUT_SAT : Fld := ⟨GFL_STAT, 21, 16⟩
/-- ACT_SET [3:0] RO. -/
def GFL_STAT_ACT_SET : Fld := ⟨GFL_STAT, 3, 0⟩
/-- Address of GFL_MAPq (06_forming_law.md, Table GFL-25; q below 14). -/
def GFL_MAPq (q : Nat) : Nat := 0x20061040 + 0x4 * q
/-- CH [28:24] RWS. -/
def GFL_MAPq_CH (q : Nat) : Fld := ⟨GFL_MAPq q, 28, 24⟩
/-- SCALE [15:0] RWS. -/
def GFL_MAPq_SCALE (q : Nat) : Fld := ⟨GFL_MAPq q, 15, 0⟩
/-- Address of LFT_IMAX (07_limits_and_faults.md, Table LFT-9). -/
def LFT_IMAX : Nat := 0x20061100
/-- IVI [31:16] RWS. -/
def LFT_IMAX_IVI : Fld := ⟨LFT_IMAX, 31, 16⟩
/-- IMAX [15:0] RWS. -/
def LFT_IMAX_IMAX : Fld := ⟨LFT_IMAX, 15, 0⟩
/-- Address of LFT_PRIO (07_limits_and_faults.md, Table LFT-10). -/
def LFT_PRIO : Nat := 0x20061104
/-- TZ_DN [31:24] RWS. -/
def LFT_PRIO_TZ_DN : Fld := ⟨LFT_PRIO, 31, 24⟩
/-- TZ_UP [23:16] RWS. -/
def LFT_PRIO_TZ_UP : Fld := ⟨LFT_PRIO, 23, 16⟩
/-- RT_ANG [11:10] RWS. -/
def LFT_PRIO_RT_ANG : Fld := ⟨LFT_PRIO, 11, 10⟩
/-- RC_MODE [9:8] RWS. -/
def LFT_PRIO_RC_MODE : Fld := ⟨LFT_PRIO, 9, 8⟩
/-- PRIO_RT [7:4] RWS. -/
def LFT_PRIO_PRIO_RT : Fld := ⟨LFT_PRIO, 7, 4⟩
/-- PRIO_FORM [3:0] RWS. -/
def LFT_PRIO_PRIO_FORM : Fld := ⟨LFT_PRIO, 3, 0⟩
/-- Address of LFT_RC (07_limits_and_faults.md, Table LFT-11). -/
def LFT_RC : Nat := 0x20061108
/-- K_RC [31:16] RWS. -/
def LFT_RC_K_RC : Fld := ⟨LFT_RC, 31, 16⟩
/-- DB [15:0] RWS. -/
def LFT_RC_DB : Fld := ⟨LFT_RC, 15, 0⟩
/-- Address of LFT_ACDET (07_limits_and_faults.md, Table LFT-12). -/
def LFT_ACDET : Nat := 0x2006110c
/-- UV_THR [31:16] RWS. -/
def LFT_ACDET_UV_THR : Fld := ⟨LFT_ACDET, 31, 16⟩
/-- OV_THR [15:0] RWS. -/
def LFT_ACDET_OV_THR : Fld := ⟨LFT_ACDET, 15, 0⟩
/-- Address of LFT_ACREC (07_limits_and_faults.md, Table LFT-13). -/
def LFT_ACREC : Nat := 0x20061110
/-- UV_REC [31:16] RWS. -/
def LFT_ACREC_UV_REC : Fld := ⟨LFT_ACREC, 31, 16⟩
/-- OV_REC [15:0] RWS. -/
def LFT_ACREC_OV_REC : Fld := ⟨LFT_ACREC, 15, 0⟩
/-- Address of LFT_ACTIME (07_limits_and_faults.md, Table LFT-14). -/
def LFT_ACTIME : Nat := 0x20061114
/-- REC_T [31:24] RWS. -/
def LFT_ACTIME_REC_T : Fld := ⟨LFT_ACTIME, 31, 24⟩
/-- UV_N [23:16] RWS. -/
def LFT_ACTIME_UV_N : Fld := ⟨LFT_ACTIME, 23, 16⟩
/-- OV_N [15:0] RWS. -/
def LFT_ACTIME_OV_N : Fld := ⟨LFT_ACTIME, 15, 0⟩
/-- Address of LFT_OC (07_limits_and_faults.md, Table LFT-15). -/
def LFT_OC : Nat := 0x20061118
/-- OC_N [31:16] RWS. -/
def LFT_OC_OC_N : Fld := ⟨LFT_OC, 31, 16⟩
/-- I_ARM_MAX [15:0] RWS. -/
def LFT_OC_I_ARM_MAX : Fld := ⟨LFT_OC, 15, 0⟩
/-- Address of LFT_DCDET (07_limits_and_faults.md, Table LFT-16). -/
def LFT_DCDET : Nat := 0x2006111c
/-- DCUV_THR [31:16] RWS. -/
def LFT_DCDET_DCUV_THR : Fld := ⟨LFT_DCDET, 31, 16⟩
/-- DCOC_THR [15:0] RWS. -/
def LFT_DCDET_DCOC_THR : Fld := ⟨LFT_DCDET, 15, 0⟩
/-- Address of LFT_DCDET2 (07_limits_and_faults.md, Table LFT-17). -/
def LFT_DCDET2 : Nat := 0x20061120
/-- DCPE_THR [31:16] RWS. -/
def LFT_DCDET2_DCPE_THR : Fld := ⟨LFT_DCDET2, 31, 16⟩
/-- DCUV_N [15:8] RWS. -/
def LFT_DCDET2_DCUV_N : Fld := ⟨LFT_DCDET2, 15, 8⟩
/-- DCOC_N [7:4] RWS. -/
def LFT_DCDET2_DCOC_N : Fld := ⟨LFT_DCDET2, 7, 4⟩
/-- ARM_N [3:0] RWS. -/
def LFT_DCDET2_ARM_N : Fld := ⟨LFT_DCDET2, 3, 0⟩
/-- Address of LFT_DCF (07_limits_and_faults.md, Table LFT-18). -/
def LFT_DCF : Nat := 0x20061124
/-- DCF_MODE [31:31] RWS. -/
def LFT_DCF_DCF_MODE : Fld := ⟨LFT_DCF, 31, 31⟩
/-- DCF_TCLR [23:16] RWS. -/
def LFT_DCF_DCF_TCLR : Fld := ⟨LFT_DCF, 23, 16⟩
/-- DCF_FBMIN [15:0] RWS. -/
def LFT_DCF_DCF_FBMIN : Fld := ⟨LFT_DCF, 15, 0⟩
/-- Address of LFT_DCF2 (07_limits_and_faults.md, Table LFT-19). -/
def LFT_DCF2 : Nat := 0x20061128
/-- DCF_DEION [31:24] RWS. -/
def LFT_DCF2_DCF_DEION : Fld := ⟨LFT_DCF2, 31, 24⟩
/-- DCF_VRAMP [23:16] RWS. -/
def LFT_DCF2_DCF_VRAMP : Fld := ⟨LFT_DCF2, 23, 16⟩
/-- DCF_ICLR [15:0] RWS. -/
def LFT_DCF2_DCF_ICLR : Fld := ⟨LFT_DCF2, 15, 0⟩
/-- Address of LFT_DCREC (07_limits_and_faults.md, Table LFT-20). -/
def LFT_DCREC : Nat := 0x2006112c
/-- DCREC_T [31:24] RWS. -/
def LFT_DCREC_DCREC_T : Fld := ⟨LFT_DCREC, 31, 24⟩
/-- DCREC_LO [15:0] RWS. -/
def LFT_DCREC_DCREC_LO : Fld := ⟨LFT_DCREC, 15, 0⟩
/-- Address of LFT_REC (07_limits_and_faults.md, Table LFT-21). -/
def LFT_REC : Nat := 0x20061130
/-- PREC_RATE [31:16] RWS. -/
def LFT_REC_PREC_RATE : Fld := ⟨LFT_REC, 31, 16⟩
/-- DCF_PLIM [15:0] RWS. -/
def LFT_REC_DCF_PLIM : Fld := ⟨LFT_REC, 15, 0⟩
/-- Address of LFT_REPEAT (07_limits_and_faults.md, Table LFT-22). -/
def LFT_REPEAT : Nat := 0x20061134
/-- RT_REP_WIN [31:24] RWS. -/
def LFT_REPEAT_RT_REP_WIN : Fld := ⟨LFT_REPEAT, 31, 24⟩
/-- RT_REP_N [19:16] RWS. -/
def LFT_REPEAT_RT_REP_N : Fld := ⟨LFT_REPEAT, 19, 16⟩
/-- DCOV_TRIP [15:0] RWS. -/
def LFT_REPEAT_DCOV_TRIP : Fld := ⟨LFT_REPEAT, 15, 0⟩
/-- Address of LFT_CHOP (07_limits_and_faults.md, Table LFT-23). -/
def LFT_CHOP : Nat := 0x20061138
/-- CHOP_ON [31:16] RWS. -/
def LFT_CHOP_CHOP_ON : Fld := ⟨LFT_CHOP, 31, 16⟩
/-- CHOP_OFF [15:0] RWS. -/
def LFT_CHOP_CHOP_OFF : Fld := ⟨LFT_CHOP, 15, 0⟩
/-- Address of LFT_CHOP2 (07_limits_and_faults.md, Table LFT-24). -/
def LFT_CHOP2 : Nat := 0x2006113c
/-- CHOP_K [31:16] RWS. -/
def LFT_CHOP2_CHOP_K : Fld := ⟨LFT_CHOP2, 31, 16⟩
/-- CH_AVG [15:8] RWS. -/
def LFT_CHOP2_CH_AVG : Fld := ⟨LFT_CHOP2, 15, 8⟩
/-- CH_TAU [7:0] RWS. -/
def LFT_CHOP2_CH_TAU : Fld := ⟨LFT_CHOP2, 7, 0⟩
/-- Address of LFT_STAT (07_limits_and_faults.md, Table LFT-25). -/
def LFT_STAT : Nat := 0x20061140
/-- ACF [31:31] RO. -/
def LFT_STAT_ACF : Fld := ⟨LFT_STAT, 31, 31⟩
/-- DCF [30:30] RO. -/
def LFT_STAT_DCF : Fld := ⟨LFT_STAT, 30, 30⟩
/-- RECOVERING [29:29] RO. -/
def LFT_STAT_RECOVERING : Fld := ⟨LFT_STAT, 29, 29⟩
/-- CHOP_ACT [28:28] RO. -/
def LFT_STAT_CHOP_ACT : Fld := ⟨LFT_STAT, 28, 28⟩
/-- CHOP_THERM [27:27] RO. -/
def LFT_STAT_CHOP_THERM : Fld := ⟨LFT_STAT, 27, 27⟩
/-- DCF_STAGE [26:24] RO. -/
def LFT_STAT_DCF_STAGE : Fld := ⟨LFT_STAT, 26, 24⟩
/-- UV_SEEN [23:23] W1C. -/
def LFT_STAT_UV_SEEN : Fld := ⟨LFT_STAT, 23, 23⟩
/-- OV_SEEN [22:22] W1C. -/
def LFT_STAT_OV_SEEN : Fld := ⟨LFT_STAT, 22, 22⟩
/-- OC_SEEN [21:21] W1C. -/
def LFT_STAT_OC_SEEN : Fld := ⟨LFT_STAT, 21, 21⟩
/-- DCUV_SEEN [20:20] W1C. -/
def LFT_STAT_DCUV_SEEN : Fld := ⟨LFT_STAT, 20, 20⟩
/-- DCOC_SEEN [19:19] W1C. -/
def LFT_STAT_DCOC_SEEN : Fld := ⟨LFT_STAT, 19, 19⟩
/-- DCPE_SEEN [18:18] W1C. -/
def LFT_STAT_DCPE_SEEN : Fld := ⟨LFT_STAT, 18, 18⟩
/-- RT_ENTRIES [15:0] RO. -/
def LFT_STAT_RT_ENTRIES : Fld := ⟨LFT_STAT, 15, 0⟩
/-- Address of LFT_KCAUSE (07_limits_and_faults.md, Table LFT-26). -/
def LFT_KCAUSE : Nat := 0x20061144
/-- DCF_TRIP [5:5] RO. -/
def LFT_KCAUSE_DCF_TRIP : Fld := ⟨LFT_KCAUSE, 5, 5⟩
/-- RT_REPEAT [4:4] RO. -/
def LFT_KCAUSE_RT_REPEAT : Fld := ⟨LFT_KCAUSE, 4, 4⟩
/-- DCF_NOCLR [3:3] RO. -/
def LFT_KCAUSE_DCF_NOCLR : Fld := ⟨LFT_KCAUSE, 3, 3⟩
/-- DCF_NO_FB [2:2] RO. -/
def LFT_KCAUSE_DCF_NO_FB : Fld := ⟨LFT_KCAUSE, 2, 2⟩
/-- DC_OV [1:1] RO. -/
def LFT_KCAUSE_DC_OV : Fld := ⟨LFT_KCAUSE, 1, 1⟩
/-- ARM_OC [0:0] RO. -/
def LFT_KCAUSE_ARM_OC : Fld := ⟨LFT_KCAUSE, 0, 0⟩
/-- Address of LFT_LAST0 (07_limits_and_faults.md, Table LFT-27). -/
def LFT_LAST0 : Nat := 0x20061148
/-- DET_TICK [31:0] RO. -/
def LFT_LAST0_DET_TICK : Fld := ⟨LFT_LAST0, 31, 0⟩
/-- Address of LFT_LAST1 (07_limits_and_faults.md, Table LFT-28). -/
def LFT_LAST1 : Nat := 0x2006114c
/-- DETECTORS [25:20] RO. -/
def LFT_LAST1_DETECTORS : Fld := ⟨LFT_LAST1, 25, 20⟩
/-- EXIT [19:16] RO. -/
def LFT_LAST1_EXIT : Fld := ⟨LFT_LAST1, 19, 16⟩
/-- RT_MS [15:0] RO. -/
def LFT_LAST1_RT_MS : Fld := ⟨LFT_LAST1, 15, 0⟩
/-- Address of ENG_PRE (08_energizing.md, Table ENG-7). -/
def ENG_PRE : Nat := 0x20061200
/-- PRE_DWELL [31:24] RWS. -/
def ENG_PRE_PRE_DWELL : Fld := ⟨ENG_PRE, 31, 24⟩
/-- PRE_TMAX [23:16] RWS. -/
def ENG_PRE_PRE_TMAX : Fld := ⟨ENG_PRE, 23, 16⟩
/-- PRE_VDC_MIN [15:0] RWS. -/
def ENG_PRE_PRE_VDC_MIN : Fld := ⟨ENG_PRE, 15, 0⟩
/-- Address of ENG_PREI (08_energizing.md, Table ENG-8). -/
def ENG_PREI : Nat := 0x20061204
/-- PRE_ICUT [31:16] RWS. -/
def ENG_PREI_PRE_ICUT : Fld := ⟨ENG_PREI, 31, 16⟩
/-- PRE_ISTEP [15:0] RWS. -/
def ENG_PREI_PRE_ISTEP : Fld := ⟨ENG_PREI, 15, 0⟩
/-- Address of ENG_EQ (08_energizing.md, Table ENG-9). -/
def ENG_EQ : Nat := 0x20061208
/-- EQ_TMAX [31:24] RWS. -/
def ENG_EQ_EQ_TMAX : Fld := ⟨ENG_EQ, 31, 24⟩
/-- EQ_SETTLE [23:16] RWS. -/
def ENG_EQ_EQ_SETTLE : Fld := ⟨ENG_EQ, 23, 16⟩
/-- SPREAD_TOL [15:8] RWS. -/
def ENG_EQ_SPREAD_TOL : Fld := ⟨ENG_EQ, 15, 8⟩
/-- Address of ENG_DONE (08_energizing.md, Table ENG-10). -/
def ENG_DONE : Nat := 0x2006120c
/-- ENG_WMIN [31:16] RWS. -/
def ENG_DONE_ENG_WMIN : Fld := ⟨ENG_DONE, 31, 16⟩
/-- ENG_WDONE [15:0] RWS. -/
def ENG_DONE_ENG_WDONE : Fld := ⟨ENG_DONE, 15, 0⟩
/-- Address of ENG_BS (08_energizing.md, Table ENG-11). -/
def ENG_BS : Nat := 0x20061210
/-- BS_T [31:24] RWS. -/
def ENG_BS_BS_T : Fld := ⟨ENG_BS, 31, 24⟩
/-- READY_MAX [23:16] RWS. -/
def ENG_BS_READY_MAX : Fld := ⟨ENG_BS, 23, 16⟩
/-- VAC_DEAD [15:0] RWS. -/
def ENG_BS_VAC_DEAD : Fld := ⟨ENG_BS, 15, 0⟩
/-- Address of ENG_STAT (08_energizing.md, Table ENG-12). -/
def ENG_STAT : Nat := 0x20061214
/-- STAGE [31:28] RO. -/
def ENG_STAT_STAGE : Fld := ⟨ENG_STAT, 31, 28⟩
/-- METHOD [27:27] RO. -/
def ENG_STAT_METHOD : Fld := ⟨ENG_STAT, 27, 27⟩
/-- SKIPPED [26:26] RO. -/
def ENG_STAT_SKIPPED : Fld := ⟨ENG_STAT, 26, 26⟩
/-- FAIL_REASON [19:16] RO. -/
def ENG_STAT_FAIL_REASON : Fld := ⟨ENG_STAT, 19, 16⟩
/-- STAGE_MS [15:0] RO. -/
def ENG_STAT_STAGE_MS : Fld := ⟨ENG_STAT, 15, 0⟩
/-- Address of ENG_CRIT (08_energizing.md, Table ENG-13). -/
def ENG_CRIT : Nat := 0x20061218
/-- CRIT [7:0] RO. -/
def ENG_CRIT_CRIT : Fld := ⟨ENG_CRIT, 7, 0⟩
/-- Address of ENG_NCHGj (08_energizing.md, Table ENG-14; j below 3). -/
def ENG_NCHGj (j : Nat) : Nat := 0x20061220 + 0x4 * j
/-- N_ODD [25:16] RO. -/
def ENG_NCHGj_N_ODD (j : Nat) : Fld := ⟨ENG_NCHGj j, 25, 16⟩
/-- N_EVEN [9:0] RO. -/
def ENG_NCHGj_N_EVEN (j : Nat) : Fld := ⟨ENG_NCHGj j, 9, 0⟩
/-! ### Ramp -/

/-- Address of RMPc_CFG (09_setpoint_ramps.md, Table RMP-5; c below 8). -/
def RMPc_CFG (c : Nat) : Nat := 0x20070000 + 0x40 * c
/-- SRC [31:30] RWS. -/
def RMPc_CFG_SRC (c : Nat) : Fld := ⟨RMPc_CFG c, 31, 30⟩
/-- ZERO_ON_BLOCK [29:29] RWS. -/
def RMPc_CFG_ZERO_ON_BLOCK (c : Nat) : Fld := ⟨RMPc_CFG c, 29, 29⟩
/-- LIM_MODE [28:28] RWS. -/
def RMPc_CFG_LIM_MODE (c : Nat) : Fld := ⟨RMPc_CFG c, 28, 28⟩
/-- Address of RMPc_VMAX (09_setpoint_ramps.md, Table RMP-6; c below 8). -/
def RMPc_VMAX (c : Nat) : Nat := 0x20070004 + 0x40 * c
/-- VMAX [31:0] RWS. -/
def RMPc_VMAX_VMAX (c : Nat) : Fld := ⟨RMPc_VMAX c, 31, 0⟩
/-- Address of RMPc_AMAX (09_setpoint_ramps.md, Table RMP-6; c below 8). -/
def RMPc_AMAX (c : Nat) : Nat := 0x20070008 + 0x40 * c
/-- AMAX [31:0] RWS. -/
def RMPc_AMAX_AMAX (c : Nat) : Fld := ⟨RMPc_AMAX c, 31, 0⟩
/-- Address of RMPc_DMAX (09_setpoint_ramps.md, Table RMP-6; c below 8). -/
def RMPc_DMAX (c : Nat) : Nat := 0x2007000c + 0x40 * c
/-- DMAX [31:0] RWS. -/
def RMPc_DMAX_DMAX (c : Nat) : Fld := ⟨RMPc_DMAX c, 31, 0⟩
/-- Address of RMPc_JMAX (09_setpoint_ramps.md, Table RMP-6; c below 8). -/
def RMPc_JMAX (c : Nat) : Nat := 0x20070010 + 0x40 * c
/-- JMAX [31:0] RWS. -/
def RMPc_JMAX_JMAX (c : Nat) : Fld := ⟨RMPc_JMAX c, 31, 0⟩
/-- Address of RMPc_RANGE (09_setpoint_ramps.md, Table RMP-7; c below 8). -/
def RMPc_RANGE (c : Nat) : Nat := 0x20070014 + 0x40 * c
/-- MAX [31:16] RWS. -/
def RMPc_RANGE_MAX (c : Nat) : Fld := ⟨RMPc_RANGE c, 31, 16⟩
/-- MIN [15:0] RWS. -/
def RMPc_RANGE_MIN (c : Nat) : Fld := ⟨RMPc_RANGE c, 15, 0⟩
/-- Address of RMPc_TASK (09_setpoint_ramps.md, Table RMP-8; c below 8). -/
def RMPc_TASK (c : Nat) : Nat := 0x20070018 + 0x40 * c
/-- ENG [20:16] RWS. -/
def RMPc_TASK_ENG (c : Nat) : Fld := ⟨RMPc_TASK c, 20, 16⟩
/-- WORD [11:0] RWS. -/
def RMPc_TASK_WORD (c : Nat) : Fld := ⟨RMPc_TASK c, 11, 0⟩
/-- Address of RMPc_INIT (09_setpoint_ramps.md, Table RMP-9; c below 8). -/
def RMPc_INIT (c : Nat) : Nat := 0x2007001c + 0x40 * c
/-- INIT [15:0] RWS. -/
def RMPc_INIT_INIT (c : Nat) : Fld := ⟨RMPc_INIT c, 15, 0⟩
/-- Address of RMPc_VALUE (09_setpoint_ramps.md, Table RMP-10; c below 8). -/
def RMPc_VALUE (c : Nat) : Nat := 0x20070020 + 0x40 * c
/-- TARGET [31:16] RO. -/
def RMPc_VALUE_TARGET (c : Nat) : Fld := ⟨RMPc_VALUE c, 31, 16⟩
/-- VALUE [15:0] RO. -/
def RMPc_VALUE_VALUE (c : Nat) : Fld := ⟨RMPc_VALUE c, 15, 0⟩
/-- Address of RMPc_STAT (09_setpoint_ramps.md, Table RMP-11; c below 8). -/
def RMPc_STAT (c : Nat) : Nat := 0x20070024 + 0x40 * c
/-- PEND_D [31:31] RO. -/
def RMPc_STAT_PEND_D (c : Nat) : Fld := ⟨RMPc_STAT c, 31, 31⟩
/-- PHASE [30:29] RO. -/
def RMPc_STAT_PHASE (c : Nat) : Fld := ⟨RMPc_STAT c, 30, 29⟩
/-- REVERSAL [28:28] W1C. -/
def RMPc_STAT_REVERSAL (c : Nat) : Fld := ⟨RMPc_STAT c, 28, 28⟩
/-- OVERSHOOT_PLANNED [27:27] W1C. -/
def RMPc_STAT_OVERSHOOT_PLANNED (c : Nat) : Fld := ⟨RMPc_STAT c, 27, 27⟩
/-- CLAMP [26:26] W1C. -/
def RMPc_STAT_CLAMP (c : Nat) : Fld := ⟨RMPc_STAT c, 26, 26⟩
/-- FLUSHED [25:25] W1C. -/
def RMPc_STAT_FLUSHED (c : Nat) : Fld := ⟨RMPc_STAT c, 25, 25⟩
/-- QLEN [20:16] RO. -/
def RMPc_STAT_QLEN (c : Nat) : Fld := ⟨RMPc_STAT c, 20, 16⟩
/-- REV_DIST [15:0] RO. -/
def RMPc_STAT_REV_DIST (c : Nat) : Fld := ⟨RMPc_STAT c, 15, 0⟩
/-- Address of RMPc_TURN (09_setpoint_ramps.md, Table RMP-12; c below 8). -/
def RMPc_TURN (c : Nat) : Nat := 0x20070028 + 0x40 * c
/-- TURN_VALUE [15:0] RO. -/
def RMPc_TURN_TURN_VALUE (c : Nat) : Fld := ⟨RMPc_TURN c, 15, 0⟩
/-- Address of SHAPE_CTRL (09_setpoint_ramps.md, Table RMP-13). -/
def SHAPE_CTRL : Nat := 0x20070400
/-- COMMIT [31:31] WO. -/
def SHAPE_CTRL_COMMIT : Fld := ⟨SHAPE_CTRL, 31, 31⟩
/-- PEND [30:30] RO. -/
def SHAPE_CTRL_PEND : Fld := ⟨SHAPE_CTRL, 30, 30⟩
/-- COPYING [29:29] RO. -/
def SHAPE_CTRL_COPYING : Fld := ⟨SHAPE_CTRL, 29, 29⟩
/-- FUND_OK [28:28] RO. -/
def SHAPE_CTRL_FUND_OK : Fld := ⟨SHAPE_CTRL, 28, 28⟩
/-- SHAPE_SRC [1:0] RWS. -/
def SHAPE_CTRL_SHAPE_SRC : Fld := ⟨SHAPE_CTRL, 1, 0⟩
/-- Address of SHAPE_FUND (09_setpoint_ramps.md, Table RMP-14). -/
def SHAPE_FUND : Nat := 0x20070404
/-- B1 [31:16] RO. -/
def SHAPE_FUND_B1 : Fld := ⟨SHAPE_FUND, 31, 16⟩
/-- A1 [15:0] RO. -/
def SHAPE_FUND_A1 : Fld := ⟨SHAPE_FUND, 15, 0⟩
/-- Address of SHAPE_DC (09_setpoint_ramps.md, Table RMP-15). -/
def SHAPE_DC : Nat := 0x20070408
/-- A0 [15:0] RO. -/
def SHAPE_DC_A0 : Fld := ⟨SHAPE_DC, 15, 0⟩
/-- Address of SHAPE_Sj (09_setpoint_ramps.md, Table RMP-16; j below 768). -/
def SHAPE_Sj (j : Nat) : Nat := 0x20071000 + 0x4 * j
/-- Y_ODD [31:16] RWS. -/
def SHAPE_Sj_Y_ODD (j : Nat) : Fld := ⟨SHAPE_Sj j, 31, 16⟩
/-- Y_EVEN [15:0] RWS. -/
def SHAPE_Sj_Y_EVEN (j : Nat) : Fld := ⟨SHAPE_Sj j, 15, 0⟩
/-- Address of SHAPE_Aj (09_setpoint_ramps.md, Table RMP-16; j below 768). -/
def SHAPE_Aj (j : Nat) : Nat := 0x20072000 + 0x4 * j
/-- Y_ODD [31:16] RO. -/
def SHAPE_Aj_Y_ODD (j : Nat) : Fld := ⟨SHAPE_Aj j, 31, 16⟩
/-- Y_EVEN [15:0] RO. -/
def SHAPE_Aj_Y_EVEN (j : Nat) : Fld := ⟨SHAPE_Aj j, 15, 0⟩
/-! ### Sequencer -/

/-- Address of VSQ_CTRL (10_valve_sequencer.md, Table VSQ-4). -/
def VSQ_CTRL : Nat := 0x20080000
/-- SHADOW_EN [31:31] RWS. -/
def VSQ_CTRL_SHADOW_EN : Fld := ⟨VSQ_CTRL, 31, 31⟩
/-- Address of VSQ_THRSTAT (10_valve_sequencer.md, Table VSQ-5). -/
def VSQ_THRSTAT : Nat := 0x20080004
/-- THR_MISMATCH [31:31] W1C. -/
def VSQ_THRSTAT_THR_MISMATCH : Fld := ⟨VSQ_THRSTAT, 31, 31⟩
/-- MM_ARM [30:28] RO. -/
def VSQ_THRSTAT_MM_ARM : Fld := ⟨VSQ_THRSTAT, 30, 28⟩
/-- MM_CNT [15:0] RO. -/
def VSQ_THRSTAT_MM_CNT : Fld := ⟨VSQ_THRSTAT, 15, 0⟩
/-- Address of VSQ_ARMa_CFG (10_valve_sequencer.md, Table VSQ-6; a below 6). -/
def VSQ_ARMa_CFG (a : Nat) : Nat := 0x20080100 + 0x20 * a
/-- SEL_MODE [31:30] RWS. -/
def VSQ_ARMa_CFG_SEL_MODE (a : Nat) : Fld := ⟨VSQ_ARMa_CFG a, 31, 30⟩
/-- FRAC_EN [29:29] RWS. -/
def VSQ_ARMa_CFG_FRAC_EN (a : Nat) : Fld := ⟨VSQ_ARMa_CFG a, 29, 29⟩
/-- AUTO_ROT [28:28] RWS. -/
def VSQ_ARMa_CFG_AUTO_ROT (a : Nat) : Fld := ⟨VSQ_ARMa_CFG a, 28, 28⟩
/-- SWAP_MAX [27:24] RWS. -/
def VSQ_ARMa_CFG_SWAP_MAX (a : Nat) : Fld := ⟨VSQ_ARMa_CFG a, 27, 24⟩
/-- DWELL [23:16] RWS. -/
def VSQ_ARMa_CFG_DWELL (a : Nat) : Fld := ⟨VSQ_ARMa_CFG a, 23, 16⟩
/-- BAND_TOL [15:8] RWS. -/
def VSQ_ARMa_CFG_BAND_TOL (a : Nat) : Fld := ⟨VSQ_ARMa_CFG a, 15, 8⟩
/-- N_RED [6:0] RWS. -/
def VSQ_ARMa_CFG_N_RED (a : Nat) : Fld := ⟨VSQ_ARMa_CFG a, 6, 0⟩
/-- Address of VSQ_ARMa_CFG2 (10_valve_sequencer.md, Table VSQ-7; a below 6). -/
def VSQ_ARMa_CFG2 (a : Nat) : Nat := 0x20080104 + 0x20 * a
/-- AGE_MAX [31:24] RWS. -/
def VSQ_ARMa_CFG2_AGE_MAX (a : Nat) : Fld := ⟨VSQ_ARMa_CFG2 a, 31, 24⟩
/-- FRAC_HOLD [23:16] RWS. -/
def VSQ_ARMa_CFG2_FRAC_HOLD (a : Nat) : Fld := ⟨VSQ_ARMa_CFG2 a, 23, 16⟩
/-- I_DB [15:0] RWS. -/
def VSQ_ARMa_CFG2_I_DB (a : Nat) : Fld := ⟨VSQ_ARMa_CFG2 a, 15, 0⟩
/-- Address of VSQ_ARMa_STAT (10_valve_sequencer.md, Table VSQ-8; a below 6). -/
def VSQ_ARMa_STAT (a : Nat) : Nat := 0x20080108 + 0x20 * a
/-- HEALTHY [31:22] RO. -/
def VSQ_ARMa_STAT_HEALTHY (a : Nat) : Fld := ⟨VSQ_ARMa_STAT a, 31, 22⟩
/-- HEALTHY_FB [21:12] RO. -/
def VSQ_ARMa_STAT_HEALTHY_FB (a : Nat) : Fld := ⟨VSQ_ARMa_STAT a, 21, 12⟩
/-- N [10:0] RO. -/
def VSQ_ARMa_STAT_N (a : Nat) : Fld := ⟨VSQ_ARMa_STAT a, 10, 0⟩
/-- Address of VSQ_ARMa_STAT2 (10_valve_sequencer.md, Table VSQ-9; a below 6). -/
def VSQ_ARMa_STAT2 (a : Nat) : Nat := 0x2008010c + 0x20 * a
/-- D [31:23] RO. -/
def VSQ_ARMa_STAT2_D (a : Nat) : Fld := ⟨VSQ_ARMa_STAT2 a, 31, 23⟩
/-- EXCLUDED [22:13] RO. -/
def VSQ_ARMa_STAT2_EXCLUDED (a : Nat) : Fld := ⟨VSQ_ARMa_STAT2 a, 22, 13⟩
/-- AGE [7:0] RO. -/
def VSQ_ARMa_STAT2_AGE (a : Nat) : Fld := ⟨VSQ_ARMa_STAT2 a, 7, 0⟩
/-- Address of VSQ_ARMa_FLAGS (10_valve_sequencer.md, Table VSQ-10; a below 6). -/
def VSQ_ARMa_FLAGS (a : Nat) : Nat := 0x20080110 + 0x20 * a
/-- STALE [31:31] RO. -/
def VSQ_ARMa_FLAGS_STALE (a : Nat) : Fld := ⟨VSQ_ARMa_FLAGS a, 31, 31⟩
/-- DIR [30:30] RO. -/
def VSQ_ARMa_FLAGS_DIR (a : Nat) : Fld := ⟨VSQ_ARMa_FLAGS a, 30, 30⟩
/-- SETTLED [29:29] RO. -/
def VSQ_ARMa_FLAGS_SETTLED (a : Nat) : Fld := ⟨VSQ_ARMa_FLAGS a, 29, 29⟩
/-- ROT_ACTIVE [28:28] RO. -/
def VSQ_ARMa_FLAGS_ROT_ACTIVE (a : Nat) : Fld := ⟨VSQ_ARMa_FLAGS a, 28, 28⟩
/-- RED_EXCEEDED [4:4] W1C. -/
def VSQ_ARMa_FLAGS_RED_EXCEEDED (a : Nat) : Fld := ⟨VSQ_ARMa_FLAGS a, 4, 4⟩
/-- CNT_SAT [3:3] W1C. -/
def VSQ_ARMa_FLAGS_CNT_SAT (a : Nat) : Fld := ⟨VSQ_ARMa_FLAGS a, 3, 3⟩
/-- DWELL_SHORT [2:2] W1C. -/
def VSQ_ARMa_FLAGS_DWELL_SHORT (a : Nat) : Fld := ⟨VSQ_ARMa_FLAGS a, 2, 2⟩
/-- STALE_SEEN [1:1] W1C. -/
def VSQ_ARMa_FLAGS_STALE_SEEN (a : Nat) : Fld := ⟨VSQ_ARMa_FLAGS a, 1, 1⟩
/-- EXCL_NEW [0:0] W1C. -/
def VSQ_ARMa_FLAGS_EXCL_NEW (a : Nat) : Fld := ⟨VSQ_ARMa_FLAGS a, 0, 0⟩
/-- Address of VSQ_ARMa_CNT (10_valve_sequencer.md, Table VSQ-11; a below 6). -/
def VSQ_ARMa_CNT (a : Nat) : Nat := 0x20080114 + 0x20 * a
/-- DS_CNT [31:16] RO. -/
def VSQ_ARMa_CNT_DS_CNT (a : Nat) : Fld := ⟨VSQ_ARMa_CNT a, 31, 16⟩
/-- STALE_CNT [15:0] RO. -/
def VSQ_ARMa_CNT_STALE_CNT (a : Nat) : Fld := ⟨VSQ_ARMa_CNT a, 15, 0⟩
/-- Address of VSQ_SLOTa_j (10_valve_sequencer.md, Table VSQ-12; a below 6; j below 768). -/
def VSQ_SLOTa_j (a : Nat) (j : Nat) : Nat := 0x20081000 + 0x1000 * a + 0x4 * j
/-- TYPE [31:30] RWS. -/
def VSQ_SLOTa_j_TYPE (a : Nat) (j : Nat) : Fld := ⟨VSQ_SLOTa_j a j, 31, 30⟩
/-- EXCL [29:29] RO. -/
def VSQ_SLOTa_j_EXCL (a : Nat) (j : Nat) : Fld := ⟨VSQ_SLOTa_j a j, 29, 29⟩
/-- EXCL_CAUSE [28:26] RO. -/
def VSQ_SLOTa_j_EXCL_CAUSE (a : Nat) (j : Nat) : Fld := ⟨VSQ_SLOTa_j a j, 28, 26⟩
/-- STATE [25:24] RO. -/
def VSQ_SLOTa_j_STATE (a : Nat) (j : Nat) : Fld := ⟨VSQ_SLOTa_j a j, 25, 24⟩
/-- FRAC [23:23] RO. -/
def VSQ_SLOTa_j_FRAC (a : Nat) (j : Nat) : Fld := ⟨VSQ_SLOTa_j a j, 23, 23⟩
/-- DWELL_CNT [15:8] RO. -/
def VSQ_SLOTa_j_DWELL_CNT (a : Nat) (j : Nat) : Fld := ⟨VSQ_SLOTa_j a j, 15, 8⟩
/-- FCODE [7:4] RO. -/
def VSQ_SLOTa_j_FCODE (a : Nat) (j : Nat) : Fld := ⟨VSQ_SLOTa_j a j, 7, 4⟩
/-! ### Lane -/

/-- Address of LNn_CFG (11_sheaf_lanes.md, Table SHL-9; n below 48). -/
def LNn_CFG (n : Nat) : Nat := 0x22000000 + 0x1000 * n
/-- EN [31:31] RWS. -/
def LNn_CFG_EN (n : Nat) : Fld := ⟨LNn_CFG n, 31, 31⟩
/-- TXDIS_IDLE [30:30] RWS. -/
def LNn_CFG_TXDIS_IDLE (n : Nat) : Fld := ⟨LNn_CFG n, 30, 30⟩
/-- POL_TX [29:29] RWS. -/
def LNn_CFG_POL_TX (n : Nat) : Fld := ⟨LNn_CFG n, 29, 29⟩
/-- POL_RX [28:28] RWS. -/
def LNn_CFG_POL_RX (n : Nat) : Fld := ⟨LNn_CFG n, 28, 28⟩
/-- TXEN_LEAD [23:16] RWS. -/
def LNn_CFG_TXEN_LEAD (n : Nat) : Fld := ⟨LNn_CFG n, 23, 16⟩
/-- RXEQ [11:10] RWS. -/
def LNn_CFG_RXEQ (n : Nat) : Fld := ⟨LNn_CFG n, 11, 10⟩
/-- DEEMPH [7:6] RWS. -/
def LNn_CFG_DEEMPH (n : Nat) : Fld := ⟨LNn_CFG n, 7, 6⟩
/-- SWING [3:2] RWS. -/
def LNn_CFG_SWING (n : Nat) : Fld := ⟨LNn_CFG n, 3, 2⟩
/-- Address of LNn_ASYM (11_sheaf_lanes.md, Table SHL-10; n below 48). -/
def LNn_ASYM (n : Nat) : Nat := 0x22000004 + 0x1000 * n
/-- ASYM [15:0] RWS. -/
def LNn_ASYM_ASYM (n : Nat) : Fld := ⟨LNn_ASYM n, 15, 0⟩
/-- Address of LNn_STAT (11_sheaf_lanes.md, Table SHL-11; n below 48). -/
def LNn_STAT (n : Nat) : Nat := 0x22000008 + 0x1000 * n
/-- STATE [31:28] RO. -/
def LNn_STAT_STATE (n : Nat) : Fld := ⟨LNn_STAT n, 31, 28⟩
/-- RX_LOCK [27:27] RO. -/
def LNn_STAT_RX_LOCK (n : Nat) : Fld := ⟨LNn_STAT n, 27, 27⟩
/-- HUB_TV [26:26] RO. -/
def LNn_STAT_HUB_TV (n : Nat) : Fld := ⟨LNn_STAT n, 26, 26⟩
/-- HUB_ALIGNED [25:25] RO. -/
def LNn_STAT_HUB_ALIGNED (n : Nat) : Fld := ⟨LNn_STAT n, 25, 25⟩
/-- LOS [24:24] RO. -/
def LNn_STAT_LOS (n : Nat) : Fld := ⟨LNn_STAT n, 24, 24⟩
/-- WIRING [8:8] W1C. -/
def LNn_STAT_WIRING (n : Nat) : Fld := ⟨LNn_STAT n, 8, 8⟩
/-- DLY_RANGE [7:7] W1C. -/
def LNn_STAT_DLY_RANGE (n : Nat) : Fld := ⟨LNn_STAT n, 7, 7⟩
/-- DLY_JUMP [6:6] W1C. -/
def LNn_STAT_DLY_JUMP (n : Nat) : Fld := ⟨LNn_STAT n, 6, 6⟩
/-- TICK_JUMP [5:5] W1C. -/
def LNn_STAT_TICK_JUMP (n : Nat) : Fld := ⟨LNn_STAT n, 5, 5⟩
/-- STUFF_ERR [4:4] W1C. -/
def LNn_STAT_STUFF_ERR (n : Nat) : Fld := ⟨LNn_STAT n, 4, 4⟩
/-- MK_CRC_ERR [3:3] W1C. -/
def LNn_STAT_MK_CRC_ERR (n : Nat) : Fld := ⟨LNn_STAT n, 3, 3⟩
/-- LOL_SEEN [2:2] W1C. -/
def LNn_STAT_LOL_SEEN (n : Nat) : Fld := ⟨LNn_STAT n, 2, 2⟩
/-- BRINGUP_FAIL [1:1] W1C. -/
def LNn_STAT_BRINGUP_FAIL (n : Nat) : Fld := ⟨LNn_STAT n, 1, 1⟩
/-- SKEW_FAIL [0:0] W1C. -/
def LNn_STAT_SKEW_FAIL (n : Nat) : Fld := ⟨LNn_STAT n, 0, 0⟩
/-- Address of LNn_DLY (11_sheaf_lanes.md, Table SHL-12; n below 48). -/
def LNn_DLY (n : Nat) : Nat := 0x2200000c + 0x1000 * n
/-- VALID [31:31] RO. -/
def LNn_DLY_VALID (n : Nat) : Fld := ⟨LNn_DLY n, 31, 31⟩
/-- D [19:0] RO. -/
def LNn_DLY_D (n : Nat) : Fld := ⟨LNn_DLY n, 19, 0⟩
/-- Address of LNn_COMP (11_sheaf_lanes.md, Table SHL-13; n below 48). -/
def LNn_COMP (n : Nat) : Nat := 0x22000010 + 0x1000 * n
/-- SLEWING [31:31] RO. -/
def LNn_COMP_SLEWING (n : Nat) : Fld := ⟨LNn_COMP n, 31, 31⟩
/-- COMP [19:0] RO. -/
def LNn_COMP_COMP (n : Nat) : Fld := ⟨LNn_COMP n, 19, 0⟩
/-- Address of LNn_RTT (11_sheaf_lanes.md, Table SHL-14; n below 48). -/
def LNn_RTT (n : Nat) : Nat := 0x22000014 + 0x1000 * n
/-- TAG [31:24] RO. -/
def LNn_RTT_TAG (n : Nat) : Fld := ⟨LNn_RTT n, 31, 24⟩
/-- RTT [23:0] RO. -/
def LNn_RTT_RTT (n : Nat) : Fld := ⟨LNn_RTT n, 23, 0⟩
/-- Address of LNn_ERRCNT (11_sheaf_lanes.md, Table SHL-15; n below 48). -/
def LNn_ERRCNT (n : Nat) : Nat := 0x22000018 + 0x1000 * n
/-- STUFF_CNT [31:16] RO. -/
def LNn_ERRCNT_STUFF_CNT (n : Nat) : Fld := ⟨LNn_ERRCNT n, 31, 16⟩
/-- MK_CRC_CNT [15:0] RO. -/
def LNn_ERRCNT_MK_CRC_CNT (n : Nat) : Fld := ⟨LNn_ERRCNT n, 15, 0⟩
/-! ### Sheaf -/

/-- Address of SHL_CTRL (11_sheaf_lanes.md, Table SHL-16). -/
def SHL_CTRL : Nat := 0x20090100
/-- BRINGUP_TMO [23:16] RWS. -/
def SHL_CTRL_BRINGUP_TMO : Fld := ⟨SHL_CTRL, 23, 16⟩
/-- AVG_LOG2 [3:0] RWS. -/
def SHL_CTRL_AVG_LOG2 : Fld := ⟨SHL_CTRL, 3, 0⟩
/-- Address of SHL_DSTAT (11_sheaf_lanes.md, Table SHL-17). -/
def SHL_DSTAT : Nat := 0x20090104
/-- SKEW_EXCEEDED [29:24] W1C. -/
def SHL_DSTAT_SKEW_EXCEEDED : Fld := ⟨SHL_DSTAT, 29, 24⟩
/-- DMAX [19:0] RO. -/
def SHL_DSTAT_DMAX : Fld := ⟨SHL_DSTAT, 19, 0⟩
/-- Address of SHF_CTRL (12_sheaf_frames.md, Table SHF-14). -/
def SHF_CTRL : Nat := 0x20090200
/-- CFG_SEQ [31:24] RO. -/
def SHF_CTRL_CFG_SEQ : Fld := ⟨SHF_CTRL, 31, 24⟩
/-- APPLY_OFS [15:0] RWS. -/
def SHF_CTRL_APPLY_OFS : Fld := ⟨SHF_CTRL, 15, 0⟩
/-- Address of SHF_TOL (12_sheaf_frames.md, Table SHF-15). -/
def SHF_TOL : Nat := 0x20090204
/-- LANE_TOL [15:8] RWS. -/
def SHF_TOL_LANE_TOL : Fld := ⟨SHF_TOL, 15, 8⟩
/-- HUB_L [7:0] RWS. -/
def SHF_TOL_HUB_L : Fld := ⟨SHF_TOL, 7, 0⟩
/-- Address of SHF_STAT (12_sheaf_frames.md, Table SHF-16). -/
def SHF_STAT : Nat := 0x20090208
/-- APPLY_TIGHT [31:31] RO. -/
def SHF_STAT_APPLY_TIGHT : Fld := ⟨SHF_STAT, 31, 31⟩
/-- HUB_PROC_MAX [26:16] RO. -/
def SHF_STAT_HUB_PROC_MAX : Fld := ⟨SHF_STAT, 26, 16⟩
/-- APPLY_MIN [15:0] RO. -/
def SHF_STAT_APPLY_MIN : Fld := ⟨SHF_STAT, 15, 0⟩
/-- Address of SHF_LOSTL (12_sheaf_frames.md, Table SHF-17). -/
def SHF_LOSTL : Nat := 0x20090210
/-- LOST [31:0] RO. -/
def SHF_LOSTL_LOST : Fld := ⟨SHF_LOSTL, 31, 0⟩
/-- Address of SHF_LOSTH (12_sheaf_frames.md, Table SHF-17). -/
def SHF_LOSTH : Nat := 0x20090214
/-- LOST [15:0] RO. -/
def SHF_LOSTH_LOST : Fld := ⟨SHF_LOSTH, 15, 0⟩
/-! ### Lane -/

/-- Address of LNn_HUBID0 (12_sheaf_frames.md, Table SHF-18; n below 48). -/
def LNn_HUBID0 (n : Nat) : Nat := 0x22000100 + 0x1000 * n
/-- VENDOR [31:16] RWS. -/
def LNn_HUBID0_VENDOR (n : Nat) : Fld := ⟨LNn_HUBID0 n, 31, 16⟩
/-- MODEL [15:0] RWS. -/
def LNn_HUBID0_MODEL (n : Nat) : Fld := ⟨LNn_HUBID0 n, 15, 0⟩
/-- Address of LNn_HUBID1 (12_sheaf_frames.md, Table SHF-18; n below 48). -/
def LNn_HUBID1 (n : Nat) : Nat := 0x22000104 + 0x1000 * n
/-- SERIAL_LO [31:0] RWS. -/
def LNn_HUBID1_SERIAL_LO (n : Nat) : Fld := ⟨LNn_HUBID1 n, 31, 0⟩
/-- Address of LNn_HUBID2 (12_sheaf_frames.md, Table SHF-18; n below 48). -/
def LNn_HUBID2 (n : Nat) : Nat := 0x22000108 + 0x1000 * n
/-- SERIAL_HI [31:0] RWS. -/
def LNn_HUBID2_SERIAL_HI (n : Nat) : Fld := ⟨LNn_HUBID2 n, 31, 0⟩
/-- Address of LNn_HUBINFO (12_sheaf_frames.md, Table SHF-19; n below 48). -/
def LNn_HUBINFO (n : Nat) : Nat := 0x2200010c + 0x1000 * n
/-- HUB_PROC [31:21] RO. -/
def LNn_HUBINFO_HUB_PROC (n : Nat) : Fld := ⟨LNn_HUBINFO n, 31, 21⟩
/-- UL_OFS [20:10] RO. -/
def LNn_HUBINFO_UL_OFS (n : Nat) : Fld := ⟨LNn_HUBINFO n, 20, 10⟩
/-- CREDIT_MAX [5:0] RO. -/
def LNn_HUBINFO_CREDIT_MAX (n : Nat) : Fld := ⟨LNn_HUBINFO n, 5, 0⟩
/-- Address of LNn_HUBFW (12_sheaf_frames.md, Table SHF-20; n below 48). -/
def LNn_HUBFW (n : Nat) : Nat := 0x22000110 + 0x1000 * n
/-- FW [31:0] RO. -/
def LNn_HUBFW_FW (n : Nat) : Fld := ⟨LNn_HUBFW n, 31, 0⟩
/-- Address of LNn_HUBSTAT (12_sheaf_frames.md, Table SHF-21; n below 48). -/
def LNn_HUBSTAT (n : Nat) : Nat := 0x22000114 + 0x1000 * n
/-- HUB_OK [31:31] RO. -/
def LNn_HUBSTAT_HUB_OK (n : Nat) : Fld := ⟨LNn_HUBSTAT n, 31, 31⟩
/-- ID_MISMATCH [30:30] W1C. -/
def LNn_HUBSTAT_ID_MISMATCH (n : Nat) : Fld := ⟨LNn_HUBSTAT n, 30, 30⟩
/-- CFG_REFUSED [29:29] W1C. -/
def LNn_HUBSTAT_CFG_REFUSED (n : Nat) : Fld := ⟨LNn_HUBSTAT n, 29, 29⟩
/-- SLOT_MAP [28:28] W1C. -/
def LNn_HUBSTAT_SLOT_MAP (n : Nat) : Fld := ⟨LNn_HUBSTAT n, 28, 28⟩
/-- HUB_FALLBACK [27:27] RO. -/
def LNn_HUBSTAT_HUB_FALLBACK (n : Nat) : Fld := ⟨LNn_HUBSTAT n, 27, 27⟩
/-- FALLBACK_SEEN [26:26] W1C. -/
def LNn_HUBSTAT_FALLBACK_SEEN (n : Nat) : Fld := ⟨LNn_HUBSTAT n, 26, 26⟩
/-- OBEYED [25:24] RO. -/
def LNn_HUBSTAT_OBEYED (n : Nat) : Fld := ⟨LNn_HUBSTAT n, 25, 24⟩
/-- HUB_CFG_SEQ [23:16] RO. -/
def LNn_HUBSTAT_HUB_CFG_SEQ (n : Nat) : Fld := ⟨LNn_HUBSTAT n, 23, 16⟩
/-- HUB_LOSS [15:8] RO. -/
def LNn_HUBSTAT_HUB_LOSS (n : Nat) : Fld := ⟨LNn_HUBSTAT n, 15, 8⟩
/-- UL_BAD [7:7] W1C. -/
def LNn_HUBSTAT_UL_BAD (n : Nat) : Fld := ⟨LNn_HUBSTAT n, 7, 7⟩
/-- LANE_LOST [6:6] W1C. -/
def LNn_HUBSTAT_LANE_LOST (n : Nat) : Fld := ⟨LNn_HUBSTAT n, 6, 6⟩
/-- BULK_RETX [5:5] W1C. -/
def LNn_HUBSTAT_BULK_RETX (n : Nat) : Fld := ⟨LNn_HUBSTAT n, 5, 5⟩
/-- TR_REJ_SEEN [4:4] W1C. -/
def LNn_HUBSTAT_TR_REJ_SEEN (n : Nat) : Fld := ⟨LNn_HUBSTAT n, 4, 4⟩
/-- Address of LNn_FBk (12_sheaf_frames.md, Table SHF-22; n below 48; k below 3). -/
def LNn_FBk (n : Nat) (k : Nat) : Nat := 0x22000120 + 0x1000 * n + 0x4 * k
/-- FB [31:0] RWS. -/
def LNn_FBk_FB (n : Nat) (k : Nat) : Fld := ⟨LNn_FBk n k, 31, 0⟩
/-- Address of LNn_ULCNT (12_sheaf_frames.md, Table SHF-23; n below 48). -/
def LNn_ULCNT (n : Nat) : Nat := 0x22000130 + 0x1000 * n
/-- UL_BAD_CNT [31:16] RO. -/
def LNn_ULCNT_UL_BAD_CNT (n : Nat) : Fld := ⟨LNn_ULCNT n, 31, 16⟩
/-- BULK_RETX_CNT [15:0] RO. -/
def LNn_ULCNT_BULK_RETX_CNT (n : Nat) : Fld := ⟨LNn_ULCNT n, 15, 0⟩
/-! ### LocalStage -/

/-- Address of LEGn_CFG (13_local_stage.md, Table LST-5; n below 12). -/
def LEGn_CFG (n : Nat) : Nat := 0x200a0000 + 0x20 * n
/-- DSRC [31:30] RWS. -/
def LEGn_CFG_DSRC (n : Nat) : Fld := ⟨LEGn_CFG n, 31, 30⟩
/-- MODE [29:29] RWS. -/
def LEGn_CFG_MODE (n : Nat) : Fld := ⟨LEGn_CFG n, 29, 29⟩
/-- ALIGN [28:28] RWS. -/
def LEGn_CFG_ALIGN (n : Nat) : Fld := ⟨LEGn_CFG n, 28, 28⟩
/-- COMMIT_MODE [27:27] RWS. -/
def LEGn_CFG_COMMIT_MODE (n : Nat) : Fld := ⟨LEGn_CFG n, 27, 27⟩
/-- LATE_EN [26:26] RWS. -/
def LEGn_CFG_LATE_EN (n : Nat) : Fld := ⟨LEGn_CFG n, 26, 26⟩
/-- TRIP_ACT [25:25] RWS. -/
def LEGn_CFG_TRIP_ACT (n : Nat) : Fld := ⟨LEGn_CFG n, 25, 25⟩
/-- TRIP_REL [24:24] RWS. -/
def LEGn_CFG_TRIP_REL (n : Nat) : Fld := ⟨LEGn_CFG n, 24, 24⟩
/-- BOOT_EN [23:23] RWS. -/
def LEGn_CFG_BOOT_EN (n : Nat) : Fld := ⟨LEGn_CFG n, 23, 23⟩
/-- SOFT_T [15:8] RWS. -/
def LEGn_CFG_SOFT_T (n : Nat) : Fld := ⟨LEGn_CFG n, 15, 8⟩
/-- Address of LEGn_PER (13_local_stage.md, Table LST-6; n below 12). -/
def LEGn_PER (n : Nat) : Nat := 0x200a0004 + 0x20 * n
/-- PSC_M1 [23:16] RWS. -/
def LEGn_PER_PSC_M1 (n : Nat) : Fld := ⟨LEGn_PER n, 23, 16⟩
/-- PER [15:0] RWS. -/
def LEGn_PER_PER (n : Nat) : Fld := ⟨LEGn_PER n, 15, 0⟩
/-- Address of LEGn_CMP (13_local_stage.md, Table LST-7; n below 12). -/
def LEGn_CMP (n : Nat) : Nat := 0x200a0008 + 0x20 * n
/-- DU [31:31] RW. -/
def LEGn_CMP_DU (n : Nat) : Fld := ⟨LEGn_CMP n, 31, 31⟩
/-- DL [30:30] RW. -/
def LEGn_CMP_DL (n : Nat) : Fld := ⟨LEGn_CMP n, 30, 30⟩
/-- CMP [15:0] RW. -/
def LEGn_CMP_CMP (n : Nat) : Fld := ⟨LEGn_CMP n, 15, 0⟩
/-- Address of LEGn_DT (13_local_stage.md, Table LST-8; n below 12). -/
def LEGn_DT (n : Nat) : Nat := 0x200a000c + 0x20 * n
/-- BOOT_N [31:24] RWS. -/
def LEGn_DT_BOOT_N (n : Nat) : Fld := ⟨LEGn_DT n, 31, 24⟩
/-- BOOT_MIN [23:13] RWS. -/
def LEGn_DT_BOOT_MIN (n : Nat) : Fld := ⟨LEGn_DT n, 23, 13⟩
/-- DT [10:0] RWS. -/
def LEGn_DT_DT (n : Nat) : Fld := ⟨LEGn_DT n, 10, 0⟩
/-- Address of LEGn_SRC (13_local_stage.md, Table LST-9; n below 12). -/
def LEGn_SRC (n : Nat) : Nat := 0x200a0010 + 0x20 * n
/-- ENG [20:16] RWS. -/
def LEGn_SRC_ENG (n : Nat) : Fld := ⟨LEGn_SRC n, 20, 16⟩
/-- WORD [11:0] RWS. -/
def LEGn_SRC_WORD (n : Nat) : Fld := ⟨LEGn_SRC n, 11, 0⟩
/-- Address of LEGn_STAT (13_local_stage.md, Table LST-10; n below 12). -/
def LEGn_STAT (n : Nat) : Nat := 0x200a0014 + 0x20 * n
/-- STATE [31:29] RO. -/
def LEGn_STAT_STATE (n : Nat) : Fld := ⟨LEGn_STAT n, 31, 29⟩
/-- PEND [28:28] RO. -/
def LEGn_STAT_PEND (n : Nat) : Fld := ⟨LEGn_STAT n, 28, 28⟩
/-- HALT_SAFE [27:27] W1C. -/
def LEGn_STAT_HALT_SAFE (n : Nat) : Fld := ⟨LEGn_STAT n, 27, 27⟩
/-- CLK_LOSS [26:26] RO. -/
def LEGn_STAT_CLK_LOSS (n : Nat) : Fld := ⟨LEGn_STAT n, 26, 26⟩
/-- SHOOT_THRU [25:25] W1C. -/
def LEGn_STAT_SHOOT_THRU (n : Nat) : Fld := ⟨LEGn_STAT n, 25, 25⟩
/-- DUTY_CLAMP [24:24] W1C. -/
def LEGn_STAT_DUTY_CLAMP (n : Nat) : Fld := ⟨LEGn_STAT n, 24, 24⟩
/-- SPLIT_UPDATE [23:23] W1C. -/
def LEGn_STAT_SPLIT_UPDATE (n : Nat) : Fld := ⟨LEGn_STAT n, 23, 23⟩
/-- LATE_WRITE [22:22] W1C. -/
def LEGn_STAT_LATE_WRITE (n : Nat) : Fld := ⟨LEGn_STAT n, 22, 22⟩
/-- COMMIT_PEND [21:21] RO. -/
def LEGn_STAT_COMMIT_PEND (n : Nat) : Fld := ⟨LEGn_STAT n, 21, 21⟩
/-- CMP_ACT [15:0] RO. -/
def LEGn_STAT_CMP_ACT (n : Nat) : Fld := ⟨LEGn_STAT n, 15, 0⟩
/-- Address of LST_CTRL (13_local_stage.md, Table LST-11). -/
def LST_CTRL : Nat := 0x200a0200
/-- HALT_HOLD [31:16] RWS. -/
def LST_CTRL_HALT_HOLD : Fld := ⟨LST_CTRL, 31, 16⟩
/-- REST [9:0] RWS. -/
def LST_CTRL_REST : Fld := ⟨LST_CTRL, 9, 0⟩
/-- Address of LST_COMMIT (13_local_stage.md, Table LST-12). -/
def LST_COMMIT : Nat := 0x200a0204
/-- COMMIT [11:0] WO. -/
def LST_COMMIT_COMMIT : Fld := ⟨LST_COMMIT, 11, 0⟩
/-- Address of LST_EVTFLTj (13_local_stage.md, Table LST-13; j below 2). -/
def LST_EVTFLTj (j : Nat) : Nat := 0x200a0208 + 0x4 * j
/-- FLT3 [31:24] RWS. -/
def LST_EVTFLTj_FLT3 (j : Nat) : Fld := ⟨LST_EVTFLTj j, 31, 24⟩
/-- FLT2 [23:16] RWS. -/
def LST_EVTFLTj_FLT2 (j : Nat) : Fld := ⟨LST_EVTFLTj j, 23, 16⟩
/-- FLT1 [15:8] RWS. -/
def LST_EVTFLTj_FLT1 (j : Nat) : Fld := ⟨LST_EVTFLTj j, 15, 8⟩
/-- FLT0 [7:0] RWS. -/
def LST_EVTFLTj_FLT0 (j : Nat) : Fld := ⟨LST_EVTFLTj j, 7, 0⟩
/-- Address of LST_GRPg_CFG (13_local_stage.md, Table LST-14; g below 4). -/
def LST_GRPg_CFG (g : Nat) : Nat := 0x200a0240 + 0x4 * g
/-- MSRC [31:29] RWS. -/
def LST_GRPg_CFG_MSRC (g : Nat) : Fld := ⟨LST_GRPg_CFG g, 31, 29⟩
/-- SEL [28:24] RWS. -/
def LST_GRPg_CFG_SEL (g : Nat) : Fld := ⟨LST_GRPg_CFG g, 28, 24⟩
/-- IDX [23:21] RWS. -/
def LST_GRPg_CFG_IDX (g : Nat) : Fld := ⟨LST_GRPg_CFG g, 23, 21⟩
/-- ACT_IDX [18:16] RO. -/
def LST_GRPg_CFG_ACT_IDX (g : Nat) : Fld := ⟨LST_GRPg_CFG g, 18, 16⟩
/-- ARG [15:0] RWS. -/
def LST_GRPg_CFG_ARG (g : Nat) : Fld := ⟨LST_GRPg_CFG g, 15, 0⟩
/-- Address of LST_GRPg_PATk (13_local_stage.md, Table LST-15; g below 4; k below 8). -/
def LST_GRPg_PATk (g : Nat) (k : Nat) : Nat := 0x200a0280 + 0x20 * g + 0x4 * k
/-- PAT [11:0] RWS. -/
def LST_GRPg_PATk_PAT (g : Nat) (k : Nat) : Fld := ⟨LST_GRPg_PATk g k, 11, 0⟩
/-! ### Protection -/

/-- Address of SWP_SWn_CFG (14_switch_protection.md, Table SWP-4; n below 24). -/
def SWP_SWn_CFG (n : Nat) : Nat := 0x200b0000 + 0x10 * n
/-- DSAT_EN [31:31] RWS. -/
def SWP_SWn_CFG_DSAT_EN (n : Nat) : Fld := ⟨SWP_SWn_CFG n, 31, 31⟩
/-- UV_EN [30:30] RWS. -/
def SWP_SWn_CFG_UV_EN (n : Nat) : Fld := ⟨SWP_SWn_CFG n, 30, 30⟩
/-- BLANK [24:16] RWS. -/
def SWP_SWn_CFG_BLANK (n : Nat) : Fld := ⟨SWP_SWn_CFG n, 24, 16⟩
/-- DSAT_THR [15:8] RWS. -/
def SWP_SWn_CFG_DSAT_THR (n : Nat) : Fld := ⟨SWP_SWn_CFG n, 15, 8⟩
/-- Address of SWP_SWn_UV (14_switch_protection.md, Table SWP-5; n below 24). -/
def SWP_SWn_UV (n : Nat) : Nat := 0x200b0004 + 0x10 * n
/-- THR_N [31:24] RWS. -/
def SWP_SWn_UV_THR_N (n : Nat) : Fld := ⟨SWP_SWn_UV n, 31, 24⟩
/-- HYS_N [23:20] RWS. -/
def SWP_SWn_UV_HYS_N (n : Nat) : Fld := ⟨SWP_SWn_UV n, 23, 20⟩
/-- THR_P [15:8] RWS. -/
def SWP_SWn_UV_THR_P (n : Nat) : Fld := ⟨SWP_SWn_UV n, 15, 8⟩
/-- HYS_P [7:4] RWS. -/
def SWP_SWn_UV_HYS_P (n : Nat) : Fld := ⟨SWP_SWn_UV n, 7, 4⟩
/-- Address of SWP_SWn_STAT (14_switch_protection.md, Table SWP-6; n below 24). -/
def SWP_SWn_STAT (n : Nat) : Nat := 0x200b0008 + 0x10 * n
/-- LATCHED [31:31] RO. -/
def SWP_SWn_STAT_LATCHED (n : Nat) : Fld := ⟨SWP_SWn_STAT n, 31, 31⟩
/-- C_DESAT [30:30] RO. -/
def SWP_SWn_STAT_C_DESAT (n : Nat) : Fld := ⟨SWP_SWn_STAT n, 30, 30⟩
/-- C_UVP [29:29] RO. -/
def SWP_SWn_STAT_C_UVP (n : Nat) : Fld := ⟨SWP_SWn_STAT n, 29, 29⟩
/-- C_UVN [28:28] RO. -/
def SWP_SWn_STAT_C_UVN (n : Nat) : Fld := ⟨SWP_SWn_STAT n, 28, 28⟩
/-- C_TEST [27:27] RO. -/
def SWP_SWn_STAT_C_TEST (n : Nat) : Fld := ⟨SWP_SWn_STAT n, 27, 27⟩
/-- UVP_NOW [26:26] RO. -/
def SWP_SWn_STAT_UVP_NOW (n : Nat) : Fld := ⟨SWP_SWn_STAT n, 26, 26⟩
/-- UVN_NOW [25:25] RO. -/
def SWP_SWn_STAT_UVN_NOW (n : Nat) : Fld := ⟨SWP_SWn_STAT n, 25, 25⟩
/-- DSAT_NOW [24:24] RO. -/
def SWP_SWn_STAT_DSAT_NOW (n : Nat) : Fld := ⟨SWP_SWn_STAT n, 24, 24⟩
/-- FCODE [23:20] RO. -/
def SWP_SWn_STAT_FCODE (n : Nat) : Fld := ⟨SWP_SWn_STAT n, 23, 20⟩
/-- FLT_CNT [15:0] RO. -/
def SWP_SWn_STAT_FLT_CNT (n : Nat) : Fld := ⟨SWP_SWn_STAT n, 15, 0⟩
/-- Address of SWP_SWn_TICK (14_switch_protection.md, Table SWP-7; n below 24). -/
def SWP_SWn_TICK (n : Nat) : Nat := 0x200b000c + 0x10 * n
/-- FLT_TICK [31:0] RO. -/
def SWP_SWn_TICK_FLT_TICK (n : Nat) : Fld := ⟨SWP_SWn_TICK n, 31, 0⟩
/-- Address of SWP_CTRL (14_switch_protection.md, Table SWP-8). -/
def SWP_CTRL : Nat := 0x200b0400
/-- UV_FLT [6:0] RWS. -/
def SWP_CTRL_UV_FLT : Fld := ⟨SWP_CTRL, 6, 0⟩
/-- Address of SWP_SUMMARY (14_switch_protection.md, Table SWP-9). -/
def SWP_SUMMARY : Nat := 0x200b0404
/-- LATCHED [23:0] RO. -/
def SWP_SUMMARY_LATCHED : Fld := ⟨SWP_SUMMARY, 23, 0⟩
/-! ### Twin -/

/-- Address of TW_CFG (15_twin_and_reeve.md, Table TWN-9). -/
def TW_CFG : Nat := 0x200e0000
/-- TWIN_EN [31:31] RWS. -/
def TW_CFG_TWIN_EN : Fld := ⟨TW_CFG, 31, 31⟩
/-- GAP_MODE [30:30] RWS. -/
def TW_CFG_GAP_MODE : Fld := ⟨TW_CFG, 30, 30⟩
/-- GAP_N [27:24] RWS. -/
def TW_CFG_GAP_N : Fld := ⟨TW_CFG, 27, 24⟩
/-- MISS_MAX [19:16] RWS. -/
def TW_CFG_MISS_MAX : Fld := ⟨TW_CFG, 19, 16⟩
/-- Address of TW_STAT (15_twin_and_reeve.md, Table TWN-10). -/
def TW_STAT : Nat := 0x200e0004
/-- ROLE [31:31] RO. -/
def TW_STAT_ROLE : Fld := ⟨TW_STAT, 31, 31⟩
/-- CODE [30:29] RO. -/
def TW_STAT_CODE : Fld := ⟨TW_STAT, 30, 29⟩
/-- HEALTHY [28:28] RO. -/
def TW_STAT_HEALTHY : Fld := ⟨TW_STAT, 28, 28⟩
/-- TRACKED [27:27] RO. -/
def TW_STAT_TRACKED : Fld := ⟨TW_STAT, 27, 27⟩
/-- GRANARY_OK [26:26] RO. -/
def TW_STAT_GRANARY_OK : Fld := ⟨TW_STAT, 26, 26⟩
/-- MIRROR_EQ [25:25] RO. -/
def TW_STAT_MIRROR_EQ : Fld := ⟨TW_STAT, 25, 25⟩
/-- SW_REQ [24:24] RO. -/
def TW_STAT_SW_REQ : Fld := ⟨TW_STAT, 24, 24⟩
/-- GAP_LEFT [23:20] RO. -/
def TW_STAT_GAP_LEFT : Fld := ⟨TW_STAT, 23, 20⟩
/-- TWIN_ID_CLASH [8:8] RO. -/
def TW_STAT_TWIN_ID_CLASH : Fld := ⟨TW_STAT, 8, 8⟩
/-- REEVE_LOST [7:7] W1C. -/
def TW_STAT_REEVE_LOST : Fld := ⟨TW_STAT, 7, 7⟩
/-- CODE_ERR [6:6] W1C. -/
def TW_STAT_CODE_ERR : Fld := ⟨TW_STAT, 6, 6⟩
/-- CODE_SKEW [5:5] W1C. -/
def TW_STAT_CODE_SKEW : Fld := ⟨TW_STAT, 5, 5⟩
/-- BOTH_ACTIVE [4:4] W1C. -/
def TW_STAT_BOTH_ACTIVE : Fld := ⟨TW_STAT, 4, 4⟩
/-- MIRROR_MISS [3:3] W1C. -/
def TW_STAT_MIRROR_MISS : Fld := ⟨TW_STAT, 3, 3⟩
/-- GR_SLOW [2:2] W1C. -/
def TW_STAT_GR_SLOW : Fld := ⟨TW_STAT, 2, 2⟩
/-- YIELDED [1:1] W1C. -/
def TW_STAT_YIELDED : Fld := ⟨TW_STAT, 1, 1⟩
/-- Address of TW_ROLETICK (15_twin_and_reeve.md, Table TWN-11). -/
def TW_ROLETICK : Nat := 0x200e0008
/-- ROLE_TICK [31:0] RO. -/
def TW_ROLETICK_ROLE_TICK : Fld := ⟨TW_ROLETICK, 31, 0⟩
/-- Address of TW_MIRROR (15_twin_and_reeve.md, Table TWN-12). -/
def TW_MIRROR : Nat := 0x200e000c
/-- GR_DLY [31:20] RO. -/
def TW_MIRROR_GR_DLY : Fld := ⟨TW_MIRROR, 31, 20⟩
/-- MISS_CNT [15:8] RO. -/
def TW_MIRROR_MISS_CNT : Fld := ⟨TW_MIRROR, 15, 8⟩
/-- RESYNC_CNT [7:0] RO. -/
def TW_MIRROR_RESYNC_CNT : Fld := ⟨TW_MIRROR, 7, 0⟩
/-- Address of REEVE_CFG (15_twin_and_reeve.md, Table TWN-13). -/
def REEVE_CFG : Nat := 0x200e0100
/-- REEVE_EN [31:31] RWS. -/
def REEVE_CFG_REEVE_EN : Fld := ⟨REEVE_CFG, 31, 31⟩
/-- PREFER [30:30] RWS. -/
def REEVE_CFG_PREFER : Fld := ⟨REEVE_CFG, 30, 30⟩
/-- HLT_CONF [27:24] RWS. -/
def REEVE_CFG_HLT_CONF : Fld := ⟨REEVE_CFG, 27, 24⟩
/-- HOLDOFF [15:0] RWS. -/
def REEVE_CFG_HOLDOFF : Fld := ⟨REEVE_CFG, 15, 0⟩
/-- Address of REEVE_STAT (15_twin_and_reeve.md, Table TWN-14). -/
def REEVE_STAT : Nat := 0x200e0104
/-- GRANT [31:30] RO. -/
def REEVE_STAT_GRANT : Fld := ⟨REEVE_STAT, 31, 30⟩
/-- HB_A [29:29] RO. -/
def REEVE_STAT_HB_A : Fld := ⟨REEVE_STAT, 29, 29⟩
/-- HB_B [28:28] RO. -/
def REEVE_STAT_HB_B : Fld := ⟨REEVE_STAT, 28, 28⟩
/-- HLT_A [27:27] RO. -/
def REEVE_STAT_HLT_A : Fld := ⟨REEVE_STAT, 27, 27⟩
/-- HLT_B [26:26] RO. -/
def REEVE_STAT_HLT_B : Fld := ⟨REEVE_STAT, 26, 26⟩
/-- WORD_A [25:25] RO. -/
def REEVE_STAT_WORD_A : Fld := ⟨REEVE_STAT, 25, 25⟩
/-- WORD_B [24:24] RO. -/
def REEVE_STAT_WORD_B : Fld := ⟨REEVE_STAT, 24, 24⟩
/-- CONFLICT [23:23] W1C. -/
def REEVE_STAT_CONFLICT : Fld := ⟨REEVE_STAT, 23, 23⟩
/-- HOLDOFF_ACT [22:22] RO. -/
def REEVE_STAT_HOLDOFF_ACT : Fld := ⟨REEVE_STAT, 22, 22⟩
/-- LAST_REASON [21:18] RO. -/
def REEVE_STAT_LAST_REASON : Fld := ⟨REEVE_STAT, 21, 18⟩
/-- SW_CNT [15:0] RO. -/
def REEVE_STAT_SW_CNT : Fld := ⟨REEVE_STAT, 15, 0⟩
/-- Address of REEVE_LAST (15_twin_and_reeve.md, Table TWN-15). -/
def REEVE_LAST : Nat := 0x200e0108
/-- LAST_TICK [31:0] RO. -/
def REEVE_LAST_LAST_TICK : Fld := ⟨REEVE_LAST, 31, 0⟩
/-! ### Almanac -/

/-- Address of ALM_CTRL (16_almanac.md, Table ALM-4). -/
def ALM_CTRL : Nat := 0x20020000
/-- PTP_FW_EN [31:31] RWS. -/
def ALM_CTRL_PTP_FW_EN : Fld := ⟨ALM_CTRL, 31, 31⟩
/-- SMPSYNCH_LOCAL [30:30] RWS. -/
def ALM_CTRL_SMPSYNCH_LOCAL : Fld := ⟨ALM_CTRL, 30, 30⟩
/-- HOLD_TMO [23:16] RWS. -/
def ALM_CTRL_HOLD_TMO : Fld := ⟨ALM_CTRL, 23, 16⟩
/-- SV_AGE_MAX [15:0] RWS. -/
def ALM_CTRL_SV_AGE_MAX : Fld := ⟨ALM_CTRL, 15, 0⟩
/-- Address of ALM_STAT (16_almanac.md, Table ALM-5). -/
def ALM_STAT : Nat := 0x20020004
/-- SET [31:31] RO. -/
def ALM_STAT_SET : Fld := ⟨ALM_STAT, 31, 31⟩
/-- TIME_INVALID [30:30] RO. -/
def ALM_STAT_TIME_INVALID : Fld := ⟨ALM_STAT, 30, 30⟩
/-- HOLDOVER [29:29] RO. -/
def ALM_STAT_HOLDOVER : Fld := ⟨ALM_STAT, 29, 29⟩
/-- BK_VALID [28:28] RO. -/
def ALM_STAT_BK_VALID : Fld := ⟨ALM_STAT, 28, 28⟩
/-- STEP_PEND [27:27] RO. -/
def ALM_STAT_STEP_PEND : Fld := ⟨ALM_STAT, 27, 27⟩
/-- INC_CLAMP [7:7] W1C. -/
def ALM_STAT_INC_CLAMP : Fld := ⟨ALM_STAT, 7, 7⟩
/-- INC_REFUSED [6:6] W1C. -/
def ALM_STAT_INC_REFUSED : Fld := ⟨ALM_STAT, 6, 6⟩
/-- STEP_DONE [5:5] W1C. -/
def ALM_STAT_STEP_DONE : Fld := ⟨ALM_STAT, 5, 5⟩
/-- SV_LATE [4:4] W1C. -/
def ALM_STAT_SV_LATE : Fld := ⟨ALM_STAT, 4, 4⟩
/-- SV_BAD [3:3] W1C. -/
def ALM_STAT_SV_BAD : Fld := ⟨ALM_STAT, 3, 3⟩
/-- TXTS_OVF1 [1:1] W1C. -/
def ALM_STAT_TXTS_OVF1 : Fld := ⟨ALM_STAT, 1, 1⟩
/-- TXTS_OVF0 [0:0] W1C. -/
def ALM_STAT_TXTS_OVF0 : Fld := ⟨ALM_STAT, 0, 0⟩
/-- Address of ALM_NS (16_almanac.md, Table ALM-6). -/
def ALM_NS : Nat := 0x20020008
/-- NS [29:0] RO. -/
def ALM_NS_NS : Fld := ⟨ALM_NS, 29, 0⟩
/-- Address of ALM_SECL (16_almanac.md, Table ALM-6). -/
def ALM_SECL : Nat := 0x2002000c
/-- SECL [31:0] RO. -/
def ALM_SECL_SECL : Fld := ⟨ALM_SECL, 31, 0⟩
/-- Address of ALM_SECH (16_almanac.md, Table ALM-6). -/
def ALM_SECH : Nat := 0x20020010
/-- SECH [15:0] RO. -/
def ALM_SECH_SECH : Fld := ⟨ALM_SECH, 15, 0⟩
/-- Address of ALM_FRAC (16_almanac.md, Table ALM-6). -/
def ALM_FRAC : Nat := 0x20020014
/-- FRAC [31:0] RO. -/
def ALM_FRAC_FRAC : Fld := ⟨ALM_FRAC, 31, 0⟩
/-- Address of ALM_INCL (16_almanac.md, Table ALM-6). -/
def ALM_INCL : Nat := 0x20020018
/-- INCL [31:0] RW. -/
def ALM_INCL_INCL : Fld := ⟨ALM_INCL, 31, 0⟩
/-- Address of ALM_INCH (16_almanac.md, Table ALM-6). -/
def ALM_INCH : Nat := 0x2002001c
/-- INCH [3:0] RW. -/
def ALM_INCH_INCH : Fld := ⟨ALM_INCH, 3, 0⟩
/-- Address of ALM_INCAGE (16_almanac.md, Table ALM-7). -/
def ALM_INCAGE : Nat := 0x20020020
/-- AGE [15:0] RO. -/
def ALM_INCAGE_AGE : Fld := ⟨ALM_INCAGE, 15, 0⟩
/-- Address of ALM_UTC (16_almanac.md, Table ALM-8). -/
def ALM_UTC : Nat := 0x20020024
/-- UTC_VALID [16:16] RWS. -/
def ALM_UTC_UTC_VALID : Fld := ⟨ALM_UTC, 16, 16⟩
/-- UTC_OFS [15:0] RWS. -/
def ALM_UTC_UTC_OFS : Fld := ⟨ALM_UTC, 15, 0⟩
/-- Address of ALM_BKSEC (16_almanac.md, Table ALM-9). -/
def ALM_BKSEC : Nat := 0x20020028
/-- BKSEC [31:0] RO. -/
def ALM_BKSEC_BKSEC : Fld := ⟨ALM_BKSEC, 31, 0⟩
/-- Address of ALM_PORTp_LAT (16_almanac.md, Table ALM-10; p below 2). -/
def ALM_PORTp_LAT (p : Nat) : Nat := 0x20020040 + 0x4 * p
/-- EGRESS [31:16] RWS. -/
def ALM_PORTp_LAT_EGRESS (p : Nat) : Fld := ⟨ALM_PORTp_LAT p, 31, 16⟩
/-- INGRESS [15:0] RWS. -/
def ALM_PORTp_LAT_INGRESS (p : Nat) : Fld := ⟨ALM_PORTp_LAT p, 15, 0⟩
/-- Address of ALM_TXTSp_STAT (16_almanac.md, Table ALM-11; p below 2). -/
def ALM_TXTSp_STAT (p : Nat) : Nat := 0x20020100 + 0x20 * p
/-- COUNT [20:16] RO. -/
def ALM_TXTSp_STAT_COUNT (p : Nat) : Fld := ⟨ALM_TXTSp_STAT p, 20, 16⟩
/-- DROP_CNT [15:0] RO. -/
def ALM_TXTSp_STAT_DROP_CNT (p : Nat) : Fld := ⟨ALM_TXTSp_STAT p, 15, 0⟩
/-- Address of ALM_TXTSp_ID (16_almanac.md, Table ALM-11; p below 2). -/
def ALM_TXTSp_ID (p : Nat) : Nat := 0x20020104 + 0x20 * p
/-- VALID [31:31] RO. -/
def ALM_TXTSp_ID_VALID (p : Nat) : Fld := ⟨ALM_TXTSp_ID p, 31, 31⟩
/-- PORT [21:20] RO. -/
def ALM_TXTSp_ID_PORT (p : Nat) : Fld := ⟨ALM_TXTSp_ID p, 21, 20⟩
/-- MSGTYPE [19:16] RO. -/
def ALM_TXTSp_ID_MSGTYPE (p : Nat) : Fld := ⟨ALM_TXTSp_ID p, 19, 16⟩
/-- SEQID [15:0] RO. -/
def ALM_TXTSp_ID_SEQID (p : Nat) : Fld := ⟨ALM_TXTSp_ID p, 15, 0⟩
/-- Address of ALM_TXTSp_NS (16_almanac.md, Table ALM-11; p below 2). -/
def ALM_TXTSp_NS (p : Nat) : Nat := 0x20020108 + 0x20 * p
/-- NS [29:0] RO. -/
def ALM_TXTSp_NS_NS (p : Nat) : Fld := ⟨ALM_TXTSp_NS p, 29, 0⟩
/-- Address of ALM_TXTSp_SECL (16_almanac.md, Table ALM-11; p below 2). -/
def ALM_TXTSp_SECL (p : Nat) : Nat := 0x2002010c + 0x20 * p
/-- SECL [31:0] RO. -/
def ALM_TXTSp_SECL_SECL (p : Nat) : Fld := ⟨ALM_TXTSp_SECL p, 31, 0⟩
/-- Address of ALM_TXTSp_SECH (16_almanac.md, Table ALM-11; p below 2). -/
def ALM_TXTSp_SECH (p : Nat) : Nat := 0x20020110 + 0x20 * p
/-- SECH [15:0] RO. -/
def ALM_TXTSp_SECH_SECH (p : Nat) : Fld := ⟨ALM_TXTSp_SECH p, 15, 0⟩
/-! ### Orrery -/

/-- Address of ORY_REFCFG (17_orrery_and_crossings.md, Table ORY-8). -/
def ORY_REFCFG : Nat := 0x20010000
/-- REF_PATH [31:30] RO. -/
def ORY_REFCFG_REF_PATH : Fld := ⟨ORY_REFCFG, 31, 30⟩
/-- DUTY_TRIM [7:0] RWS. -/
def ORY_REFCFG_DUTY_TRIM : Fld := ⟨ORY_REFCFG, 7, 0⟩
/-- Address of ORY_MDLLm_CFG (17_orrery_and_crossings.md, Table ORY-9; m below 4). -/
def ORY_MDLLm_CFG (m : Nat) : Nat := 0x20010010 + 0x10 * m
/-- BAND_AUTO [31:31] RWS. -/
def ORY_MDLLm_CFG_BAND_AUTO (m : Nat) : Fld := ⟨ORY_MDLLm_CFG m, 31, 31⟩
/-- BAND [27:24] RWS. -/
def ORY_MDLLm_CFG_BAND (m : Nat) : Fld := ⟨ORY_MDLLm_CFG m, 27, 24⟩
/-- MULT [7:0] RO for m = 0–2; RWS for m = 3. -/
def ORY_MDLLm_CFG_MULT (m : Nat) : Fld := ⟨ORY_MDLLm_CFG m, 7, 0⟩
/-- Address of ORY_MDLLm_STAT (17_orrery_and_crossings.md, Table ORY-10; m below 4). -/
def ORY_MDLLm_STAT (m : Nat) : Nat := 0x20010014 + 0x10 * m
/-- STATE [31:30] RO. -/
def ORY_MDLLm_STAT_STATE (m : Nat) : Fld := ⟨ORY_MDLLm_STAT m, 31, 30⟩
/-- PEND [29:29] RO. -/
def ORY_MDLLm_STAT_PEND (m : Nat) : Fld := ⟨ORY_MDLLm_STAT m, 29, 29⟩
/-- LOCK_LOST [28:28] W1C. -/
def ORY_MDLLm_STAT_LOCK_LOST (m : Nat) : Fld := ⟨ORY_MDLLm_STAT m, 28, 28⟩
/-- BAND_FOUND [27:24] RO. -/
def ORY_MDLLm_STAT_BAND_FOUND (m : Nat) : Fld := ⟨ORY_MDLLm_STAT m, 27, 24⟩
/-- ACQ_CNT [15:0] RO. -/
def ORY_MDLLm_STAT_ACQ_CNT (m : Nat) : Fld := ⟨ORY_MDLLm_STAT m, 15, 0⟩
/-- Address of ORY_SSC_CFG (17_orrery_and_crossings.md, Table ORY-11). -/
def ORY_SSC_CFG : Nat := 0x20010050
/-- SSC_EN [31:31] RWS. -/
def ORY_SSC_CFG_SSC_EN : Fld := ⟨ORY_SSC_CFG, 31, 31⟩
/-- PEND [30:30] RO. -/
def ORY_SSC_CFG_PEND : Fld := ⟨ORY_SSC_CFG, 30, 30⟩
/-- PROF_SEL [29:29] RWS. -/
def ORY_SSC_CFG_PROF_SEL : Fld := ⟨ORY_SSC_CFG, 29, 29⟩
/-- DEPTH [25:24] RWS. -/
def ORY_SSC_CFG_DEPTH : Fld := ⟨ORY_SSC_CFG, 25, 24⟩
/-- Address of ORY_SSC_PROFj (17_orrery_and_crossings.md, Table ORY-12; j below 8). -/
def ORY_SSC_PROFj (j : Nat) : Nat := 0x20010060 + 0x4 * j
/-- P3 [31:24] RWS. -/
def ORY_SSC_PROFj_P3 (j : Nat) : Fld := ⟨ORY_SSC_PROFj j, 31, 24⟩
/-- P2 [23:16] RWS. -/
def ORY_SSC_PROFj_P2 (j : Nat) : Fld := ⟨ORY_SSC_PROFj j, 23, 16⟩
/-- P1 [15:8] RWS. -/
def ORY_SSC_PROFj_P1 (j : Nat) : Fld := ⟨ORY_SSC_PROFj j, 15, 8⟩
/-- P0 [7:0] RWS. -/
def ORY_SSC_PROFj_P0 (j : Nat) : Fld := ⟨ORY_SSC_PROFj j, 7, 0⟩
/-- Address of ORY_CLKOUTn (17_orrery_and_crossings.md, Table ORY-13; n below 4). -/
def ORY_CLKOUTn (n : Nat) : Nat := 0x20010080 + 0x4 * n
/-- EN [31:31] RWS. -/
def ORY_CLKOUTn_EN (n : Nat) : Fld := ⟨ORY_CLKOUTn n, 31, 31⟩
/-- SRC [30:27] RWS. -/
def ORY_CLKOUTn_SRC (n : Nat) : Fld := ⟨ORY_CLKOUTn n, 30, 27⟩
/-- FMT [26:25] RWS. -/
def ORY_CLKOUTn_FMT (n : Nat) : Fld := ⟨ORY_CLKOUTn n, 26, 25⟩
/-- LVL [24:23] RWS. -/
def ORY_CLKOUTn_LVL (n : Nat) : Fld := ⟨ORY_CLKOUTn n, 24, 23⟩
/-- DIV_M1 [9:0] RWS. -/
def ORY_CLKOUTn_DIV_M1 (n : Nat) : Fld := ⟨ORY_CLKOUTn n, 9, 0⟩
/-- Address of ORY_MON (17_orrery_and_crossings.md, Table ORY-14). -/
def ORY_MON : Nat := 0x200100a0
/-- TB_LOSS [31:31] RO. -/
def ORY_MON_TB_LOSS : Fld := ⟨ORY_MON, 31, 31⟩
/-- CORE_LOSS [30:30] RO. -/
def ORY_MON_CORE_LOSS : Fld := ⟨ORY_MON, 30, 30⟩
/-- WIN_FAULT [10:0] W1C. -/
def ORY_MON_WIN_FAULT : Fld := ⟨ORY_MON, 10, 0⟩
/-! ### Integrity -/

/-- Address of CDC_STAT (17_orrery_and_crossings.md, Table ORY-15). -/
def CDC_STAT : Nat := 0x20130000
/-- CDC_UNSTABLE [31:31] W1C. -/
def CDC_STAT_CDC_UNSTABLE : Fld := ⟨CDC_STAT, 31, 31⟩
/-- CDC_TIMEOUT [30:30] W1C. -/
def CDC_STAT_CDC_TIMEOUT : Fld := ⟨CDC_STAT, 30, 30⟩
/-- PULSE_OVF [29:29] W1C. -/
def CDC_STAT_PULSE_OVF : Fld := ⟨CDC_STAT, 29, 29⟩
/-- DOMAIN [19:16] RO. -/
def CDC_STAT_DOMAIN : Fld := ⟨CDC_STAT, 19, 16⟩
/-- XID [15:0] RO. -/
def CDC_STAT_XID : Fld := ⟨CDC_STAT, 15, 0⟩
/-- Address of CDC_CNT (17_orrery_and_crossings.md, Table ORY-16). -/
def CDC_CNT : Nat := 0x20130004
/-- UNSTABLE_CNT [31:16] RO. -/
def CDC_CNT_UNSTABLE_CNT : Fld := ⟨CDC_CNT, 31, 16⟩
/-- TIMEOUT_CNT [15:8] RO. -/
def CDC_CNT_TIMEOUT_CNT : Fld := ⟨CDC_CNT, 15, 8⟩
/-- OVF_CNT [7:0] RO. -/
def CDC_CNT_OVF_CNT : Fld := ⟨CDC_CNT, 7, 0⟩
/-! ### Chronograph -/

/-- Address of CHR_CTRL (18_chronograph.md, Table CHR-7). -/
def CHR_CTRL : Nat := 0x200c0000
/-- SYNC_ROLE [31:30] RWS. -/
def CHR_CTRL_SYNC_ROLE : Fld := ⟨CHR_CTRL, 31, 30⟩
/-- SYNC_FLT [22:16] RWS. -/
def CHR_CTRL_SYNC_FLT : Fld := ⟨CHR_CTRL, 22, 16⟩
/-- SYNC_LAT [7:0] RWS. -/
def CHR_CTRL_SYNC_LAT : Fld := ⟨CHR_CTRL, 7, 0⟩
/-- Address of CHR_STAT (18_chronograph.md, Table CHR-8). -/
def CHR_STAT : Nat := 0x200c0004
/-- SYNC_LINE [31:31] RO. -/
def CHR_STAT_SYNC_LINE : Fld := ⟨CHR_STAT, 31, 31⟩
/-- SYNC_READY [30:30] RO. -/
def CHR_STAT_SYNC_READY : Fld := ⟨CHR_STAT, 30, 30⟩
/-- DDR_OK [29:29] RO. -/
def CHR_STAT_DDR_OK : Fld := ⟨CHR_STAT, 29, 29⟩
/-- BUF_OVF [28:28] W1C. -/
def CHR_STAT_BUF_OVF : Fld := ⟨CHR_STAT, 28, 28⟩
/-- SELFTEST_FAIL [27:27] W1C. -/
def CHR_STAT_SELFTEST_FAIL : Fld := ⟨CHR_STAT, 27, 27⟩
/-- DDR_GIB [26:22] RO. -/
def CHR_STAT_DDR_GIB : Fld := ⟨CHR_STAT, 26, 22⟩
/-- BUF_FILL [12:0] RO. -/
def CHR_STAT_BUF_FILL : Fld := ⟨CHR_STAT, 12, 0⟩
/-- Address of CHR_TRUNC (18_chronograph.md, Table CHR-9). -/
def CHR_TRUNC : Nat := 0x200c0008
/-- TRUNC_CNT [31:0] RO. -/
def CHR_TRUNC_TRUNC_CNT : Fld := ⟨CHR_TRUNC, 31, 0⟩
/-- Address of CHR_TRGu_CFG (18_chronograph.md, Table CHR-10; u below 16). -/
def CHR_TRGu_CFG (u : Nat) : Nat := 0x200c0100 + 0x10 * u
/-- TYPE [31:28] RWS. -/
def CHR_TRGu_CFG_TYPE (u : Nat) : Fld := ⟨CHR_TRGu_CFG u, 31, 28⟩
/-- POL [27:26] RWS. -/
def CHR_TRGu_CFG_POL (u : Nat) : Fld := ⟨CHR_TRGu_CFG u, 27, 26⟩
/-- PATH [25:24] RWS. -/
def CHR_TRGu_CFG_PATH (u : Nat) : Fld := ⟨CHR_TRGu_CFG u, 25, 24⟩
/-- SEL [20:16] RWS. -/
def CHR_TRGu_CFG_SEL (u : Nat) : Fld := ⟨CHR_TRGu_CFG u, 20, 16⟩
/-- ARG [15:0] RWS. -/
def CHR_TRGu_CFG_ARG (u : Nat) : Fld := ⟨CHR_TRGu_CFG u, 15, 0⟩
/-- Address of CHR_TRGu_THR (18_chronograph.md, Table CHR-10; u below 16). -/
def CHR_TRGu_THR (u : Nat) : Nat := 0x200c0104 + 0x10 * u
/-- HI [31:16] RWS. -/
def CHR_TRGu_THR_HI (u : Nat) : Fld := ⟨CHR_TRGu_THR u, 31, 16⟩
/-- LO [15:0] RWS. -/
def CHR_TRGu_THR_LO (u : Nat) : Fld := ⟨CHR_TRGu_THR u, 15, 0⟩
/-- Address of CHR_TRGu_STAT (18_chronograph.md, Table CHR-10; u below 16). -/
def CHR_TRGu_STAT (u : Nat) : Nat := 0x200c0108 + 0x10 * u
/-- STATE [31:31] RO. -/
def CHR_TRGu_STAT_STATE (u : Nat) : Fld := ⟨CHR_TRGu_STAT u, 31, 31⟩
/-- FIRED [30:30] W1C. -/
def CHR_TRGu_STAT_FIRED (u : Nat) : Fld := ⟨CHR_TRGu_STAT u, 30, 30⟩
/-- FIRE_CNT [15:0] RO. -/
def CHR_TRGu_STAT_FIRE_CNT (u : Nat) : Fld := ⟨CHR_TRGu_STAT u, 15, 0⟩
/-- Address of CHR_RECk_CFG (18_chronograph.md, Table CHR-11; k below 4). -/
def CHR_RECk_CFG (k : Nat) : Nat := 0x200c0400 + 0x40 * k
/-- KIND [31:29] RWS. -/
def CHR_RECk_CFG_KIND (k : Nat) : Fld := ⟨CHR_RECk_CFG k, 31, 29⟩
/-- DEST [28:28] RWS. -/
def CHR_RECk_CFG_DEST (k : Nat) : Fld := ⟨CHR_RECk_CFG k, 28, 28⟩
/-- RING [27:27] RWS. -/
def CHR_RECk_CFG_RING (k : Nat) : Fld := ⟨CHR_RECk_CFG k, 27, 27⟩
/-- AUTO_REARM [26:26] RWS. -/
def CHR_RECk_CFG_AUTO_REARM (k : Nat) : Fld := ⟨CHR_RECk_CFG k, 26, 26⟩
/-- SYNC_EN [25:25] RWS. -/
def CHR_RECk_CFG_SYNC_EN (k : Nat) : Fld := ⟨CHR_RECk_CFG k, 25, 25⟩
/-- Address of CHR_RECk_TRG (18_chronograph.md, Table CHR-11; k below 4). -/
def CHR_RECk_TRG (k : Nat) : Nat := 0x200c0404 + 0x40 * k
/-- TRG_AND [31:16] RWS. -/
def CHR_RECk_TRG_TRG_AND (k : Nat) : Fld := ⟨CHR_RECk_TRG k, 31, 16⟩
/-- TRG_OR [15:0] RWS. -/
def CHR_RECk_TRG_TRG_OR (k : Nat) : Fld := ⟨CHR_RECk_TRG k, 15, 0⟩
/-- Address of CHR_RECk_SRC (18_chronograph.md, Table CHR-11; k below 4). -/
def CHR_RECk_SRC (k : Nat) : Nat := 0x200c0408 + 0x40 * k
/-- MASK [31:0] RWS. -/
def CHR_RECk_SRC_MASK (k : Nat) : Fld := ⟨CHR_RECk_SRC k, 31, 0⟩
/-- Address of CHR_RECk_LEN (18_chronograph.md, Table CHR-11; k below 4). -/
def CHR_RECk_LEN (k : Nat) : Nat := 0x200c040c + 0x40 * k
/-- PRE [31:16] RWS. -/
def CHR_RECk_LEN_PRE (k : Nat) : Fld := ⟨CHR_RECk_LEN k, 31, 16⟩
/-- POST_M1 [15:0] RWS. -/
def CHR_RECk_LEN_POST_M1 (k : Nat) : Fld := ⟨CHR_RECk_LEN k, 15, 0⟩
/-- Address of CHR_RECk_NSEG (18_chronograph.md, Table CHR-11; k below 4). -/
def CHR_RECk_NSEG (k : Nat) : Nat := 0x200c0410 + 0x40 * k
/-- NSEG [16:0] RWS. -/
def CHR_RECk_NSEG_NSEG (k : Nat) : Fld := ⟨CHR_RECk_NSEG k, 16, 0⟩
/-- Address of CHR_RECk_BASE (18_chronograph.md, Table CHR-11; k below 4). -/
def CHR_RECk_BASE (k : Nat) : Nat := 0x200c0414 + 0x40 * k
/-- BASE [31:0] RWS. -/
def CHR_RECk_BASE_BASE (k : Nat) : Fld := ⟨CHR_RECk_BASE k, 31, 0⟩
/-- Address of CHR_RECk_STAT (18_chronograph.md, Table CHR-11; k below 4). -/
def CHR_RECk_STAT (k : Nat) : Nat := 0x200c0418 + 0x40 * k
/-- STATE [31:29] RO. -/
def CHR_RECk_STAT_STATE (k : Nat) : Fld := ⟨CHR_RECk_STAT k, 31, 29⟩
/-- TRUNC_SEEN [28:28] W1C. -/
def CHR_RECk_STAT_TRUNC_SEEN (k : Nat) : Fld := ⟨CHR_RECk_STAT k, 28, 28⟩
/-- MISSED_TRIG [27:27] W1C. -/
def CHR_RECk_STAT_MISSED_TRIG (k : Nat) : Fld := ⟨CHR_RECk_STAT k, 27, 27⟩
/-- PEND [26:26] RO. -/
def CHR_RECk_STAT_PEND (k : Nat) : Fld := ⟨CHR_RECk_STAT k, 26, 26⟩
/-- SEG_DONE [16:0] RO. -/
def CHR_RECk_STAT_SEG_DONE (k : Nat) : Fld := ⟨CHR_RECk_STAT k, 16, 0⟩
/-- Address of CHR_RECk_SEGB (18_chronograph.md, Table CHR-11; k below 4). -/
def CHR_RECk_SEGB (k : Nat) : Nat := 0x200c041c + 0x40 * k
/-- SEGB [31:0] RO. -/
def CHR_RECk_SEGB_SEGB (k : Nat) : Fld := ⟨CHR_RECk_SEGB k, 31, 0⟩
/-- Address of CHR_RECk_MISS (18_chronograph.md, Table CHR-11; k below 4). -/
def CHR_RECk_MISS (k : Nat) : Nat := 0x200c0420 + 0x40 * k
/-- MISS_CNT [15:0] RO. -/
def CHR_RECk_MISS_MISS_CNT (k : Nat) : Fld := ⟨CHR_RECk_MISS k, 15, 0⟩
/-- Address of CHR_LEVj (18_chronograph.md, Table CHR-12; j below 32). -/
def CHR_LEVj (j : Nat) : Nat := 0x200c0600 + 0x4 * j
/-- ENG [28:24] RWS. -/
def CHR_LEVj_ENG (j : Nat) : Fld := ⟨CHR_LEVj j, 28, 24⟩
/-- WORD [12:0] RWS. -/
def CHR_LEVj_WORD (j : Nat) : Fld := ⟨CHR_LEVj j, 12, 0⟩
/-- Address of CHR_HISTh_CFG (18_chronograph.md, Table CHR-13; h below 16). -/
def CHR_HISTh_CFG (h : Nat) : Nat := 0x200c0700 + 0x8 * h
/-- RUN [31:31] RWS. -/
def CHR_HISTh_CFG_RUN (h : Nat) : Fld := ⟨CHR_HISTh_CFG h, 31, 31⟩
/-- CLR [30:30] WO. -/
def CHR_HISTh_CFG_CLR (h : Nat) : Fld := ⟨CHR_HISTh_CFG h, 30, 30⟩
/-- PATH [29:28] RWS. -/
def CHR_HISTh_CFG_PATH (h : Nat) : Fld := ⟨CHR_HISTh_CFG h, 29, 28⟩
/-- SEL [20:16] RWS. -/
def CHR_HISTh_CFG_SEL (h : Nat) : Fld := ⟨CHR_HISTh_CFG h, 20, 16⟩
/-- SHIFT [2:0] RWS. -/
def CHR_HISTh_CFG_SHIFT (h : Nat) : Fld := ⟨CHR_HISTh_CFG h, 2, 0⟩
/-- Address of CHR_HISTh_LO (18_chronograph.md, Table CHR-13; h below 16). -/
def CHR_HISTh_LO (h : Nat) : Nat := 0x200c0704 + 0x8 * h
/-- LO [15:0] RWS. -/
def CHR_HISTh_LO_LO (h : Nat) : Fld := ⟨CHR_HISTh_LO h, 15, 0⟩
/-- Address of CHR_MAP_CFG (18_chronograph.md, Table CHR-13). -/
def CHR_MAP_CFG : Nat := 0x200c0780
/-- RUN [31:31] RWS. -/
def CHR_MAP_CFG_RUN : Fld := ⟨CHR_MAP_CFG, 31, 31⟩
/-- CLR [30:30] WO. -/
def CHR_MAP_CFG_CLR : Fld := ⟨CHR_MAP_CFG, 30, 30⟩
/-- PATH [29:28] RWS. -/
def CHR_MAP_CFG_PATH : Fld := ⟨CHR_MAP_CFG, 29, 28⟩
/-- ANG_SRC [27:27] RWS. -/
def CHR_MAP_CFG_ANG_SRC : Fld := ⟨CHR_MAP_CFG, 27, 27⟩
/-- SEL [20:16] RWS. -/
def CHR_MAP_CFG_SEL : Fld := ⟨CHR_MAP_CFG, 20, 16⟩
/-- SHIFT [2:0] RWS. -/
def CHR_MAP_CFG_SHIFT : Fld := ⟨CHR_MAP_CFG, 2, 0⟩
/-- Address of CHR_MAP_LO (18_chronograph.md, Table CHR-13). -/
def CHR_MAP_LO : Nat := 0x200c0784
/-- LO [15:0] RWS. -/
def CHR_MAP_LO_LO : Fld := ⟨CHR_MAP_LO, 15, 0⟩
/-- Address of CHR_MAP_FREQ (18_chronograph.md, Table CHR-13). -/
def CHR_MAP_FREQ : Nat := 0x200c0788
/-- FREQ [23:0] RWS. -/
def CHR_MAP_FREQ_FREQ : Fld := ⟨CHR_MAP_FREQ, 23, 0⟩
/-- Address of CHR_XSP_CFG (18_chronograph.md, Table CHR-14). -/
def CHR_XSP_CFG : Nat := 0x200c0800
/-- LINK [31:31] RW. -/
def CHR_XSP_CFG_LINK : Fld := ⟨CHR_XSP_CFG, 31, 31⟩
/-- LE_DEST [30:30] RW. -/
def CHR_XSP_CFG_LE_DEST : Fld := ⟨CHR_XSP_CFG, 30, 30⟩
/-- DEST_ENG [29:29] RW. -/
def CHR_XSP_CFG_DEST_ENG : Fld := ⟨CHR_XSP_CFG, 29, 29⟩
/-- INJ_ENG [28:24] RW. -/
def CHR_XSP_CFG_INJ_ENG : Fld := ⟨CHR_XSP_CFG, 28, 24⟩
/-- INJ_PT [23:21] RW. -/
def CHR_XSP_CFG_INJ_PT : Fld := ⟨CHR_XSP_CFG, 23, 21⟩
/-- NBIN_M1 [19:14] RW. -/
def CHR_XSP_CFG_NBIN_M1 : Fld := ⟨CHR_XSP_CFG, 19, 14⟩
/-- Address of CHR_XSP_SIG (18_chronograph.md, Table CHR-14). -/
def CHR_XSP_SIG : Nat := 0x200c0804
/-- Y3 [31:24] RW. -/
def CHR_XSP_SIG_Y3 : Fld := ⟨CHR_XSP_SIG, 31, 24⟩
/-- Y2 [23:16] RW. -/
def CHR_XSP_SIG_Y2 : Fld := ⟨CHR_XSP_SIG, 23, 16⟩
/-- Y1 [15:8] RW. -/
def CHR_XSP_SIG_Y1 : Fld := ⟨CHR_XSP_SIG, 15, 8⟩
/-- U [7:0] RW. -/
def CHR_XSP_SIG_U : Fld := ⟨CHR_XSP_SIG, 7, 0⟩
/-- Address of CHR_XSP_BLK (18_chronograph.md, Table CHR-14). -/
def CHR_XSP_BLK : Nat := 0x200c0808
/-- BLK [23:0] RW. -/
def CHR_XSP_BLK_BLK : Fld := ⟨CHR_XSP_BLK, 23, 0⟩
/-- Address of CHR_XSP_AVG (18_chronograph.md, Table CHR-14). -/
def CHR_XSP_AVG : Nat := 0x200c080c
/-- AVG [15:0] RW. -/
def CHR_XSP_AVG_AVG : Fld := ⟨CHR_XSP_AVG, 15, 0⟩
/-- Address of CHR_XSP_LEADDR (18_chronograph.md, Table CHR-14). -/
def CHR_XSP_LEADDR : Nat := 0x200c0810
/-- LEADDR [14:0] RW. -/
def CHR_XSP_LEADDR_LEADDR : Fld := ⟨CHR_XSP_LEADDR, 14, 0⟩
/-- Address of CHR_XSP_STAT (18_chronograph.md, Table CHR-14). -/
def CHR_XSP_STAT : Nat := 0x200c0814
/-- BUSY [31:31] RO. -/
def CHR_XSP_STAT_BUSY : Fld := ⟨CHR_XSP_STAT, 31, 31⟩
/-- DONE [30:30] W1C. -/
def CHR_XSP_STAT_DONE : Fld := ⟨CHR_XSP_STAT, 30, 30⟩
/-- ABORTED [29:29] W1C. -/
def CHR_XSP_STAT_ABORTED : Fld := ⟨CHR_XSP_STAT, 29, 29⟩
/-- SAT [28:28] W1C. -/
def CHR_XSP_STAT_SAT : Fld := ⟨CHR_XSP_STAT, 28, 28⟩
/-- SUBST [27:27] W1C. -/
def CHR_XSP_STAT_SUBST : Fld := ⟨CHR_XSP_STAT, 27, 27⟩
/-- M [15:0] RO. -/
def CHR_XSP_STAT_M : Fld := ⟨CHR_XSP_STAT, 15, 0⟩
/-- Address of CHR_XSP_BINb (18_chronograph.md, Table CHR-14; b below 64). -/
def CHR_XSP_BINb (b : Nat) : Nat := 0x200c0900 + 0x4 * b
/-- FREQ [23:0] RW. -/
def CHR_XSP_BINb_FREQ (b : Nat) : Fld := ⟨CHR_XSP_BINb b, 23, 0⟩
/-! ### Safety -/

/-- Address of SAF_STAT (19_personnel_safety.md, Table SAF-7). -/
def SAF_STAT : Nat := 0x200d0000
/-- CONFIRMED [31:31] RO. -/
def SAF_STAT_CONFIRMED : Fld := ⟨SAF_STAT, 31, 31⟩
/-- PEND_BLOCK [30:30] RO. -/
def SAF_STAT_PEND_BLOCK : Fld := ⟨SAF_STAT, 30, 30⟩
/-- SAFE_FAULT [29:29] RO. -/
def SAF_STAT_SAFE_FAULT : Fld := ⟨SAF_STAT, 29, 29⟩
/-- DEBLOCK_PERM [28:28] RO. -/
def SAF_STAT_DEBLOCK_PERM : Fld := ⟨SAF_STAT, 28, 28⟩
/-- STOP_REQ [27:27] RO. -/
def SAF_STAT_STOP_REQ : Fld := ⟨SAF_STAT, 27, 27⟩
/-- STOP_CAT0 [26:26] RO. -/
def SAF_STAT_STOP_CAT0 : Fld := ⟨SAF_STAT, 26, 26⟩
/-- TWOHAND_OK [25:25] RO. -/
def SAF_STAT_TWOHAND_OK : Fld := ⟨SAF_STAT, 25, 25⟩
/-- PROOF_DUE [24:24] RO. -/
def SAF_STAT_PROOF_DUE : Fld := ⟨SAF_STAT, 24, 24⟩
/-- FN_PERMIT [23:16] RO. -/
def SAF_STAT_FN_PERMIT : Fld := ⟨SAF_STAT, 23, 16⟩
/-- SO_ON [15:12] RO. -/
def SAF_STAT_SO_ON : Fld := ⟨SAF_STAT, 15, 12⟩
/-- Address of SAF_CHECK (19_personnel_safety.md, Table SAF-8). -/
def SAF_CHECK : Nat := 0x200d0004
/-- CHECK [31:0] RO. -/
def SAF_CHECK_CHECK : Fld := ⟨SAF_CHECK, 31, 0⟩
/-- Address of SAF_PCHECK (19_personnel_safety.md, Table SAF-8). -/
def SAF_PCHECK : Nat := 0x200d0008
/-- PCHECK [31:0] RO. -/
def SAF_PCHECK_PCHECK : Fld := ⟨SAF_PCHECK, 31, 0⟩
/-- Address of SAF_IN (19_personnel_safety.md, Table SAF-9). -/
def SAF_IN : Nat := 0x200d0010
/-- VAL15 [31:30] RO. -/
def SAF_IN_VAL15 : Fld := ⟨SAF_IN, 31, 30⟩
/-- VAL14 [29:28] RO. -/
def SAF_IN_VAL14 : Fld := ⟨SAF_IN, 29, 28⟩
/-- VAL13 [27:26] RO. -/
def SAF_IN_VAL13 : Fld := ⟨SAF_IN, 27, 26⟩
/-- VAL12 [25:24] RO. -/
def SAF_IN_VAL12 : Fld := ⟨SAF_IN, 25, 24⟩
/-- VAL11 [23:22] RO. -/
def SAF_IN_VAL11 : Fld := ⟨SAF_IN, 23, 22⟩
/-- VAL10 [21:20] RO. -/
def SAF_IN_VAL10 : Fld := ⟨SAF_IN, 21, 20⟩
/-- VAL9 [19:18] RO. -/
def SAF_IN_VAL9 : Fld := ⟨SAF_IN, 19, 18⟩
/-- VAL8 [17:16] RO. -/
def SAF_IN_VAL8 : Fld := ⟨SAF_IN, 17, 16⟩
/-- VAL7 [15:14] RO. -/
def SAF_IN_VAL7 : Fld := ⟨SAF_IN, 15, 14⟩
/-- VAL6 [13:12] RO. -/
def SAF_IN_VAL6 : Fld := ⟨SAF_IN, 13, 12⟩
/-- VAL5 [11:10] RO. -/
def SAF_IN_VAL5 : Fld := ⟨SAF_IN, 11, 10⟩
/-- VAL4 [9:8] RO. -/
def SAF_IN_VAL4 : Fld := ⟨SAF_IN, 9, 8⟩
/-- VAL3 [7:6] RO. -/
def SAF_IN_VAL3 : Fld := ⟨SAF_IN, 7, 6⟩
/-- VAL2 [5:4] RO. -/
def SAF_IN_VAL2 : Fld := ⟨SAF_IN, 5, 4⟩
/-- VAL1 [3:2] RO. -/
def SAF_IN_VAL1 : Fld := ⟨SAF_IN, 3, 2⟩
/-- VAL0 [1:0] RO. -/
def SAF_IN_VAL0 : Fld := ⟨SAF_IN, 1, 0⟩
/-- Address of SAF_INFLT (19_personnel_safety.md, Table SAF-10). -/
def SAF_INFLT : Nat := 0x200d0014
/-- TP_FLT [31:16] RO. -/
def SAF_INFLT_TP_FLT : Fld := ⟨SAF_INFLT, 31, 16⟩
/-- DISC_FLT [15:0] RO. -/
def SAF_INFLT_DISC_FLT : Fld := ⟨SAF_INFLT, 15, 0⟩
/-- Address of SAF_FAULT (19_personnel_safety.md, Table SAF-11). -/
def SAF_FAULT : Nat := 0x200d0018
/-- OSC [31:31] RO. -/
def SAF_FAULT_OSC : Fld := ⟨SAF_FAULT, 31, 31⟩
/-- XCOMP [30:30] RO. -/
def SAF_FAULT_XCOMP : Fld := ⟨SAF_FAULT, 30, 30⟩
/-- CFG_CRC [29:29] RO. -/
def SAF_FAULT_CFG_CRC : Fld := ⟨SAF_FAULT, 29, 29⟩
/-- PROOF_FAIL [28:28] RO. -/
def SAF_FAULT_PROOF_FAIL : Fld := ⟨SAF_FAULT, 28, 28⟩
/-- EDM [7:4] RO. -/
def SAF_FAULT_EDM : Fld := ⟨SAF_FAULT, 7, 4⟩
/-- OUT_FLT [3:0] RO. -/
def SAF_FAULT_OUT_FLT : Fld := ⟨SAF_FAULT, 3, 0⟩
/-- Address of SAF_PROOF (19_personnel_safety.md, Table SAF-12). -/
def SAF_PROOF : Nat := 0x200d001c
/-- PROOF_AGE [15:0] RO. -/
def SAF_PROOF_PROOF_AGE : Fld := ⟨SAF_PROOF, 15, 0⟩
/-! ### Bar2 -/

/-- Address of MB_DB (20_command_interface.md, Table CMD-16). -/
def MB_DB : Nat := 0x80000000
/-- SLOT [2:0] WO. -/
def MB_DB_SLOT : Fld := ⟨MB_DB, 2, 0⟩
/-- Address of MB_FREE (20_command_interface.md, Table CMD-16). -/
def MB_FREE : Nat := 0x80000004
/-- FREE [7:0] RO. -/
def MB_FREE_FREE : Fld := ⟨MB_FREE, 7, 0⟩
/-- Address of MB_READY (20_command_interface.md, Table CMD-16). -/
def MB_READY : Nat := 0x80000008
/-- READY [7:0] W1C. -/
def MB_READY_READY : Fld := ⟨MB_READY, 7, 0⟩
/-- Address of MB_ERR (20_command_interface.md, Table CMD-16). -/
def MB_ERR : Nat := 0x8000000c
/-- DB_ERR [15:0] RO. -/
def MB_ERR_DB_ERR : Fld := ⟨MB_ERR, 15, 0⟩
/-- Address of TL_WR (20_command_interface.md, Table CMD-16). -/
def TL_WR : Nat := 0x80000010
/-- WR [23:0] RO. -/
def TL_WR_WR : Fld := ⟨TL_WR, 23, 0⟩
/-- Address of TL_RD (20_command_interface.md, Table CMD-16). -/
def TL_RD : Nat := 0x80000014
/-- RD [23:0] RW. -/
def TL_RD_RD : Fld := ⟨TL_RD, 23, 0⟩
/-- Address of TL_DROP (20_command_interface.md, Table CMD-16). -/
def TL_DROP : Nat := 0x80000018
/-- DROP [31:0] RO. -/
def TL_DROP_DROP : Fld := ⟨TL_DROP, 31, 0⟩
/-- Address of NR_HEAD (20_command_interface.md, Table CMD-16). -/
def NR_HEAD : Nat := 0x8000001c
/-- HEAD [11:0] RO. -/
def NR_HEAD_HEAD : Fld := ⟨NR_HEAD, 11, 0⟩
/-- Address of NR_DROP (20_command_interface.md, Table CMD-16). -/
def NR_DROP : Nat := 0x80000020
/-- DROP [31:0] RO. -/
def NR_DROP_DROP : Fld := ⟨NR_DROP, 31, 0⟩
/-! ### Network -/

/-- Address of NET_CTRL (20_command_interface.md, Table CMD-17). -/
def NET_CTRL : Nat := 0x200f0000
/-- UDP_EN [31:31] RWS. -/
def NET_CTRL_UDP_EN : Fld := ⟨NET_CTRL, 31, 31⟩
/-- SPI_EN [30:30] RWS. -/
def NET_CTRL_SPI_EN : Fld := ⟨NET_CTRL, 30, 30⟩
/-- SESSION_IDLE [15:0] RWS. -/
def NET_CTRL_SESSION_IDLE : Fld := ⟨NET_CTRL, 15, 0⟩
/-- Address of NET_IP (20_command_interface.md, Table CMD-17). -/
def NET_IP : Nat := 0x200f0004
/-- IP [31:0] RWS. -/
def NET_IP_IP : Fld := ⟨NET_IP, 31, 0⟩
/-- Address of NET_MASK (20_command_interface.md, Table CMD-17). -/
def NET_MASK : Nat := 0x200f0008
/-- MASK [31:0] RWS. -/
def NET_MASK_MASK : Fld := ⟨NET_MASK, 31, 0⟩
/-- Address of NET_GW (20_command_interface.md, Table CMD-17). -/
def NET_GW : Nat := 0x200f000c
/-- GW [31:0] RWS. -/
def NET_GW_GW : Fld := ⟨NET_GW, 31, 0⟩
/-- Address of NET_STAT (20_command_interface.md, Table CMD-18). -/
def NET_STAT : Nat := 0x200f0010
/-- LINK_M [31:31] RO. -/
def NET_STAT_LINK_M : Fld := ⟨NET_STAT, 31, 31⟩
/-- LINK_A [30:30] RO. -/
def NET_STAT_LINK_A : Fld := ⟨NET_STAT, 30, 30⟩
/-- LINK_B [29:29] RO. -/
def NET_STAT_LINK_B : Fld := ⟨NET_STAT, 29, 29⟩
/-- AUTH_FAILED [17:17] W1C. -/
def NET_STAT_AUTH_FAILED : Fld := ⟨NET_STAT, 17, 17⟩
/-- PKT_BAD [16:16] W1C. -/
def NET_STAT_PKT_BAD : Fld := ⟨NET_STAT, 16, 16⟩
/-- AUTH_CNT [15:8] RO. -/
def NET_STAT_AUTH_CNT : Fld := ⟨NET_STAT, 15, 8⟩
/-- BAD_CNT [7:0] RO. -/
def NET_STAT_BAD_CNT : Fld := ⟨NET_STAT, 7, 0⟩
/-- Address of NET_SVs_CFG (20_command_interface.md, Table CMD-19; s below 16). -/
def NET_SVs_CFG (s : Nat) : Nat := 0x200f0100 + 0x10 * s
/-- EN [31:31] RWS. -/
def NET_SVs_CFG_EN (s : Nat) : Fld := ⟨NET_SVs_CFG s, 31, 31⟩
/-- SIM_ACCEPT [30:30] RWS. -/
def NET_SVs_CFG_SIM_ACCEPT (s : Nat) : Fld := ⟨NET_SVs_CFG s, 30, 30⟩
/-- RATE [29:28] RWS. -/
def NET_SVs_CFG_RATE (s : Nat) : Fld := ⟨NET_SVs_CFG s, 29, 28⟩
/-- ASDU [27:24] RWS. -/
def NET_SVs_CFG_ASDU (s : Nat) : Fld := ⟨NET_SVs_CFG s, 27, 24⟩
/-- APPID [15:0] RWS. -/
def NET_SVs_CFG_APPID (s : Nat) : Fld := ⟨NET_SVs_CFG s, 15, 0⟩
/-- Address of NET_SVs_ADDR (20_command_interface.md, Table CMD-19; s below 16). -/
def NET_SVs_ADDR (s : Nat) : Nat := 0x200f0104 + 0x10 * s
/-- MAC_LO [15:0] RWS. -/
def NET_SVs_ADDR_MAC_LO (s : Nat) : Fld := ⟨NET_SVs_ADDR s, 15, 0⟩
/-- Address of NET_SVs_CONFREV (20_command_interface.md, Table CMD-19; s below 16). -/
def NET_SVs_CONFREV (s : Nat) : Nat := 0x200f0108 + 0x10 * s
/-- CONFREV [31:0] RWS. -/
def NET_SVs_CONFREV_CONFREV (s : Nat) : Fld := ⟨NET_SVs_CONFREV s, 31, 0⟩
/-- Address of NET_SVs_SEL (20_command_interface.md, Table CMD-19; s below 16). -/
def NET_SVs_SEL (s : Nat) : Nat := 0x200f010c + 0x10 * s
/-- ENT7 [31:28] RWS. -/
def NET_SVs_SEL_ENT7 (s : Nat) : Fld := ⟨NET_SVs_SEL s, 31, 28⟩
/-- ENT6 [27:24] RWS. -/
def NET_SVs_SEL_ENT6 (s : Nat) : Fld := ⟨NET_SVs_SEL s, 27, 24⟩
/-- ENT5 [23:20] RWS. -/
def NET_SVs_SEL_ENT5 (s : Nat) : Fld := ⟨NET_SVs_SEL s, 23, 20⟩
/-- ENT4 [19:16] RWS. -/
def NET_SVs_SEL_ENT4 (s : Nat) : Fld := ⟨NET_SVs_SEL s, 19, 16⟩
/-- ENT3 [15:12] RWS. -/
def NET_SVs_SEL_ENT3 (s : Nat) : Fld := ⟨NET_SVs_SEL s, 15, 12⟩
/-- ENT2 [11:8] RWS. -/
def NET_SVs_SEL_ENT2 (s : Nat) : Fld := ⟨NET_SVs_SEL s, 11, 8⟩
/-- ENT1 [7:4] RWS. -/
def NET_SVs_SEL_ENT1 (s : Nat) : Fld := ⟨NET_SVs_SEL s, 7, 4⟩
/-- ENT0 [3:0] RWS. -/
def NET_SVs_SEL_ENT0 (s : Nat) : Fld := ⟨NET_SVs_SEL s, 3, 0⟩
/-- Address of NET_GOg_CFG (20_command_interface.md, Table CMD-20; g below 32). -/
def NET_GOg_CFG (g : Nat) : Nat := 0x200f0400 + 0x10 * g
/-- EN [31:31] RWS. -/
def NET_GOg_CFG_EN (g : Nat) : Fld := ⟨NET_GOg_CFG g, 31, 31⟩
/-- TEST_ACCEPT [30:30] RWS. -/
def NET_GOg_CFG_TEST_ACCEPT (g : Nat) : Fld := ⟨NET_GOg_CFG g, 30, 30⟩
/-- TRIP_EN [29:29] RWS. -/
def NET_GOg_CFG_TRIP_EN (g : Nat) : Fld := ⟨NET_GOg_CFG g, 29, 29⟩
/-- TRIP_ENTRY [28:25] RWS. -/
def NET_GOg_CFG_TRIP_ENTRY (g : Nat) : Fld := ⟨NET_GOg_CFG g, 28, 25⟩
/-- LOSS [24:23] RWS. -/
def NET_GOg_CFG_LOSS (g : Nat) : Fld := ⟨NET_GOg_CFG g, 24, 23⟩
/-- APPID [15:0] RWS. -/
def NET_GOg_CFG_APPID (g : Nat) : Fld := ⟨NET_GOg_CFG g, 15, 0⟩
/-- Address of NET_GOg_ADDR (20_command_interface.md, Table CMD-20; g below 32). -/
def NET_GOg_ADDR (g : Nat) : Nat := 0x200f0404 + 0x10 * g
/-- MAC_LO [15:0] RWS. -/
def NET_GOg_ADDR_MAC_LO (g : Nat) : Fld := ⟨NET_GOg_ADDR g, 15, 0⟩
/-- Address of NET_GOg_CONFREV (20_command_interface.md, Table CMD-20; g below 32). -/
def NET_GOg_CONFREV (g : Nat) : Nat := 0x200f0408 + 0x10 * g
/-- CONFREV [31:0] RWS. -/
def NET_GOg_CONFREV_CONFREV (g : Nat) : Fld := ⟨NET_GOg_CONFREV g, 31, 0⟩
/-- Address of NET_GOg_STAT (20_command_interface.md, Table CMD-20; g below 32). -/
def NET_GOg_STAT (g : Nat) : Nat := 0x200f040c + 0x10 * g
/-- VALID [31:31] RO. -/
def NET_GOg_STAT_VALID (g : Nat) : Fld := ⟨NET_GOg_STAT g, 31, 31⟩
/-- TRIP_ACT [30:30] RO. -/
def NET_GOg_STAT_TRIP_ACT (g : Nat) : Fld := ⟨NET_GOg_STAT g, 30, 30⟩
/-- STNUM [15:0] RO. -/
def NET_GOg_STAT_STNUM (g : Nat) : Fld := ⟨NET_GOg_STAT g, 15, 0⟩
/-! ### Security -/

/-- Address of STO_STAT (21_store_keys_log.md, Table STO-10). -/
def STO_STAT : Nat := 0x20110000
/-- BANK [31:31] RO. -/
def STO_STAT_BANK : Fld := ⟨STO_STAT, 31, 31⟩
/-- STORING [30:30] RO. -/
def STO_STAT_STORING : Fld := ⟨STO_STAT, 30, 30⟩
/-- CHK_BUSY [29:29] RO. -/
def STO_STAT_CHK_BUSY : Fld := ⟨STO_STAT, 29, 29⟩
/-- DIRTY [28:28] RO. -/
def STO_STAT_DIRTY : Fld := ⟨STO_STAT, 28, 28⟩
/-- TORN [27:27] W1C. -/
def STO_STAT_TORN : Fld := ⟨STO_STAT, 27, 27⟩
/-- WEAR_WARN [26:26] RO. -/
def STO_STAT_WEAR_WARN : Fld := ⟨STO_STAT, 26, 26⟩
/-- STORE_FAIL_SEEN [25:25] W1C. -/
def STO_STAT_STORE_FAIL_SEEN : Fld := ⟨STO_STAT, 25, 25⟩
/-- ECC_CNT [15:0] RO. -/
def STO_STAT_ECC_CNT : Fld := ⟨STO_STAT, 15, 0⟩
/-- Address of STO_BANKn (21_store_keys_log.md, Table STO-11; n below 2). -/
def STO_BANKn (n : Nat) : Nat := 0x20110004 + 0x4 * n
/-- WRITES [31:0] RO. -/
def STO_BANKn_WRITES (n : Nat) : Fld := ⟨STO_BANKn n, 31, 0⟩
/-- Address of STO_CFGCHKj (21_store_keys_log.md, Table STO-12; j below 4). -/
def STO_CFGCHKj (j : Nat) : Nat := 0x20110010 + 0x4 * j
/-- CHK [31:0] RO. -/
def STO_CFGCHKj_CHK (j : Nat) : Fld := ⟨STO_CFGCHKj j, 31, 0⟩
/-- Address of SEC_BOOT (21_store_keys_log.md, Table STO-13). -/
def SEC_BOOT : Nat := 0x20110020
/-- RUN_SLOT [31:31] RO. -/
def SEC_BOOT_RUN_SLOT : Fld := ⟨SEC_BOOT, 31, 31⟩
/-- ROM_SERVER [30:30] RO. -/
def SEC_BOOT_ROM_SERVER : Fld := ⟨SEC_BOOT, 30, 30⟩
/-- PREF_SLOT [29:29] RO. -/
def SEC_BOOT_PREF_SLOT : Fld := ⟨SEC_BOOT, 29, 29⟩
/-- RES1 [23:20] RO. -/
def SEC_BOOT_RES1 : Fld := ⟨SEC_BOOT, 23, 20⟩
/-- RES0 [19:16] RO. -/
def SEC_BOOT_RES0 : Fld := ⟨SEC_BOOT, 19, 16⟩
/-- MIN_SVN [15:0] RO. -/
def SEC_BOOT_MIN_SVN : Fld := ⟨SEC_BOOT, 15, 0⟩
/-- Address of SEC_STAT (21_store_keys_log.md, Table STO-14). -/
def SEC_STAT : Nat := 0x20110024
/-- CUST_KEY [31:31] RO. -/
def SEC_STAT_CUST_KEY : Fld := ⟨SEC_STAT, 31, 31⟩
/-- ROLE_KEYS [30:26] RO. -/
def SEC_STAT_ROLE_KEYS : Fld := ⟨SEC_STAT, 30, 26⟩
/-- ATT_LOW [25:25] RO. -/
def SEC_STAT_ATT_LOW : Fld := ⟨SEC_STAT, 25, 25⟩
/-- SIG_INDEX [20:0] RO. -/
def SEC_STAT_SIG_INDEX : Fld := ⟨SEC_STAT, 20, 0⟩
/-- Address of SEC_CFG (21_store_keys_log.md, Table STO-15). -/
def SEC_CFG : Nat := 0x20110028
/-- ATT_PERIOD [9:0] RWS. -/
def SEC_CFG_ATT_PERIOD : Fld := ⟨SEC_CFG, 9, 0⟩
/-! ### Log -/

/-- Address of LOG_HEAD (21_store_keys_log.md, Table STO-16). -/
def LOG_HEAD : Nat := 0x20120000
/-- HEAD [31:0] RO. -/
def LOG_HEAD_HEAD : Fld := ⟨LOG_HEAD, 31, 0⟩
/-- Address of LOG_EXP (21_store_keys_log.md, Table STO-16). -/
def LOG_EXP : Nat := 0x20120004
/-- EXP_SEQ [31:0] RO. -/
def LOG_EXP_EXP_SEQ : Fld := ⟨LOG_EXP, 31, 0⟩
/-- Address of LOG_CFG (21_store_keys_log.md, Table STO-17). -/
def LOG_CFG : Nat := 0x20120008
/-- LOG_POLICY [0:0] RO. -/
def LOG_CFG_LOG_POLICY : Fld := ⟨LOG_CFG, 0, 0⟩
/-- Address of LOG_STAT (21_store_keys_log.md, Table STO-18). -/
def LOG_STAT : Nat := 0x2012000c
/-- LOG_WARN [31:31] RO. -/
def LOG_STAT_LOG_WARN : Fld := ⟨LOG_STAT, 31, 31⟩
/-- REFUSING [30:30] RO. -/
def LOG_STAT_REFUSING : Fld := ⟨LOG_STAT, 30, 30⟩
/-- LOST [16:0] RO. -/
def LOG_STAT_LOST : Fld := ⟨LOG_STAT, 16, 0⟩
/-! ### Integrity -/

/-- Address of INT_CFG (22_integrity_and_online_test.md, Table INT-5). -/
def INT_CFG : Nat := 0x20130100
/-- SUB_ESC_N [31:16] RWS. -/
def INT_CFG_SUB_ESC_N : Fld := ⟨INT_CFG, 31, 16⟩
/-- ESC_N [7:0] RWS. -/
def INT_CFG_ESC_N : Fld := ⟨INT_CFG, 7, 0⟩
/-- Address of INT_STAT (22_integrity_and_online_test.md, Table INT-6). -/
def INT_STAT : Nat := 0x20130104
/-- ESC [20:16] W1C. -/
def INT_STAT_ESC : Fld := ⟨INT_STAT, 20, 16⟩
/-- COEF_ERR_SEEN [15:15] W1C. -/
def INT_STAT_COEF_ERR_SEEN : Fld := ⟨INT_STAT, 15, 15⟩
/-- THR_MM_SEEN [14:14] W1C. -/
def INT_STAT_THR_MM_SEEN : Fld := ⟨INT_STAT, 14, 14⟩
/-- SUB_ESC [13:13] W1C. -/
def INT_STAT_SUB_ESC : Fld := ⟨INT_STAT, 13, 13⟩
/-- INJ_PEND [12:12] RO. -/
def INT_STAT_INJ_PEND : Fld := ⟨INT_STAT, 12, 12⟩
/-- MM [4:0] W1C. -/
def INT_STAT_MM : Fld := ⟨INT_STAT, 4, 0⟩
/-- Address of INT_BDRYb (22_integrity_and_online_test.md, Table INT-7; b below 5). -/
def INT_BDRYb (b : Nat) : Nat := 0x20130110 + 0x4 * b
/-- CONSEC [31:24] RO. -/
def INT_BDRYb_CONSEC (b : Nat) : Fld := ⟨INT_BDRYb b, 31, 24⟩
/-- TEST_CNT [23:16] RO. -/
def INT_BDRYb_TEST_CNT (b : Nat) : Fld := ⟨INT_BDRYb b, 23, 16⟩
/-- MM_CNT [15:0] RO. -/
def INT_BDRYb_MM_CNT (b : Nat) : Fld := ⟨INT_BDRYb b, 15, 0⟩
/-- Address of INT_BOOT (22_integrity_and_online_test.md, Table INT-8). -/
def INT_BOOT : Nat := 0x20130130
/-- DONE [31:31] RO. -/
def INT_BOOT_DONE : Fld := ⟨INT_BOOT, 31, 31⟩
/-- ALM_FAIL [2:2] RO. -/
def INT_BOOT_ALM_FAIL : Fld := ⟨INT_BOOT, 2, 2⟩
/-- MGMT_FAIL [1:1] RO. -/
def INT_BOOT_MGMT_FAIL : Fld := ⟨INT_BOOT, 1, 1⟩
/-- MDLL_FAIL [0:0] RO. -/
def INT_BOOT_MDLL_FAIL : Fld := ⟨INT_BOOT, 0, 0⟩
/-! ### Sys -/

/-- Address of SYS_RSTCAUSE (23_supplies_pins_package.md, Table PKG-12). -/
def SYS_RSTCAUSE : Nat := 0x20000080
/-- POR [15:15] W1C. -/
def SYS_RSTCAUSE_POR : Fld := ⟨SYS_RSTCAUSE, 15, 15⟩
/-- SUPPLY [14:14] W1C. -/
def SYS_RSTCAUSE_SUPPLY : Fld := ⟨SYS_RSTCAUSE, 14, 14⟩
/-- ORDER [13:13] W1C. -/
def SYS_RSTCAUSE_ORDER : Fld := ⟨SYS_RSTCAUSE, 13, 13⟩
/-- SLEW [12:12] W1C. -/
def SYS_RSTCAUSE_SLEW : Fld := ⟨SYS_RSTCAUSE, 12, 12⟩
/-- ANA_HOLD [11:11] W1C. -/
def SYS_RSTCAUSE_ANA_HOLD : Fld := ⟨SYS_RSTCAUSE, 11, 11⟩
/-- EXT [10:10] W1C. -/
def SYS_RSTCAUSE_EXT : Fld := ⟨SYS_RSTCAUSE, 10, 10⟩
/-- SOFT [9:9] W1C. -/
def SYS_RSTCAUSE_SOFT : Fld := ⟨SYS_RSTCAUSE, 9, 9⟩
/-- THERM [8:8] W1C. -/
def SYS_RSTCAUSE_THERM : Fld := ⟨SYS_RSTCAUSE, 8, 8⟩
/-- RAIL [2:0] RO. -/
def SYS_RSTCAUSE_RAIL : Fld := ⟨SYS_RSTCAUSE, 2, 0⟩
/-- Address of SYS_PWRSTAT (23_supplies_pins_package.md, Table PKG-13). -/
def SYS_PWRSTAT : Nat := 0x20000084
/-- THERM_WARN [9:9] W1C. -/
def SYS_PWRSTAT_THERM_WARN : Fld := ⟨SYS_PWRSTAT, 9, 9⟩
/-- THERM_HOT [8:8] RO. -/
def SYS_PWRSTAT_THERM_HOT : Fld := ⟨SYS_PWRSTAT, 8, 8⟩
/-- RAIL_UP [7:0] RO. -/
def SYS_PWRSTAT_RAIL_UP : Fld := ⟨SYS_PWRSTAT, 7, 0⟩
/-- Address of SYS_IOCFG (23_supplies_pins_package.md, Table PKG-14). -/
def SYS_IOCFG : Nat := 0x20000088
/-- LOS_FLT [14:8] RWS. -/
def SYS_IOCFG_LOS_FLT : Fld := ⟨SYS_IOCFG, 14, 8⟩
/-- SLEW3 [7:6] RWS. -/
def SYS_IOCFG_SLEW3 : Fld := ⟨SYS_IOCFG, 7, 6⟩
/-- SLEW2 [5:4] RWS. -/
def SYS_IOCFG_SLEW2 : Fld := ⟨SYS_IOCFG, 5, 4⟩
/-- SLEW1 [3:2] RWS. -/
def SYS_IOCFG_SLEW1 : Fld := ⟨SYS_IOCFG, 3, 2⟩
/-- SLEW0 [1:0] RWS. -/
def SYS_IOCFG_SLEW0 : Fld := ⟨SYS_IOCFG, 1, 0⟩

end Sys2Proof.Machine
end

