-- ==== Sys2Proof/Machine/Status.lean ====
section
/-! DEFINITION. The status codes that replies carry (Table CMD-8 and the status tables of the chapters). -/

namespace Sys2Proof.Machine

/-- A status of a reply. -/
inductive Status where
  /-- OK: Done. -/
  | ok
  /-- CHECK_FAIL: CRC-32C failed. -/
  | checkFail
  /-- HEADER_BAD: Version unknown, REPLY set in a command, or reserved flags set. -/
  | headerBad
  /-- OPCODE_UNKNOWN: Opcode not defined. -/
  | opcodeUnknown
  /-- LENGTH: LENGTH outside Table CMD-2, or parameters of the wrong size. -/
  | length
  /-- SESSION_INVALID: Session not open on this transport. -/
  | sessionInvalid
  /-- SEQ_STALE: R383. -/
  | seqStale
  /-- ROLE_DENIED: Session role below the requirement. -/
  | roleDenied
  /-- BUSY: Four commands outstanding in the session. -/
  | busy
  /-- GROUP_UNAVAILABLE: Group not served because firmware did not verify (R41). -/
  | groupUnavailable
  /-- TRANSPORT: Opcode or option not offered on this transport. -/
  | transport
  /-- AUTH_FAIL: Wrong proof, or phase 2 late. -/
  | authFail
  /-- AUTH_LOCKED: Role locked under R382. -/
  | authLocked
  /-- SESSION_LIMIT: R382. -/
  | sessionLimit
  /-- LOG_FULL: Change refused by the full-ring policy. -/
  | logFull
  /-- ADDR_UNMAPPED: Address outside Table TCK-13 (R27). -/
  | addrUnmapped
  /-- ADDR_DENIED: Window not writable by register access. -/
  | addrDenied
  /-- REG_RO: Write would change an RO or reserved field (R398). -/
  | regRo
  /-- ALIGN: Address not a multiple of 4. -/
  | align
  /-- MODE_NOT_ALLOWED: Transition not in Table MOD-2, or command not accepted in this mode. -/
  | modeNotAllowed
  /-- CONDITION_UNMET: A listed condition failed; the reply carries the condition report of R449. -/
  | conditionUnmet
  /-- CAUSE_ACTIVE: A trip cause is still active or latched. -/
  | causeActive
  /-- CAUSE_MISMATCH: Cause word differs from SYS_TRIPCAUSE.LATCHED. -/
  | causeMismatch
  /-- ENABLE_DEFERRED: Accepted and pending under R40. -/
  | enableDeferred
  /-- NOTHING_PENDING: No pending enable in that class. -/
  | nothingPending
  /-- TWIN_STANDBY: Refused by a STANDBY twin (R44). -/
  | twinStandby
  /-- RANGE: Parameter outside its range. -/
  | range
  /-- STORE_BUSY: STORE running or within 1 s of the last (R403). -/
  | storeBusy
  /-- STORE_FAILED: Read-back failed; bank in use unchanged. -/
  | storeFailed
  /-- SPARE_BUSY: Spare already substitutes another channel. -/
  | spareBusy
  /-- NOT_SUBSTITUTED: No substitution active in that bank. -/
  | notSubstituted
  /-- CONV_FAILED: Main converter fails the release check, or the spare is faulted. -/
  | convFailed
  /-- CAL_FAILED: Foreground calibration failed for at least one converter. -/
  | calFailed
  /-- HKC_RUNNING: Configuration refused while EN = 1. -/
  | hkcRunning
  /-- HKC_DISABLED: Converter has EN = 0. -/
  | hkcDisabled
  /-- INJ_BUSY: Injected sequence already running (R63). -/
  | injBusy
  /-- COEF_PENDING: Shadow write while a commit is pending. -/
  | coefPending
  /-- COEF_IN_USE: Commit would change a control-path set in a switching mode. -/
  | coefInUse
  /-- SET_EMPTY: User set would have TAPS = 0 while selected (R71, R72). -/
  | setEmpty
  /-- SIG_INVALID: Image signature does not verify. -/
  | sigInvalid
  /-- KEY_NOT_ENROLLED: No customer key enrolled. -/
  | keyNotEnrolled
  /-- BUDGET_EXCEEDED: R87 fails. -/
  | budgetExceeded
  /-- MIRROR_EXCEEDED: R92 fails. -/
  | mirrorExceeded
  /-- IMAGE_INVALID: Malformed image, or activation failed. -/
  | imageInvalid
  /-- ENGINE_RESERVED: Image targets engines outside its class. -/
  | engineReserved
  /-- ROT_BUSY: Engine under rotation, or no spare free. -/
  | rotBusy
  /-- MAP_CONFLICT: Two GFL_MAPq entries with non-zero SCALE would name the same channel (R108). -/
  | mapConflict
  /-- THRESH_ORDER: Threshold ordering of R149 violated. -/
  | threshOrder
  /-- QUEUE_FULL: 16 moves queued. -/
  | queueFull
  /-- CH_TASK: Channel takes its target from a task (R174). -/
  | chTask
  /-- SHAPE_PENDING: Shadow write during PEND or COPYING. -/
  | shapePending
  /-- SHAPE_FUND: Shadow fails R179 in a switching mode. -/
  | shapeFund
  /-- SLOT_FAULTED: Fault code non-zero or sequence not advancing (R199). -/
  | slotFaulted
  /-- SLOT_EMPTY: Slot type is EMPTY. -/
  | slotEmpty
  /-- RED_LIMIT: Exclusion would exceed N_RED in a switching mode. -/
  | redLimit
  /-- NOT_EXCLUDED: Slot is not excluded. -/
  | notExcluded
  /-- LANE_DISABLED: Lane has EN = 0. -/
  | laneDisabled
  /-- BRINGUP_FAILED: At least one named lane did not reach RUN. -/
  | bringupFailed
  /-- LANE_NOT_RUN: Lane not in the state the command needs. -/
  | laneNotRun
  /-- APPLY_LOW: APPLY_OFS below APPLY_MIN (R236). -/
  | applyLow
  /-- HUB_NO_REPLY: No reply within 100 ms. -/
  | hubNoReply
  /-- BULK_BUSY: A HUB_MSG to this lane is already waiting. -/
  | bulkBusy
  /-- LEG_RUNNING: Field writable only in OFF or FAULT (R259). -/
  | legRunning
  /-- LEG_FAULT: Leg in FAULT. -/
  | legFault
  /-- LEG_SRC: Host write to a leg whose DSRC is not HOST. -/
  | legSrc
  /-- CAUSE_PRESENT: Under-voltage still asserted (R272). -/
  | causePresent
  /-- NOT_LATCHED: Switch not latched. -/
  | notLatched
  /-- LEG_BUSY: Leg in SOFT. -/
  | legBusy
  /-- NOT_ACTIVE: Part is not ACTIVE. -/
  | notActive
  /-- HANDOVER_TMO: No role change within 100 ms. -/
  | handoverTmo
  /-- NOT_STANDBY: Part is not STANDBY. -/
  | notStandby
  /-- NOT_REEVE: Part is not strapped to REEVE. -/
  | notReeve
  /-- NO_HEARTBEAT: Named twin's heartbeat is missing. -/
  | noHeartbeat
  /-- ROLE_CHANGED: Path test ended by a role change. -/
  | roleChanged
  /-- INC_LIMIT: Outside ±200 ppm in FORM or RIDE-THROUGH (R304). -/
  | incLimit
  /-- STEP_REPLACED: A later step of the same tick took its place. -/
  | stepReplaced
  /-- REC_BUSY: Record armed. -/
  | recBusy
  /-- MEM_OVERLAP: Slots overlap another record (R342). -/
  | memOverlap
  /-- DDR_DOWN: DDR not available (R346). -/
  | ddrDown
  /-- NOT_ARMED: Record not armed. -/
  | notArmed
  /-- ECC_ERROR: Uncorrectable DDR error (R347). -/
  | eccError
  /-- XSP_BUSY: Cross-spectrum run in progress. -/
  | xspBusy
  /-- NOT_MASTER: SYNC_ROLE is not MASTER. -/
  | notMaster
  /-- SELFTEST_FAIL: Self-test failed (R355). -/
  | selftestFail
  /-- BW_LIMIT: DDR budget of R344 exceeded. -/
  | bwLimit
  /-- CHECK_MISMATCH: Value differs from the pending block's check value. -/
  | checkMismatch
  /-- SPB_INVALID: Block fails R368. -/
  | spbInvalid
  /-- NO_PENDING_BLOCK: No block loaded since the last confirmation. -/
  | noPendingBlock
  /-- PROOF_FAILED: Proof test failed; SAFE_FAULT latched. -/
  | proofFailed
  /-- TWOHAND_REQ: Local-panel command without two-hand permit (R363). -/
  | twohandReq
  /-- KEY_PRESENT: A customer key is already enrolled. -/
  | keyPresent
  /-- FW_INVALID: Slot result not OK (R407, R408). -/
  | fwInvalid
  /-- FW_SLOT_ACTIVE: Write to the running slot. -/
  | fwSlotActive
  /-- ATT_RATE: Within ATT_PERIOD of the last quote. -/
  | attRate
  /-- ATT_EXHAUSTED: All 2^20 indices used (R412). -/
  | attExhausted
  /-- SEQ_RANGE: SEQ outside the held or permitted range. -/
  | seqRange
  /-- INT_BUSY: An injection already in this slow cycle. -/
  | intBusy
deriving DecidableEq, Repr

/-- The 16-bit code of a status. -/
def statusCode : Status → Nat
  | .ok => 0x0000
  | .checkFail => 0x0001
  | .headerBad => 0x0002
  | .opcodeUnknown => 0x0003
  | .length => 0x0004
  | .sessionInvalid => 0x0005
  | .seqStale => 0x0006
  | .roleDenied => 0x0007
  | .busy => 0x0008
  | .groupUnavailable => 0x0009
  | .transport => 0x000A
  | .authFail => 0x000B
  | .authLocked => 0x000C
  | .sessionLimit => 0x000D
  | .logFull => 0x000E
  | .addrUnmapped => 0x000F
  | .addrDenied => 0x0010
  | .regRo => 0x0011
  | .align => 0x0012
  | .modeNotAllowed => 0x0110
  | .conditionUnmet => 0x0111
  | .causeActive => 0x0112
  | .causeMismatch => 0x0113
  | .enableDeferred => 0x0114
  | .nothingPending => 0x0115
  | .twinStandby => 0x0116
  | .range => 0x0117
  | .storeBusy => 0x0310
  | .storeFailed => 0x0311
  | .spareBusy => 0x0410
  | .notSubstituted => 0x0411
  | .convFailed => 0x0412
  | .calFailed => 0x0413
  | .hkcRunning => 0x0414
  | .hkcDisabled => 0x0415
  | .injBusy => 0x0416
  | .coefPending => 0x0420
  | .coefInUse => 0x0421
  | .setEmpty => 0x0422
  | .sigInvalid => 0x0510
  | .keyNotEnrolled => 0x0511
  | .budgetExceeded => 0x0512
  | .mirrorExceeded => 0x0513
  | .imageInvalid => 0x0514
  | .engineReserved => 0x0515
  | .rotBusy => 0x0516
  | .mapConflict => 0x0520
  | .threshOrder => 0x0530
  | .queueFull => 0x0610
  | .chTask => 0x0611
  | .shapePending => 0x0612
  | .shapeFund => 0x0613
  | .slotFaulted => 0x0710
  | .slotEmpty => 0x0711
  | .redLimit => 0x0712
  | .notExcluded => 0x0713
  | .laneDisabled => 0x0720
  | .bringupFailed => 0x0721
  | .laneNotRun => 0x0722
  | .applyLow => 0x0740
  | .hubNoReply => 0x0741
  | .bulkBusy => 0x0742
  | .legRunning => 0x0810
  | .legFault => 0x0811
  | .legSrc => 0x0812
  | .causePresent => 0x0820
  | .notLatched => 0x0821
  | .legBusy => 0x0822
  | .notActive => 0x0910
  | .handoverTmo => 0x0911
  | .notStandby => 0x0912
  | .notReeve => 0x0913
  | .noHeartbeat => 0x0914
  | .roleChanged => 0x0915
  | .incLimit => 0x0A10
  | .stepReplaced => 0x0A11
  | .recBusy => 0x0B10
  | .memOverlap => 0x0B11
  | .ddrDown => 0x0B12
  | .notArmed => 0x0B13
  | .eccError => 0x0B14
  | .xspBusy => 0x0B15
  | .notMaster => 0x0B16
  | .selftestFail => 0x0B17
  | .bwLimit => 0x0B18
  | .checkMismatch => 0x0C10
  | .spbInvalid => 0x0C11
  | .noPendingBlock => 0x0C12
  | .proofFailed => 0x0C13
  | .twohandReq => 0x0C14
  | .keyPresent => 0x0D10
  | .fwInvalid => 0x0D11
  | .fwSlotActive => 0x0D12
  | .attRate => 0x0D13
  | .attExhausted => 0x0D14
  | .seqRange => 0x0E10
  | .intBusy => 0x0F10

end Sys2Proof.Machine
end

