-- ==== Sys2Proof/Machine/State.lean ====
section
/-! DEFINITION. The state of the part as plain data, its value after reset, and the reasons a step can stop. Registers
are held by address in one sparse map (`Hw.regs`); what the spec gives the machine beside its registers is held in one
structure for each chapter. An indexed collection (lanes, legs, slots, ...) is an `SMap` whose unlisted entries are at
their reset value. -/

namespace Sys2Proof.Machine

/-! ### Host command interface (20_command_interface.md) -/

/-- Session roles (R380), in rank order; SAFETY_OFFICER stands apart. -/
inductive Role where
  | viewer
  | operator
  | engineer
  | service
  | safetyOfficer
deriving DecidableEq, Repr

/-- A reply packet (R378), with what its trailer needs. -/
structure Reply where
  transport : Transport
  port : Nat
  opcode : Nat
  seq : Nat
  session : Nat
  status : Status
  data : List Byte
  key : BitVec 256
deriving DecidableEq, Repr

/-- A reply stored for resending (R383); `none` while its command has not replied. -/
structure StoredReply where
  seq : Nat
  reply : Option Reply
deriving DecidableEq, Repr

/-- An open session (R380 to R384). `lastTick` is the tick count at which it last had a command accepted or executing. -/
structure Session where
  id : Nat
  role : Role
  transport : Transport
  localPanel : Bool
  key : BitVec 256
  last : Option Nat
  recent : List StoredReply
  lastTick : Nat
deriving DecidableEq, Repr

/-- An identifier pending between the two phases of SESSION_OPEN (R381). `tick` is the tick count of its phase-1 reply. -/
structure PendingId where
  id : Nat
  role : Role
  transport : Transport
  localPanel : Bool
  hostNonce : List Byte
  devNonce : List Byte
  tick : Nat
deriving DecidableEq, Repr

/-- What an accepted command that has not yet replied is waiting for. -/
inductive WaitKind where
  /-- A mode command, until its transition takes effect (R31, R33). -/
  | mode
  /-- FCH_CALIBRATE, until FOREGROUND_CAL_DONE (R51). -/
  | calibrate
  /-- SPARE_SUBST of a bank, until the substitution takes effect (R56). -/
  | spareSubst (bank : Nat)
  /-- SPARE_RELEASE of a bank, until its release check ends (R58). -/
  | spareRelease (bank : Nat)
  /-- SIEVE_COEF_COMMIT, until the frame boundary (R72). -/
  | coefCommit
  /-- LE_IMAGE_ACTIVATE, until the frame boundary (R99). -/
  | imageActivate
  /-- LE_GAINSET_LOAD, until the frame boundary (R95). -/
  | gainset
  /-- GFL_PARAM_SET and LFT_PARAM_SET, until the write is latched at the frame boundary (R123). -/
  | param
  /-- SHAPE_COMMIT, until the frame boundary (R178). -/
  | shapeCommit
  /-- LANE_BRINGUP of the lanes of a mask (R220). -/
  | bringup (lanes : Nat)
  /-- HUB_DISCOVER of the lanes of a mask, and the lanes that have answered (R247). -/
  | discover (lanes answered : Nat) (tick : Nat)
  /-- HUB_MSG to a lane (R246). -/
  | hubMsg (lane mtype tag tick : Nat)
  /-- TWIN_HANDOVER, until the role change (R294). -/
  | handover
  /-- TWIN_PATH_TEST (R299). -/
  | pathTest
  /-- An increment, until cycle 0 of its tick (R304). -/
  | inc
  /-- NET_FRAME_SEND, until the frame has left every port it was handed to (Table CMD-9). -/
  | frameSend
  /-- ALM_STEP, until application (R307). -/
  | step
  /-- CHR_SELFTEST (R355). -/
  | selftest
  /-- SAFETY_PROOF_TEST (R370). -/
  | proofTest
  /-- STORE (R403). -/
  | store
deriving DecidableEq, Repr

/-- A command that is executing: accepted, and waiting for the event that lets it reply. -/
structure Waiting where
  hdr : Hdr
  opcode : Nat
  kind : WaitKind
deriving DecidableEq, Repr

/-- The host SPI port (R392). -/
structure SpiPort where
  ready : Bool := true
  ovf : Bool := false
  rx : List Byte := []
  reply : Option Reply := none
  sent : List Byte := []
deriving DecidableEq, Repr

/-- The command interface. `held` holds accepted commands whose session is still executing an earlier one (R384), in
acceptance order, each with its session; `resuming` is set while such a command runs. -/
structure CmdSt where
  sessions : List Session := []
  pendingIds : List PendingId := []
  authFails : SMap Nat := []
  lockedAt : SMap (Option Nat) := []
  waiting : List Waiting := []
  held : List (Nat × Instr) := []
  resuming : Bool := false
  mbReplies : SMap (Option Reply) := []
  spi : SpiPort := {}
  udpSent : Option Reply := none
  msix : SMap Nat := []
  resetPending : Bool := false
deriving DecidableEq, Repr

/-! ### Store, keys, log (21_store_keys_log.md) -/

/-- A change-log entry (Table STO-7). -/
structure LogEntry where
  seq : Nat
  tick : Nat
  tsec : Nat
  flags : Nat
  tns : Nat
  origin : Nat
  session : Nat
  object : Nat
  old : Nat
  new : Nat
  chain : Nat
deriving DecidableEq, Repr

/-- What a slot of the ring holds before any entry has been written into it. -/
def blankLogEntry : LogEntry := ⟨0, 0, 0, 0, 0, 0, 0, 0, 0, 0, 0⟩

/-- The change log (R415 to R417): the ring by slot, the number of entries ever written, the number of entries marked
exported, and LOST. -/
structure LogSt where
  ring : SMap LogEntry := []
  count : Nat := 0
  exported : Nat := 0
  lost : Nat := 0
deriving DecidableEq, Repr

/-- A customer image that has been verified: its engines' parts and the digest of its body (R98, R410). -/
structure Image where
  parts : List EngineDecl
  digest : Nat
  bytes : List Byte
deriving DecidableEq, Repr

/-- What one STORE saves (Table STO-1): the RWS registers, the gain sets and the activated customer images, oldest first. -/
structure Stored where
  regs : SMap Word := []
  gains : SMap Word := []
  images : List Image := []
deriving DecidableEq, Repr

/-- A bank of the configuration store (Tables STO-1 and STO-2); `erased`: STORE_ERASE has written a zero MAGIC. -/
structure Bank where
  magic : Bool := false
  erased : Bool := false
  digestOk : Bool := false
  gen : Nat := 0
  writes : Nat := 0
  cfgFmt : Nat := 0
  content : Stored := {}
  cfgCheck : Nat := 0
deriving DecidableEq, Repr

/-- The key record's content: the customer key and the role keys by role (Table STO-1). -/
structure KeyRec where
  custKey : Option (List Byte) := none
  roleKeys : SMap (BitVec 256) := []
deriving DecidableEq, Repr

/-- The safety record's: the confirmed block and PROOF_AGE. -/
structure SafRec where
  spb : Option (List Byte) := none
  proofAge : Nat := 0
deriving DecidableEq, Repr

/-- The counter record's: the next signing index, MIN_SVN and the preferred firmware slot. -/
structure CntRec where
  sigIndex : Nat := 0
  minSvn : Nat := 0
  prefSlot : Nat := 0
deriving DecidableEq, Repr

/-- One copy of an alternated record (R402): whether its MAGIC matches and its DIGEST checks, GEN, WRITES, and its content. -/
structure AltCopy (α : Type) where
  content : α
  magic : Bool := false
  digestOk : Bool := false
  gen : Nat := 0
  writes : Nat := 0
deriving DecidableEq, Repr

/-- An alternated record: its copy in bank 0 and its copy in bank 1. -/
structure AltRec (α : Type) where
  copy0 : AltCopy α
  copy1 : AltCopy α
deriving DecidableEq, Repr

/-- Lasting state outside the change log (R402): the two banks, the three alternated records and the boot flash. -/
structure NvSt where
  bank0 : Bank := {}
  bank1 : Bank := {}
  keyRec : AltRec KeyRec := ⟨{ content := {} }, { content := {} }⟩
  safRec : AltRec SafRec := ⟨{ content := {} }, { content := {} }⟩
  cntRec : AltRec CntRec := ⟨{ content := {} }, { content := {} }⟩
  flash : Memory := []
deriving DecidableEq, Repr

/-- Store and security processes that are lost at reset. Tick counts are `TimeSt.ticks`. -/
structure StoSt where
  storing : Option Stored := none
  storeTick : Nat := 0
  lastDone : Option Nat := none
  chkTick : Nat := 0
  revertPend : Bool := false
  revokePend : Bool := false
  verified : SMap Bool := []
  fwVersion : Nat := 0
  images : List Image := []
  signature : List Byte := []
  lastQuote : Option Nat := none
deriving DecidableEq, Repr

/-! ### Time (16_almanac.md, 01_tick_and_data_flow.md) -/

/-- A time step (R307). -/
structure StepReq where
  absolute : Bool
  sec : Int
  ns : Int
deriving DecidableEq, Repr

/-- An accepted step: the tick count to which it belongs, and the command that waits on it (none: the firmware servo's). -/
structure StepPend where
  req : StepReq
  hdr : Option Hdr
  belongs : Nat
deriving DecidableEq, Repr

/-- An increment that belongs to the coming tick, judged in that tick's mode (R304); its command, if one waits, and opcode. -/
structure IncReq where
  inc : Nat
  wait : Option (Hdr × Nat)
deriving DecidableEq, Repr

/-- An entry of a transmit time-stamp queue (R312). -/
structure Stamp where
  seqId : Nat
  msgType : Nat
  sec : Nat
  ns : Nat
deriving DecidableEq, Repr

/-- Almanac and the tick. (`sec`, `ns`, `frac`) is the Almanac time at timebase cycle 0 of the tick in progress, or in
the cycle of a step after which no tick has begun (`gapTo`, the coming boundary in 2^-32 ns, R308); `cyc` counts timebase cycles from there to the present
instant; `base` counts all timebase cycles before it; `blkNext` are the register blocks whose increment only some modes admit; `incMin`,
`incMax`, `incWrites` and `incChg` are for the hour's summary (R306). -/
structure TimeSt where
  sec : Nat := 0
  ns : Nat := 0
  frac : Nat := 0
  base : Nat := 0
  cyc : Nat := 0
  gapTo : Option Nat := none
  tickNo : Nat := 0
  tickStep : Bool := false
  ticks : Nat := 0
  firstOfSlow : Bool := false
  stageLow : Option Nat := none
  incNext : List IncReq := []
  blkNext : List (Hdr × Nat × List Nat) := []
  steps : List StepPend := []
  incTick : Nat := 0
  syncTick : Nat := 0
  incMin : Nat := 16777216000
  incMax : Nat := 16777216000
  incWrites : Nat := 0
  incChg : Bool := false
  incHour : Nat := 0
  aonSec : Nat := 0
  aonOk : Bool := false
  txq : SMap (List Stamp) := []
  clockLost : Bool := false
deriving DecidableEq, Repr

/-! ### Operating modes (02_operating_modes.md) -/

/-- A mode command that has been accepted and awaits its tick (R31). -/
inductive ModeReq where
  | enterCommission
  | leaveCommission
  | energize (method : Nat)
  | deblock
  | block
  | tripReset (word : Nat)
deriving DecidableEq, Repr

/-- A mode request with the command that waits on it; `none` when a pending enable of R40 made it. -/
structure ModeCmd where
  req : ModeReq
  hdr : Option Hdr
deriving DecidableEq, Repr

/-- The blocking sequence of R35: its ramp, at tick `k` of `n`, or the valve rest with `left` ticks to run. -/
inductive BlkSeq where
  | none
  | ramp (k n : Nat)
  | rest (left : Nat)
deriving DecidableEq, Repr

/-- A pending enable (R40, R450): its opcode, its parameter (method, mask or record mask), further words where the
class needs them, and the tick of acceptance. -/
structure PendEnable where
  opcode : Nat
  param : Nat
  words : List Nat
  tick : Nat
deriving DecidableEq, Repr

/-- ENERGIZE or DEBLOCK_FORM waiting for its lanes (R33); `since` is the tick count at acceptance. -/
structure LaneWait where
  cmd : ModeCmd
  since : Nat
deriving DecidableEq, Repr

/-- Mode state beside the SYS registers. `reqNext` holds requests that belong to the coming tick, `reqTick` those of the
tick in progress; `tripNext` and `tripTick` are the trip causes likewise, `pulse` those active in that tick only, `ownLatched`
the latched causes that are this part's own (R43). `modeTick` is the tick count at which the mode began, `rtTicks` the tick's
index in RIDE-THROUGH; `faultEntry`, `recovered`, `energizeDone`, `rampEnd` are automatic causes of the tick. `revertedNow` names the
arms that R37 has reverted, `holdEnds` those of them whose revert a HOLD_STYLE write since the last frame boundary ends. `cfgValid`, `safStop`,
`safPerm`, `safTwohand`: the stored configuration is valid; the safety island's states as the tick latched them. -/
structure ModeSt where
  reqNext : List ModeCmd := []
  reqTick : List ModeCmd := []
  tripNext : Nat := 0
  tripTick : Nat := 0
  pulse : Nat := 0
  ownLatched : Nat := 0
  modeTick : Nat := 0
  blk : BlkSeq := .none
  rtTicks : Nat := 0
  faultEntry : Bool := false
  recovered : Bool := false
  energizeDone : Bool := false
  rampEnd : Bool := false
  laneWait : List LaneWait := []
  holdEnds : Nat := 0
  revertedNow : Nat := 0
  pend : SMap (Option PendEnable) := []
  cfgValid : Bool := false
  safStop : Bool := false
  safPerm : Bool := false
  safTwohand : Bool := false
deriving DecidableEq, Repr

/-! ### Sampling, integrity (03, 04, 22) -/

/-- A sample or an output with its substitution mark (R75). -/
structure Samp where
  val : Int
  sub : Bool
deriving DecidableEq, Repr

/-- What a sample reads as before any has been delivered (R421: data 0, marked substituted). -/
def noSamp : Samp := ⟨0, true⟩

/-- An edge on a TRIG pin: the pin, its direction, its timebase cycle and its instant in quarter nanoseconds, the units that have taken
it. -/
structure PinEdge where
  pin : Nat
  rising : Bool
  cycle : Nat
  at_ : Nat
  done : Nat := 0
deriving DecidableEq, Repr

/-- Events waiting for the Chronograph trigger units, taken at the next strobe (Table CHR-2), with their instants in quarter nanoseconds:
the internal events by ARG bit, tone-detector results (engine * 16 + detector), fault codes seen by ARG bit, pin edges that a filter
may still accept, the code of a mode entered; the records forced, and when last. -/
structure TrgIn where
  ev : List (Nat × Nat) := []
  tones : List (Nat × Nat) := []
  codes : List (Nat × Nat) := []
  pins : List PinEdge := []
  mode : Option (Nat × Nat) := none
  soft : Nat := 0
  softAt : Nat := 0
deriving DecidableEq, Repr

/-- Integrity monitors (R419 to R427): the injection waiting (boundary and index), the slow cycle of the last one, the
boundaries with a genuine mismatch in the tick in progress, the run of substituted ticks of each channel, whether a condition of
Table TCK-6 failed in the tick in progress, and whether a clock left its tolerance in it. -/
structure IntSt where
  inj : Option (Nat × Nat) := none
  injTick : Nat := 0
  injSlow : Option Nat := none
  mmTick : Nat := 0
  subRun : SMap Nat := []
  tiFail : Bool := false
  clkFail : Bool := false
  begun : Bool := false
  masks : SMap Nat := []
deriving DecidableEq, Repr

/-- The dwell sums of background calibration (R53). -/
structure DwellSums where
  n : Nat := 0
  ss : Int := 0
  sm : Int := 0
  sss : Int := 0
  ssm : Int := 0
deriving DecidableEq, Repr

/-- A spare converter (R52 to R58). `seg` is the position in the rotation: 0 to 2 the self-calibration frames, 3 + k the
dwell on bank index k; `frames` counts the frames of that position, `strobes` its strobes. `req` is a substitution request
(channel, automatic, strobe count at which it was made); `job` is 3 while it substitutes; `good` is the tick count since
which the release condition of R58 has held. -/
structure SpareSt where
  job : Nat := 2
  seg : Nat := 0
  frames : Nat := 0
  strobes : Nat := 0
  sums : DwellSums := {}
  run : Nat := 0
  conv : Nat := 0
  req : Option (Nat × Bool × Nat) := none
  good : Nat := 0
  release : Bool := false
  modeDue : Bool := false
  ofs : Int := 0
  gain : Int := 0x4000
deriving DecidableEq, Repr

/-- The fast channels (R45 to R58). `raw` and `cor` hold the main results of the strobe in progress, `spareCor` those of
the spares, `ready` the converters (0 to 31 main, 32 and 33 spares) that have finished it, `lost` those of them without
a result, `sat` those whose result saturated, `outSat` the channels whose delivered value did (R45), `handed` the banks whose bundle has
been handed over, `at_` the nominal instant of the strobe in quarter nanoseconds.
`calDue` holds the coefficients that fall due, those of the spares as 32 and 33. -/
structure FchSt where
  strobe : Nat := 0
  strobes : Nat := 0
  at_ : Nat := 0
  ready : Nat := 0
  lost : Nat := 0
  sat : Nat := 0
  outSat : Nat := 0
  handed : Nat := 0
  raw : SMap Int := []
  cor : SMap Int := []
  spareCor : SMap Int := []
  out : SMap Samp := []
  good : SMap Int := []
  spare : SMap SpareSt := []
  calDue : SMap (Option (Int × Int)) := []
  calHost : Nat := 0
  settle : Option Nat := none
deriving DecidableEq, Repr

/-- A housekeeping converter (R59 to R66): the entry converting (injected, number) and its start in half timebase cycles since reset
(a modulator clock is 125 of them), the regular entry at which the sequence goes on, whether it waits for a slow-cycle boundary, and
its newest HK31 result with the tick count. -/
structure HkcSt where
  cur : Option (Bool × Nat) := none
  start : Nat := 0
  resume : Option Nat := none
  waits : Bool := false
  hk31 : Option (Nat × Nat) := none
deriving DecidableEq, Repr

/-- The active copy of a user set (R72, R73). -/
structure UserSet where
  coefs : List Int := []
  damaged : Bool := false
deriving DecidableEq, Repr

/-- What a tone detector reports (R76, R77), with the tick count of its last input. -/
structure ToneRep where
  mag2 : Nat
  phase : Nat
  sat : Bool
  tick : Nat
deriving DecidableEq, Repr

/-- A tone detector: whether a block runs, its inputs so far and its sums; a block done and not yet reported; the PH
word captured by a read of MAG2. -/
structure ToneSt where
  run : Bool := false
  n : Nat := 0
  re : Int := 0
  im : Int := 0
  sat : Bool := false
  done : Option ToneRep := none
  cap : Option Word := none
  restart : Bool := false
deriving DecidableEq, Repr

/-- The Sieve (R67 to R78): the samples of each channel, newest first (128 and those taken since the control strobe); the
bundles each bank has handed over in the tick; the outputs of the tick, the recorder ones also by evaluation (32 * evaluation + channel);
the channels whose newest control and recorder
output saturated; the active user sets; the sets damaged in this tick; the detectors by engine * 16 + detector. -/
structure SieveSt where
  hist : SMap (List Samp) := []
  ctl : SMap Samp := []
  recOut : SMap Samp := []
  recBy : SMap Samp := []
  ctlSat : Nat := 0
  recSat : Nat := 0
  taken : SMap Nat := []
  user : SMap UserSet := []
  hurt : Nat := 0
  tone : SMap ToneSt := []
deriving DecidableEq, Repr

/-! ### Loop Engines (05_loop_engines.md) -/

/-- A declared task: its declaration; a run due in the present period, an earlier period's run awaiting its deadline; the
run in progress or ended, its buffered writes, and its committed output words (word address, word) awaiting release. -/
structure TaskSt where
  decl : Option TaskDecl := none
  due : Bool := false
  isOver : Bool := false
  started : Bool := false
  lost : Bool := false
  ended : Bool := false
  stateW : List (Nat × Nat) := []
  kernW : List (Nat × Int) := []
  out : List (Nat × Nat) := []
deriving DecidableEq, Repr

/-- An injection point (R96): the generator engine it is bound to and its signal; those of a start that falls due at the frame
boundary; a stop that falls due. -/
structure InjSt where
  gen : Nat := 22
  signal : Option InjGen := none
  next : Option (Nat × InjGen) := none
  stopDue : Bool := false
deriving DecidableEq, Repr

/-- A Loop Engine: state memory by word, scratch memory by word as written since it was last lost, that loss, the accumulators (rate * 4 +
number), program memory, the customer image part that runs on it, gain sets (set * 64 + gain), gain sets waiting for the frame
boundary, injection points, and the Region Selector's inputs as read last. -/
structure EngSt where
  dmem : SMap Nat := []
  scratch : SMap (Option Nat) := []
  lostAt : Option Nat := none
  acc : SMap Int := []
  code : List Byte := []
  part : Option EngineDecl := none
  gains : SMap Nat := []
  gainDue : SMap (Option (List Nat)) := []
  inj : SMap InjSt := []
  rin : SMap Int := []
deriving DecidableEq, Repr

/-- The derived constants of Table GFL-6, with AZU and AZD of R132 and ACH of R146. -/
structure KConst where
  gh : Int := 0
  gr : Int := 0
  gd : Int := 0
  ad : Int := 0
  ap : Int := 0
  aq : Int := 0
  gth : Int := 0
  gq : Int := 0
  av : Int := 0
  g1 : Int := 0
  g2 : Int := 0
  xlc : Int := 0
  kpc : Int := 0
  kic : Int := 0
  kpcc : Int := 0
  kicc : Int := 0
  krc : Int := 0
  kad : Int := 0
  kt : Int := 0
  kh : Int := 0
  kv : Int := 0
  kit : Int := 0
  kidc : Int := 0
  azu : Int := 0
  azd : Int := 0
  ach : Int := 0
deriving DecidableEq, Repr

/-- A ramped constant (R123): its value as the ramp began, its target, and the steps taken of 16 (16: at rest). -/
structure KRamp where
  old : Int := 0
  target : Int := 0
  step : Nat := 16
deriving DecidableEq, Repr

/-- The constants and ramps that LE7 holds: in force, and computed for the next frame. The ramps are those of GR, GQ, G1,
G2 in this order. -/
structure KParam where
  force : KConst := {}
  next : Option KConst := none
  ramps : List KRamp := [{}, {}, {}, {}]
deriving DecidableEq, Repr

/-- A rotation onto a spare (R100): the engine it moves, its phase by Table LPE-9 (0: none), SHADOW_M1; whether the copy is complete,
the shadow frames left, whether the last of them has run; whether the spare tests itself after the return. -/
structure RotSt where
  src : Nat := 0
  phase : Nat := 0
  shadow : Nat := 0
  copied : Bool := false
  left : Nat := 0
  shadowed : Bool := false
  test : Bool := false
deriving DecidableEq, Repr

/-- The Loop Engine cluster. `place` gives the physical engine of a moved engine's tasks; `imgBuf` holds an image being
loaded, `imgReady` a verified one, `imgDue` those that an accepted activation loads at the frame boundary, in order; `degTick` the tick count of the last declaration of R90; `rots` the rotations by spare, `shown` the
spare of the one commanded last. `kern` holds the kernel's state variables, `kpar` its
constants, `frameX` the
Exchange RAM as the first tick of the frame latched it, `frameSlots` the slot registers at that tick, `seqIn` as the last Sequencer latch did, `words` the kernel words of
the last completed tick, `entries` the tick counts of the entries to RIDE-THROUGH, `scanAt` the byte address of the newest bin records in
the state memory of LE22 (R354). -/
structure ClusterSt where
  engines : SMap EngSt := []
  tasks : SMap TaskSt := []
  place : SMap (Option Nat) := []
  imgBuf : Memory := []
  imgReady : Option Image := none
  imgDue : List Image := []
  degTick : Nat := 0
  rots : SMap RotSt := []
  shown : Nat := 0
  kern : SMap Int := []
  kpar : KParam := {}
  seqIn : SMap Nat := []
  frameX : SMap Nat := []
  frameSlots : SMap Word := []
  words : List Nat := []
  entries : List Nat := []
  scanAt : Option Nat := none
deriving DecidableEq, Repr


/-! ### Set-point ramps and the shape table (09_setpoint_ramps.md) -/

/-- A move (R166): its target and cap; whether it is a stop; whether it is marked OVERRUN. -/
structure RampMove where
  target : Int
  vcap : Nat
  stop : Bool := false
  isOver : Bool := false
deriving DecidableEq, Repr

/-- A move command that belongs to the coming tick. -/
inductive RampCmd where
  | move (m : RampMove)
  | replace (m : RampMove)
  | stop
deriving DecidableEq, Repr

/-- A ramp channel: value P, rate V and acceleration A in the units of Table RMP-2; the timebase cycle at which the next step
falls; PHASE; the queue, current move first; the commands of the coming tick; the task target taken last, and one taken that
belongs to the coming tick; the DMAX in force. -/
structure RampSt where
  p : Int := 0
  v : Int := 0
  a : Int := 0
  due : Option Nat := none
  phase : Nat := 0
  queue : List RampMove := []
  next : List RampCmd := []
  task : Option Int := none
  dmax : Nat := 0x1197A
deriving DecidableEq, Repr

/-! ### Valve Sequencer and Thresher (10_valve_sequencer.md) -/

/-- A checked uplink frame that a lane keeps (R184): its tick number, the tick count in which it arrived, and its 96 slot
reports of 48 bits. -/
structure Kept where
  tick : Nat
  arrived : Nat
  reports : List Nat
deriving DecidableEq, Repr

/-- What the Sequencer did with an arm in its last tick. -/
inductive ArmWork where
  | block
  | hold
  | charge
  | switch
deriving DecidableEq, Repr

/-- An arm (R184 to R195): its arm set by slot, the tick of that set, the lanes it came from, its age; the run of equal sequence numbers of a slot; ORD
as slot numbers (empty: the identity); S in order of entry; the sign of the last reference; the ROT pointer; the slot of the
fractional role with its ticks; the work of the last tick; the timed transitions (slot, t1, command, t2); the count of this
tick; the number of the tick that the arm set in hand is of, a step of time since or not. -/
structure ArmSt where
  set : SMap Nat := []
  setTick : Option Nat := none
  lanes : List Nat := []
  formed : Bool := false
  age : Nat := 255
  stall : SMap Nat := []
  ord : List Nat := []
  sel : List Nat := []
  pos : Bool := true
  ptr : Nat := 0
  frac : Option (Nat × Nat) := none
  work : ArmWork := .block
  timed : Option (Nat × Nat × Nat × Nat) := none
  n : Int := 0
  ofTick : Nat := 0
deriving DecidableEq, Repr

/-- The Valve Sequencer: its arms; the frames each lane keeps, newest first; the slots (arm, slot) that the host has excluded
and restored for the coming tick; the slots that rejoin in this one; the slots whose TYPE has been written since the last tick
boundary, with their words before it; the tick count of the last time step and the number of the tick that it ended; the tick count
from which a slot that has never had a type counts DWELL_CNT; the arms for which a boundary-4 bundle was replaced in the tick in progress,
and in the tick before, from whose frames this tick's sets are formed (R421). -/
structure VsqSt where
  arms : SMap ArmSt := []
  kept : SMap (List Kept) := []
  excl : List (Nat × Nat) := []
  back : List (Nat × Nat) := []
  rejoin : List (Nat × Nat) := []
  retyped : List ((Nat × Nat) × Word) := []
  stepAt : Nat := 0
  lastOld : Nat := 0
  emptyFrom : Int := 0
  subIn : Nat := 0
  subSet : Nat := 0
deriving DecidableEq, Repr

/-! ### Sheaf lanes and hubs (11_sheaf_lanes.md, 12_sheaf_frames.md) -/

/-- What a lane carries from one launch point to the next: nothing (differential zero), a burst with training markers and
fill, or a marker with its payload block of 11,264 bits. -/
inductive LaneFrame where
  | zero
  | training (marker : Nat)
  | payload (marker block : Nat)
deriving DecidableEq, Repr

/-- One side of a lane's bulk subchannel (R243 to R246): the session bits, the transmit window and the peer's values, the
ticks for which NEXT_p has not moved, the messages to send (oldest first) with the acknowledged cells of the first, the cells from
`una` on that have been sent at least once, the next cell expected, the data bytes of the message being received, and complete messages not yet taken. -/
structure BulkSt where
  ses : Bool := false
  peerSes : Option Bool := none
  una : Nat := 0
  nxt : Nat := 0
  peerNext : Nat := 0
  peerCredit : Nat := 0
  stuck : Nat := 0
  out : List (List Byte) := []
  acked : Nat := 0
  high : Nat := 0
  next : Nat := 0
  rx : Option (List Byte) := none
  msgs : List (List Byte) := []
deriving DecidableEq, Repr

/-- A lane: consecutive good markers while unlocked and bad ones while locked; the TICK of the last accepted marker; round-trip
samples less turnaround, newest first; D in force and, on a Granary lane, lock; the tick counts at which the bring-up began, to
which idle entry and exit belong, at which the transmitter was enabled, the burst sent and the entry completed; whether the lane
goes to OFF after its entry, has a deferred exit, measures again after its exit, enters idle after its exit, owes a burst after a
time step; the tick count of the last usable frame and its header; the last IDENT and the accepted CFG_SEQ; whether a LANE_BRINGUP
of the coming tick names the lane; the markers launched, newest first: TICK[7:0] and the instant of the first sync bit in quarter UI of
the timebase's count; the UI of the frame in progress from which on it is fill (R224); whether it goes to OFF with the coming tick;
the level of the LOS pin before its filter, the cycle of its last change, and the level accepted (R443). -/
structure LaneSt where
  up : Bool := false
  offDue : Bool := false
  losRaw : Bool := false
  losAt : Nat := 0
  los : Bool := false
  launched : List (Nat × Nat) := []
  fillFrom : Option Nat := none
  good : Nat := 0
  bad : Nat := 0
  lastTick : Option Nat := none
  oldNum : Bool := false
  samples : List Int := []
  comp : Option Nat := none
  grLock : Bool := false
  since : Option Nat := none
  entryAt : Option Nat := none
  exitAt : Option Nat := none
  txAt : Option Nat := none
  burstAt : Option Nat := none
  idleSince : Option Nat := none
  toOff : Bool := false
  exitPend : Bool := false
  retrain : Bool := false
  idleAfter : Bool := false
  burst : Bool := false
  sentFirst : Bool := false
  usable : Option Nat := none
  header : Nat := 0
  ident : Option (Nat × Nat × Nat) := none
  ackSeq : Option Nat := none
  bulk : BulkSt := {}
  sent : LaneFrame := .zero
deriving DecidableEq, Repr

/-- Sheaf state beside the registers: the lanes (48 and 49: Granary); the Sequencer's results as released, by lane (96 slot
commands and transition words); whether the lane clock runs. -/
structure SheafSt where
  lanes : SMap LaneSt := []
  cmds : SMap (List Nat) := []
  trans : SMap (List Nat) := []
  clock : Bool := true
deriving DecidableEq, Repr

/-! ### Local Stage (13_local_stage.md, 14_switch_protection.md) -/

/-- A leg's internal outputs: upper and lower command, slow turn-off. -/
structure LegOut where
  gu : Bool := false
  gl : Bool := false
  soft : Bool := false
deriving DecidableEq, Repr

/-- A leg (R254 to R260): the timebase cycle up to which it has been computed; counter, prescale count, direction; active values
(period, prescale, compare as loaded and as clamped, direct commands, dead time, refresh settings); the off times, the lock, the
period number; the cycles of the last rises of the commands and of the last reload; which of PER and CMP were written since it and
which it loaded; whether a commit waits (1: the whole set, 2: compare values of a source); outputs now and one and two cycles
ago; the cycle at which SOFT or REST ends; whether SOFT is entered in the next cycle; an enable or a disable of the coming tick; whether
a debug halt holds its SOFT or REST. -/
structure LegSt where
  at_ : Nat := 0
  c : Nat := 0
  k : Nat := 0
  up : Bool := true
  per : Nat := 31999
  psc : Nat := 1
  cmpB : Nat := 0
  cmp : Nat := 0
  du : Bool := false
  dl : Bool := false
  dt : Nat := 256
  bootMin : Nat := 128
  bootN : Nat := 1
  ou : Nat := 1024
  ol : Nat := 1024
  lock : Bool := false
  period : Nat := 0
  riseU : Nat := 0
  riseL : Nat := 0
  reloadAt : Option Nat := none
  wPer : Bool := false
  wCmp : Bool := false
  lPer : Bool := false
  lCmp : Bool := false
  cmt : Nat := 0
  out : LegOut := {}
  out1 : LegOut := {}
  out2 : LegOut := {}
  due : Option Nat := none
  softNext : Bool := false
  enNext : Bool := false
  disNext : Bool := false
  held : Bool := false
deriving DecidableEq, Repr

/-- The Local Stage beside its registers: the legs, the filtered levels of EVT0 to EVT7, the cycle at which a debug halt began,
whether the asynchronous path of R264 holds the pins, and for each switch that SWP_CLEAR has cleared the cycle with the status word
that it had. -/
structure LstSt where
  legs : SMap LegSt := []
  evt : Nat := 0
  halt : Option Nat := none
  asyncSafe : Bool := false
  cleared : SMap (Nat × Word) := []
deriving DecidableEq, Repr
/-! ### Twins and Reeve (15_twin_and_reeve.md) -/

/-- A Granary header (Table TWN-4). -/
structure GrHeader where
  seg : Nat
  mode : Nat
  act : Bool
  twin : Nat
  healthy : Bool
  degraded : Bool
  tripFwd : Bool
  swReq : Bool
  data : Bool
  words : Nat
  snapTick : Nat
deriving DecidableEq, Repr

/-- What the path test has counted for a lane (R299). -/
structure PathCount where
  usable : Nat := 0
  unusable : Nat := 0
  obeyedBad : Nat := 0
  lockGaps : Nat := 0
  idMatch : Bool := false
deriving DecidableEq, Repr

/-- A path test in progress (R299) with its command; `endTick` is the tick count at which its duration has elapsed. -/
structure PathTest where
  hdr : Hdr
  lanes : Nat
  endTick : Nat
  counts : SMap PathCount := []
deriving DecidableEq, Repr

/-- A snapshot of mirror items (R285): the tick it describes, and the items by number. -/
structure Snap where
  tick : Nat
  items : List (Nat × List Int)
deriving DecidableEq, Repr

/-- Twin state (R278 to R300). `edge` is the cycle of the last ACTIVE_IN edge; `roleNext` the role of the last code recognised;
`roleSince` the tick count at which the role in force began. `peer` is the last header accepted, `gotHdr` says that the tick in
progress brought one, `peerActRun` counts the consecutive ticks in which it claimed ACT. `segs` holds the Granary segments of the
frame in progress that arrived (2 * SEG + lane - 48, with SNAP_TICK), `staged` their items, `snapF` and `snapT` the own
snapshots. `missRun` counts missed boundaries, `grace` exempts the next. `tripFwd` counts the ticks in which headers still carry
TRIP_FWD; `health` is the word that HEALTH_OUT sends in the tick, `hbRun` says that HB_OUT toggles in it, `released` that the frame
release came in time, `watchdog` that the management core runs, `served` the tick count at which it last served its watchdog; `tripOwn`: TRIPPED was reached as STANDBY by own
causes; `cfgDiffer`: the last STATUS segment differed. -/
structure TwinSt where
  edge : Option Nat := none
  roleNext : Bool := false
  roleSince : Nat := 0
  peer : Option GrHeader := none
  gotHdr : Bool := false
  peerActRun : Nat := 0
  segs : List (Nat × Nat) := []
  staged : List (Nat × List Int) := []
  snapF : Option Snap := none
  snapT : Option Snap := none
  sent : Option (Nat × Nat × GrData) := none
  missRun : Nat := 0
  grace : Bool := true
  tripFwd : Nat := 0
  swReqTick : Option Nat := none
  health : Nat := 0
  hbRun : Bool := false
  released : Bool := false
  watchdog : Bool := true
  served : Nat := 0
  tripOwn : Bool := false
  cfgDiffer : Bool := false
  path : List PathTest := []
deriving DecidableEq, Repr

/-- What the Reeve has of one twin: its newest accepted word; for the last ticks, newest first, the word accepted and whether that was
the third tick or a later one without any (R293); the consecutive ticks without an accepted word; the word accepted in the tick in progress. -/
structure ReeveInput where
  newest : Option Nat := none
  past : List (Option Nat × Bool) := []
  missed : Nat := 0
  got : Option Nat := none
deriving DecidableEq, Repr

/-- The Reeve (R293 to R296): a forced twin; the tick count of the last switch that HOLDOFF counts from; the consecutive ticks in
which both twins claimed ACTIVE; the grant in force before the decision of the tick (0 none, 1 A, 2 B); a first grant due at the next tick. -/
structure ReeveSt where
  a : ReeveInput := {}
  b : ReeveInput := {}
  forced : Option Nat := none
  switched : Option Nat := none
  conflictRun : Nat := 0
  was : Nat := 0
  firstDue : Bool := false
deriving DecidableEq, Repr

/-! ### Orrery (17_orrery_and_crossings.md) -/

/-- Clock synthesis beside its registers: configuration writes that wait for a loop, and the cycle in which each may come into force
(R321); the tick count at which each band search ends (R320); whether the last register of the user profile has been written since the
last exchange, whether the spread generator runs (R324); by clock output, the setting that it keeps after a change of SRC or DIV_M1, and
the cycle from which the clocks among both are low (R328). -/
structure OrySt where
  pend : SMap (Option Word) := []
  rest : SMap Nat := []
  search : SMap Nat := []
  profDue : Bool := false
  sscRuns : Bool := false
  out : SMap (Option (Word × Nat)) := []
deriving DecidableEq, Repr
/-! ### Chronograph (18_chronograph.md); instants are in quarter nanoseconds of Almanac time -/

/-- A trigger unit (R336): its samples, newest first, as far as RATE needs them; whether the input has been at or below LO, at
or above HI, since the last edge; the instant at which it became true. -/
structure TrgUnit where
  xs : List Int := []
  low : Bool := false
  high : Bool := false
  since : Nat := 0
deriving DecidableEq, Repr

/-- An instant in hand (R335, R337): its time, its tick count, its marks ([0] substituted, [1] saturated, [2] dropped), its
bytes. -/
structure Inst where
  time : Nat
  tick : Nat
  marks : Nat
  bytes : List Byte
deriving DecidableEq, Repr

/-- An open segment (R338, R341): the trigger instant and its tick number, the units true, the header flags SYNC and FORCED, the
POST instants stored or dropped so far, the marks of all its instants, the tick count of its first, its gap, and the instants from T on
that had been dropped before it opened. -/
structure Seg where
  time : Nat
  tick : Nat
  units : Nat
  flags : Nat
  post : Nat := 0
  marks : Nat := 0
  first : Nat := 0
  gapFirst : Option Int := none
  gaps : Nat := 0
  early : Nat := 0
deriving DecidableEq, Repr

/-- A record (R338 to R340): whether it is to be armed at the next strobe; the instant from which a trigger counts, and whether it has
armed itself again since its last segment; the slot and
the segment number to be filled next; the instants in hand, oldest first; the number of instants written to the ring since it
was armed, and the marks and tick counts of those in it, newest first; the open segment; whether its trigger condition held at the last
evaluation; the cycle at which its rest time ends. -/
structure RecSt where
  due : Bool := false
  from_ : Nat := 0
  again : Bool := false
  slot : Nat := 0
  segno : Nat := 0
  hand : List Inst := []
  count : Nat := 0
  ring : List (Nat × Nat) := []
  seg : Option Seg := none
  cond : Bool := false
  rest : Nat := 0
deriving DecidableEq, Repr

/-- The cross-spectrum unit (R352 to R354): whether the run waits for its first frame boundary; whether the linked injection
point has run; the inputs of the block so far; its sums by bin and signal (real, imaginary); the sums of a block that has ended; the accumulators by bin (G_UU, then G_UY real and
imaginary and G_YY of each response); where the records wait to be copied to (engine, byte address in its state memory). -/
structure XspSt where
  waits : Bool := false
  ran : Bool := false
  n : Nat := 0
  sums : List (List (Int × Int)) := []
  sub : Bool := false
  ended : Option (List (List (Int × Int))) := none
  acc : List (List Int) := []
  copy : Option (Nat × Nat) := none
deriving DecidableEq, Repr

/-- An access to capture memory that a command has made: bytes from an address on, one more count in a 32-bit cell, a range zeroed. -/
inductive CapOp where
  | put (addr : Nat) (bytes : List Byte)
  | count (addr : Nat)
  | zero (addr len : Nat)
deriving DecidableEq, Repr

/-- The Chronograph beside its registers: units; records; paths with a new instant and its time, to be taken at the next strobe; the words
of CHR_LEVj as read at cycle 221; histograms (bit 0 to 15) and map (bit 16) to be zeroed at the next strobe; CHR_SYNC_ARM; the DDR
clock; whether the DDR is in self-refresh (R322); whether DDR-bound instants are being dropped; the tick count of the newest tick without
TI_NOW; self-tests run; accesses to capture memory not yet made (between commands: those to the DDR that wait for the end of its
self-refresh). -/
structure ChrSt where
  units : SMap TrgUnit := []
  recs : SMap RecSt := []
  news : List (Nat × Nat) := []
  lev : List Int := []
  clr : Nat := 0
  syncArm : Bool := false
  ddrLost : Bool := false
  stall : Bool := false
  dropping : Bool := false
  tiBad : Option Nat := none
  xsp : XspSt := {}
  tests : Nat := 0
  acc : List CapOp := []
deriving DecidableEq, Repr

/-! ### Safety island (19_personnel_safety.md); its times are in evaluations of 100 us -/

/-- An input contact (R359): the level observed last, the evaluations for which it has held, the level accepted. -/
structure SafChan where
  raw : Bool := false
  held : Nat := 0
  level : Bool := false
deriving DecidableEq, Repr

/-- A safety input (R360): its contacts; the evaluations for which it has read MIXED, and for which it has read ON; whether both
contacts have shown the OFF pattern since its fault; the length of the ON pulse that ended in the last evaluation, 0 for none. -/
structure SafIn where
  a : SafChan := {}
  b : SafChan := {}
  mixed : Nat := 0
  on : Nat := 0
  offSeen : Bool := false
  pulse : Nat := 0
deriving DecidableEq, Repr

/-- A safety function (R361 to R365): whether its demand stands; whether it permits; the evaluations since its demand began and, once
its stop has completed, since then; whether its stop has completed; a reset held as pending; for TWOHAND, armed, and the
evaluations since the first input left OFF. -/
structure SafFn where
  demand : Bool := true
  permit : Bool := false
  since : Nat := 0
  stopped : Bool := true
  reset : Bool := false
  armed : Bool := false
  started : Option Nat := none
deriving DecidableEq, Repr

/-- The safety island: the block in force (256 bytes), one that awaits confirmation, one that is applied at the next evaluation; inputs
and functions; outputs energised, and the evaluation at which each changed; evaluations made, and those made when the block in force came
into force; evaluations in a row in which X and Y
disagreed; whether the power-up self-test has passed; whether a proof test runs. -/
structure SafSt where
  spb : Option (List Byte) := none
  pend : Option (List Byte) := none
  apply : Bool := false
  ins : SMap SafIn := []
  fns : SMap SafFn := []
  outs : Nat := 0
  changed : SMap Nat := []
  evals : Nat := 0
  begun : Nat := 0
  apart : Nat := 0
  ready : Bool := false
  proof : Bool := false
deriving DecidableEq, Repr

/-! ### Network, telemetry (16, 20) -/

/-- A frame handed to a station port (R311): its bytes without FCS, the stamping request, the ingress time of its Pdelay_Req
(seconds, nanoseconds), the command that waits. -/
structure TxFrame where
  frame : List Byte
  request : Nat
  insec : Nat
  inns : Nat
  hdr : Hdr
deriving DecidableEq, Repr

/-- A frame written to host memory (R391): the descriptor's index, its words 2 and 4 to 6, the buffer's bytes. -/
structure RxWrite where
  index : Nat
  words : List Nat
  bytes : List Byte
deriving DecidableEq, Repr

/-- A sampled-value stream (R395): the samples seen, as (second, smpCnt), newest first; the nominal instant of the newest one
used. -/
structure SvSt where
  seen : List (Nat × Nat) := []
  newest : Option (Nat × Nat) := none
deriving DecidableEq, Repr

/-- A GOOSE subscription (R396): (stNum, sqNum) of the last message taken, the timebase cycle count at which it was, its
timeAllowedToLive in ms. -/
structure GooseSt where
  last : Option (Nat × Nat) := none
  at_ : Nat := 0
  ttl : Nat := 0
deriving DecidableEq, Repr

/-- A telemetry configuration (R390): ring base, record count, rate (0 TICK, 1 FRAME, 2 SLOW), decimation, words. -/
structure Telem where
  base : Nat
  count : Nat
  rate : Nat
  decim : Nat
  words : List (Nat × Nat)
deriving DecidableEq, Repr

/-- The station ports and the rings: frames waiting by port, the last frame sent by each, the next PRP sequence number; the receive ring
(base, count, Ethertypes) and the last write to it; streams and subscriptions; the telemetry configuration and the tick count of its
first frame, the one that starts at the frame boundary, the record sequence, the records due (bytes 0 to 7 and the words of each), the
last record written (its address and bytes). -/
structure NetSt where
  tx : SMap (List TxFrame) := []
  txLast : SMap (List Byte) := []
  prp : Nat := 0
  rxBase : Nat := 0
  rxCount : Nat := 0
  rxTypes : List Nat := []
  rxLast : Option RxWrite := none
  sv : SMap SvSt := []
  goose : SMap GooseSt := []
  telem : Option Telem := none
  telemNext : Option (Option Telem) := none
  telStart : Nat := 0
  telSeq : Nat := 0
  telDue : List (List Byte) := []
  telLast : Option (Nat × List Byte) := none
deriving DecidableEq, Repr

/-! ### Supplies (23_supplies_pins_package.md) -/

/-- The supervisor: rails above their thresholds; the hold of R434 and that for VDD_AON; an analogue rail held too long; the
thermal reset; the comparator senses more than 115 °C. -/
structure PwrSt where
  up : Nat := 255
  hold : Bool := false
  holdAon : Bool := false
  anaHold : Bool := false
  hot : Bool := false
  warm : Bool := false
deriving DecidableEq, Repr

/-- Everything in the part except its queue of waiting commands and the Chronograph capture memory. -/
structure Hw where
  regs : SMap Word := []
  strapReeve : Bool := false
  strapTwinB : Bool := false
  strapRef : Nat := 1
  time : TimeSt := {}
  cmd : CmdSt := {}
  log : LogSt := {}
  nv : NvSt := {}
  sto : StoSt := {}
  ops : ModeSt := {}
  twin : TwinSt := {}
  reeve : ReeveSt := {}
  xarr : SMap Nat := []
  xin : SMap Nat := []
  live : SMap Word := []
  staged : SMap Word := []
  xram : SMap Nat := []
  trg : TrgIn := {}
  int : IntSt := {}
  fch : FchSt := {}
  hkc : SMap HkcSt := []
  sieve : SieveSt := {}
  le : ClusterSt := {}
  ramp : SMap RampSt := []
  vsq : VsqSt := {}
  shf : SheafSt := {}
  lst : LstSt := {}
  ory : OrySt := {}
  chr : ChrSt := {}
  saf : SafSt := {}
  net : NetSt := {}
  pwr : PwrSt := {}
  inReset : Bool := true
  free : Nat := 0
deriving DecidableEq, Repr

/-- The state of the block: the commands that wait, first in first out; the part; the Chronograph capture memory
(the on-chip SRAM at 0x3000_0000 and the DDR, keyed as `captureSram` and `captureDdr` say). -/
structure State where
  pending : List Instr
  hw : Hw
  capture : Memory
deriving DecidableEq, Repr

/-- Why the machine would stop with a fault: never. Every command of the table either has its effect or is answered
with a status by its reply (safe: the type is empty, so no fault can be proved or assumed). -/
inductive Fault where
deriving DecidableEq, Repr

/-- Why a command has no meaning. -/
inductive Refusal where
  /-- Raised by an arm of `exec` whose command has not been modelled (safe: the machine stops). -/
  | notModelled (mnemonic : String)
deriving DecidableEq, Repr

/-- The part after power-up, while internal reset is still asserted and every reset condition has ended, with blank lasting state: every
register at its reset value (an unlisted one reads so) but for SYS_RSTCAUSE, where the rise of VDD_AON has set POR (Table PKG-12); no
command waiting, nothing listed in any memory. -/
def State.reset : State := { pending := [], hw := { regs := [(0x20000080, 0x8000#32)] }, capture := [] }

end Sys2Proof.Machine
end

