-- ==== Sys2Proof/Machine/Ops.lean ====
section
/-! DEFINITION. The named operations over sparse maps, memories, registers and fields, and the free values. -/

namespace Sys2Proof.Machine

/-! ### Sparse maps -/

/-- The entry of key `k`, or `d` where `k` is not listed. -/
def smapGet {β : Type} (d : β) : SMap β → Nat → β
  | [], _ => d
  | (a, v) :: m, k => if a = k then v else smapGet d m k

/-- `m` without key `k`. -/
def smapErase {β : Type} (m : SMap β) (k : Nat) : SMap β := m.filter (fun p => !(p.1 == k))

/-- `m` with (k, v) put in before the first larger key. -/
def smapInsert {β : Type} (m : SMap β) (k : Nat) (v : β) : SMap β :=
  match m with
  | [] => [(k, v)]
  | p :: r => if k < p.1 then (k, v) :: p :: r else p :: smapInsert r k v

/-- `m` with key `k` at `v`; no entry is kept where `v` is what `k` reads as unlisted. -/
def smapSet {β : Type} [DecidableEq β] (d : β) (m : SMap β) (k : Nat) (v : β) : SMap β :=
  if v = d then smapErase m k else smapInsert (smapErase m k) k v

/-- Keys strictly rising. -/
def smapSorted {β : Type} : SMap β → Bool
  | [] => true
  | [_] => true
  | p :: q :: r => decide (p.1 < q.1) && smapSorted (q :: r)

/-- The canonical form of a map whose unlisted key `k` reads as `d k`. -/
def smapWf {β : Type} [DecidableEq β] (d : Nat → β) (m : SMap β) : Bool :=
  smapSorted m && m.all (fun p => !decide (p.2 = d p.1))

/-! ### Byte memories -/

/-- What a byte that nothing has written reads as. DESIGN CHOICE (log entry 1): the spec gives no power-on contents. -/
def unlistedByte : Byte := 0#8

/-- The byte at `a`. -/
def memRead (m : Memory) (a : Nat) : Byte := smapGet unlistedByte m a

/-- `m` with the byte at `a` set to `v`. -/
def memWrite (m : Memory) (a : Nat) (v : Byte) : Memory := smapSet unlistedByte m a v

/-- The canonical form of a memory: addresses strictly rising, no entry equal to an unlisted byte. -/
def memWf (m : Memory) : Bool := smapWf (fun _ => unlistedByte) m

/-- `m` with the bytes `bs` written from `a` upwards. -/
def memWriteList (m : Memory) (a : Nat) : List Byte → Memory
  | [] => m
  | b :: bs => memWriteList (memWrite m a b) (a + 1) bs

/-- The `n` bytes from `a` upwards. -/
def memReadList (m : Memory) (a : Nat) : Nat → List Byte
  | 0 => []
  | n + 1 => memRead m a :: memReadList m (a + 1) n

/-- The capture memory's address of an offset in the capture SRAM, and of an offset in the DDR. -/
def captureSram (o : Nat) : Nat := o
def captureDdr (o : Nat) : Nat := 2 ^ 32 + o

/-- `m` with `n` bytes from `a` upwards at zero. -/
def memZero (m : Memory) (a n : Nat) : Memory :=
  m.filter (fun c => decide (c.1 < a) || decide (a + n ≤ c.1))

/-! ### Byte order (R374: little-endian) -/

/-- The low `n` bytes of `v`, least significant first. -/
def leBytes (n v : Nat) : List Byte :=
  match n with
  | 0 => []
  | n + 1 => BitVec.ofNat 8 v :: leBytes n (v / 256)

/-- The number that bytes spell, least significant first. -/
def leNat : List Byte → Nat
  | [] => 0
  | b :: bs => b.toNat + 256 * leNat bs

/-- The 32-bit little-endian word at `a`. -/
def memWord (m : Memory) (a : Nat) : Nat := leNat (memReadList m a 4)

/-- `m` with the low `n` bytes of `v` written little-endian at `a`. -/
def memPut (m : Memory) (a n v : Nat) : Memory := memWriteList m a (leBytes n v)

/-! ### Signed values -/

/-- The two's-complement value of the low `w` bits of `v`. -/
def signed (w v : Nat) : Int :=
  let u := v % 2 ^ w
  if u < 2 ^ (w - 1) then (u : Int) else (u : Int) - (2 ^ w : Nat)

/-- The low `w` bits of an integer, as a natural number. -/
def unsigned (w : Nat) (x : Int) : Nat := (x % ((2 ^ w : Nat) : Int)).toNat

/-- `x` held within [lo, hi]. -/
def clampInt (lo hi x : Int) : Int := if x < lo then lo else if hi < x then hi else x

/-- `x` saturated to a signed `w`-bit value. -/
def satInt (w : Nat) (x : Int) : Int := clampInt (-(2 ^ (w - 1) : Nat)) ((2 ^ (w - 1) : Nat) - 1) x

/-- `n + 1`, saturating at 2^w - 1. -/
def satInc (w n : Nat) : Nat := if n + 1 < 2 ^ w then n + 1 else 2 ^ w - 1

/-! ### Registers and fields -/

/-- The word stored for the register at `a`. -/
def Hw.reg (s : Hw) (a : Nat) : Word := smapGet (regReset a) s.regs a

/-- `s` with the register at `a` holding `v`. -/
def Hw.setReg (s : Hw) (a : Nat) (v : Word) : Hw := { s with regs := smapSet (regReset a) s.regs a v }

/-- The width of a field in bits. -/
def Fld.width (f : Fld) : Nat := f.hi + 1 - f.lo

/-- The bits of field `f` in the word `w`. -/
def Fld.of (f : Fld) (w : Word) : Nat := w.toNat / 2 ^ f.lo % 2 ^ f.width

/-- The word `w` with the bits of field `f` replaced by the low bits of `v`. -/
def Fld.into (f : Fld) (w : Word) (v : Nat) : Word :=
  BitVec.ofNat 32 (w.toNat - f.of w * 2 ^ f.lo + v % 2 ^ f.width * 2 ^ f.lo)

/-- The value of a register field. -/
def Hw.get (s : Hw) (f : Fld) : Nat := f.of (s.reg f.addr)

/-- The value of a one-bit field. -/
def Hw.flag (s : Hw) (f : Fld) : Bool := s.get f == 1

/-- The value of a field that holds a signed number. -/
def Hw.geti (s : Hw) (f : Fld) : Int := signed f.width (s.get f)

/-- `s` with a register field at `v`. -/
def Hw.put (s : Hw) (f : Fld) (v : Nat) : Hw := s.setReg f.addr (f.into (s.reg f.addr) v)

/-- `s` with a field at the low bits of an integer. -/
def Hw.puti (s : Hw) (f : Fld) (v : Int) : Hw := s.put f (unsigned f.width v)

/-- `s` with a one-bit field at `b`. -/
def Hw.putb (s : Hw) (f : Fld) (b : Bool) : Hw := s.put f (if b then 1 else 0)

/-- `s` with a flag set. -/
def Hw.raise (s : Hw) (f : Fld) : Hw := s.put f 1

/-- `s` with a saturating counter field one higher. -/
def Hw.bump (s : Hw) (f : Fld) : Hw := s.put f (satInc f.width (s.get f))

/-- Bit `k` of a number. -/
def bitOf (n k : Nat) : Bool := n / 2 ^ k % 2 == 1

/-- `n` with bit `k` set. -/
def bitSet (n k : Nat) : Nat := if bitOf n k then n else n + 2 ^ k

/-- `n` with bit `k` cleared. -/
def bitClear (n k : Nat) : Nat := if bitOf n k then n - 2 ^ k else n

/-- `s` with bit `k` of a field set. -/
def Hw.raiseBit (s : Hw) (f : Fld) (k : Nat) : Hw := s.put f (bitSet (s.get f) k)

/-- `s` with bit `k` of a field cleared. -/
def Hw.clearBit (s : Hw) (f : Fld) (k : Nat) : Hw := s.put f (bitClear (s.get f) k)

/-- The bits of `m` below `w`, ascending. -/
def bitsOf (w m : Nat) : List Nat := (List.range w).filter (bitOf m)

/-- The mask with exactly the bits of a list. -/
def maskOf (ks : List Nat) : Nat := ks.foldl bitSet 0

/-- The value of a field in a word given as a number. -/
def Fld.ofNat (f : Fld) (v : Nat) : Nat := v / 2 ^ f.lo % 2 ^ f.width

/-- The reserved bits of a register word: those that no field of its description lets software change or read. -/
def onesBelow (w : Nat) : Nat := 2 ^ w - 1

/-! ### Free values -/

/-- A value that the spec leaves open, and the state that has taken it. -/
def Hw.fresh (s : Hw) : Word × Hw := (Config.freeWord s.free, { s with free := s.free + 1 })

/-- `n` such values. -/
def Hw.freshList (s : Hw) : Nat → List Word × Hw
  | 0 => ([], s)
  | n + 1 =>
    let (w, s) := s.fresh
    let (ws, s) := s.freshList n
    (w :: ws, s)

/-! ### Folding an operation over indices -/

/-- `f` applied for each index of a list, in order. -/
def Hw.each (s : Hw) (is : List Nat) (f : Nat → Hw → Hw) : Hw := is.foldl (fun s i => f i s) s

/-- The first failing check's status. -/
def firstFail : List (Bool × Status) → Option Status
  | [] => none
  | (bad, st) :: r => if bad then some st else firstFail r

end Sys2Proof.Machine
end

