-- ==== Sys2Proof/Machine/Time.lean ====
section
/-! DEFINITION. Almanac time, ticks and the present instant (R10, R11, R17, R301). -/

namespace Sys2Proof.Machine

/-- Nanoseconds in a second. -/
def nsPerSec : Nat := 1000000000

/-- The increment in force (R304). -/
def Hw.inc (s : Hw) : Nat := s.get ALM_INCH_INCH * 2 ^ 32 + s.get ALM_INCL_INCL

/-- Almanac time in units of 2^-32 ns since second 0, at the base instant of `TimeSt`. -/
def TimeSt.baseUnits (t : TimeSt) : Nat := (t.sec * nsPerSec + t.ns) * 2 ^ 32 + t.frac

/-- (S, N, F) from a count of 2^-32 ns; S wraps modulo 2^48 (R301). -/
def splitUnits (u : Nat) : Nat × Nat × Nat :=
  (u / 2 ^ 32 / nsPerSec % 2 ^ 48, u / 2 ^ 32 % nsPerSec, u % 2 ^ 32)

/-- (S, N, F) in timebase cycle `c` after the base instant (R301); while the timebase is lost, that of the cycle in which it stopped
(R317). -/
def Hw.timeAt (s : Hw) (c : Nat) : Nat × Nat × Nat :=
  splitUnits (s.time.baseUnits + (if s.time.clockLost then s.time.cyc else c) * s.inc)

/-- (S, N, F) at the present instant. -/
def Hw.timeNow (s : Hw) : Nat × Nat × Nat := s.timeAt s.time.cyc

/-- All timebase cycles counted up to the present instant. -/
def Hw.cycles (s : Hw) : Nat := s.time.base + s.time.cyc

/-- `s` with the present instant at timebase cycle `c` of the tick in progress. -/
def Hw.atCyc (s : Hw) (c : Nat) : Hw := { s with time := { s.time with cyc := c } }

/-- Ticks begun. -/
def Hw.ticks (s : Hw) : Nat := s.time.ticks

/-- Ticks in a millisecond and in a second (Table TCK-1). -/
def ticksPerMs : Nat := 500
def ticksPerSec : Nat := 500000

/-- The tick number that (S, N) names (R11). -/
def tickNumber (sec ns : Nat) : Nat := (sec * 500000 + ns / 2000) % 2 ^ 32

/-- The first tick of a frame (R11). -/
def Hw.frameStart (s : Hw) : Bool := s.time.tickNo % 16 == 0

/-- Position of the tick in progress within its slow cycle (R11). -/
def Hw.slowPos (s : Hw) : Nat := s.time.ns % 1000000 / 2000


/-- The number of the tick to which an input completing now belongs (R17); between a step and the boundary after it, that of the
tick which begins under the new time (R308). -/
def Hw.nextTick (s : Hw) : Nat :=
  match s.time.gapTo with
  | some g => tickNumber (splitUnits g).1 (splitUnits g).2.1
  | none => (s.time.tickNo + 1) % 2 ^ 32

/-- The first tick of a frame that begins at or after the next tick boundary: the tick in which a frame-rate item accepted now
takes effect (Table TCK-5). -/
def Hw.nextFrame (s : Hw) : Nat := (s.nextTick + 15) / 16 * 16 % 2 ^ 32

/-- 2^-32 ns in a tick of 2 us. -/
def tickUnits : Nat := 2000 * 2 ^ 32

/-- Timebase cycles from the base instant to the next tick boundary: the first cycle at which Almanac time has reached it
(R11, R17). With the timebase stopped, none is defined and the nominal 512 stand. -/
def Hw.tickLen (s : Hw) : Nat :=
  if s.inc = 0 ∨ s.time.clockLost then 512
  else
    let t := s.time.baseUnits
    let target := match s.time.gapTo with
      | some g => g
      | none => (t / tickUnits + 1) * tickUnits
    (target - t + s.inc - 1) / s.inc

end Sys2Proof.Machine
end

