-- ==== Sys2Proof/Machine/Log.lean ====
section
/-! DEFINITION. The change log (R385, R415 to R417). -/

namespace Sys2Proof.Machine

/-- A change to be logged: its OBJECT, its old and new value (64 bits), and whether these are digests (Table STO-7). -/
structure Chg where
  object : Nat
  old : Nat
  new : Nat
  digest : Bool
deriving DecidableEq, Repr

/-- Slots of the change-log ring. -/
def logSlots : Nat := 65536

/-- Entries held that have not been exported (R417). -/
def LogSt.unexported (l : LogSt) : Nat := min (l.count - l.exported) logSlots

/-- The role code of Table STO-7. -/
def roleCode : Role → Nat
  | .viewer => 0
  | .operator => 1
  | .engineer => 2
  | .service => 3
  | .safetyOfficer => 4

/-- The transport code of Table STO-7 (R385). -/
def transportCode : Transport → Nat
  | .pcie => 0
  | .spi => 1
  | .udp => 2
  | .internal => 3

/-- ORIGIN of an entry (Table STO-7). -/
def logOrigin (tr : Transport) (role : Option Role) (port : Nat) : Nat :=
  transportCode tr * 2 ^ 14 + (match role with | some r => roleCode r | none => 7) * 2 ^ 11 + port % 256

/-- ORIGIN of an internal event. -/
def internalOrigin : Nat := logOrigin .internal none 0

/-- Bytes 0x00 to 0x2F of an entry (Table STO-7). -/
def LogEntry.head (e : LogEntry) : List Byte :=
  leBytes 4 e.seq ++ leBytes 4 e.tick ++ leBytes 6 e.tsec ++ leBytes 2 e.flags ++ leBytes 4 e.tns ++ leBytes 2 e.origin ++
  leBytes 2 0 ++ leBytes 4 e.session ++ leBytes 4 e.object ++ leBytes 8 e.old ++ leBytes 8 e.new

/-- The 64 bytes of an entry. -/
def LogEntry.bytes (e : LogEntry) : List Byte := e.head ++ leBytes 16 e.chain

/-- CHAIN of the newest entry; 16 zero bytes before the first (R416). -/
def LogSt.headChain (l : LogSt) : Nat :=
  if l.count = 0 then 0 else (smapGet blankLogEntry l.ring ((l.count - 1) % logSlots)).chain

/-- The change-log registers as the ring stands (Tables STO-16 and STO-18). -/
def Hw.logRegs (s : Hw) : Hw :=
  let l := s.log
  ((((s.put LOG_HEAD_HEAD ((l.count - 1) % 2 ^ 32)).put LOG_EXP_EXP_SEQ ((l.exported - 1) % 2 ^ 32)).put
    LOG_STAT_LOST (min l.lost (2 ^ 17 - 1))).putb LOG_STAT_LOG_WARN (decide (logSlots * 9 < l.unexported * 10))).putb
    LOG_STAT_REFUSING (s.flag LOG_CFG_LOG_POLICY && decide (logSlots - l.unexported < 256 + 1))

/-- One entry appended for a change that takes effect in tick `tick` (R415 to R417). -/
def Hw.logOne (s : Hw) (tick origin session : Nat) (c : Chg) : Hw :=
  let l := s.log
  let (sec, ns, _) := s.timeNow
  let isOver := decide (l.unexported = logSlots)
  let flags := (if c.digest then 1 else 0) + (if s.flag ALM_STAT_SET then 0 else 2) +
    (if s.flag ALM_STAT_TIME_INVALID then 4 else 0) + (if c.object = 0xF2000011 then 8 else 0) + (if isOver then 16 else 0)
  let e : LogEntry := ⟨l.count % 2 ^ 32, tick, sec, flags, ns, origin, session, c.object, c.old % 2 ^ 64, c.new % 2 ^ 64, 0⟩
  let e := { e with chain := Config.shake256 (leBytes 16 l.headChain ++ e.head) 128 }
  { s with log :=
      { ring := smapSet blankLogEntry l.ring (l.count % logSlots) e, count := l.count + 1, exported := l.exported,
        lost := if isOver then l.lost + 1 else l.lost } }.logRegs

/-- The parameter registers of the forming law: LFT, GFL and energization, without their status. -/
def kernelReg (a : Nat) : Bool := decide (GFL_BASE0 ≤ a) && decide (a < ENG_STAT)

/-- The registers that act from a frame boundary on (R50, R52, R71, R78, R93, R178, R200, R324, R397, R442). -/
def frameReg (a : Nat) : Bool :=
  a == FCH_SPAREn 0 || a == FCH_SPAREn 1 || (decide (FCH_CALn 0 ≤ a) && decide (a < FCH_CALn 32)) ||
  (decide (SVn_CHk 0 0 ≤ a) && decide (a < SVn_CHk 2 0)) || (decide (SVn_TDm_CFG 0 0 ≤ a) && decide (a < SVn_TDm_CFG 2 0)) ||
  (decide (LEn_STAT 0 ≤ a) && decide (0x40 ≤ a % 0x10000) && decide (a % 0x10000 < 0x200)) || a == SHAPE_CTRL ||
  (List.range 6).any (fun m => a == VSQ_ARMa_CFG m || a == VSQ_ARMa_CFG2 m) || a == ORY_SSC_CFG ||
  (decide (ORY_SSC_PROFj 0 ≤ a) && decide (a < ORY_SSC_PROFj 8)) || (decide (NET_SVs_CFG 0 ≤ a) && decide (a < NET_GOg_CFG 32)) ||
  a == SYS_IOCFG

/-- The commands that act at a frame boundary: TELEM_CFG_SET, STORE_REVERT, SIEVE_COEF_COMMIT, LE_IMAGE_ACTIVATE, LE_GAINSET_LOAD,
LE_INJ_START, SHAPE_COMMIT. -/
def frameCmds : List Nat := [0x000B, 0x0302, 0x0423, 0x0502, 0x0507, 0x0508, 0x0606]

/-- A change of one field alone. -/
def Chg.within (c : Chg) (f : Fld) : Bool :=
  c.object == f.addr && decide (c.old % 2 ^ f.lo = c.new % 2 ^ f.lo) && decide (c.old / 2 ^ (f.hi + 1) = c.new / 2 ^ (f.hi + 1))

/-- A change that takes effect with the next tick although its register acts from a frame boundary on: flags cleared, or N_RED alone
(R17, R200). -/
def Chg.atOnce (c : Chg) : Bool :=
  c.object == GFL_STAT || c.object == LFT_STAT || c.object == LFT_KCAUSE || (List.range 6).any fun a => c.within (VSQ_ARMa_CFG_N_RED a)

/-- The tick in which a change accepted now takes effect (R17, R28, R123); HOLD_STYLE alone acts from a frame boundary on (R36). -/
def Hw.effectOf (s : Hw) (c : Chg) : Nat :=
  if c.atOnce then s.nextTick
  else if kernelReg c.object then (s.nextFrame + 16) % 2 ^ 32
  else if frameReg c.object || frameCmds.contains (c.object - 0xF1000000) || c.within SYS_MODECFG_HOLD_STYLE then s.nextFrame
  else s.nextTick

/-- The entries of a list of changes, in order, each with the tick in which it takes effect. -/
def Hw.logAll (s : Hw) (tick : Chg → Nat) (origin session : Nat) : List Chg → Hw
  | [] => s
  | c :: cs => (s.logOne (tick c) origin session c).logAll tick origin session cs

/-- An entry for an internal event of the tick in progress (Table STO-6). -/
def Hw.logInternal (s : Hw) (object old new : Nat) : Hw :=
  s.logOne s.time.tickNo internalOrigin 0 ⟨object, old, new, false⟩

/-- Whether the policy refuses `n` more entries of host origin (R417). -/
def Hw.logRefuses (s : Hw) (n : Nat) : Bool :=
  s.flag LOG_CFG_LOG_POLICY && decide (logSlots - s.log.unexported < 256 + n)

/-- The change of the register at `a` between two states, if there is one (R415). -/
def regChg (s t : Hw) (a : Nat) : List Chg :=
  if s.reg a = t.reg a then [] else [⟨a, (s.reg a).toNat, (t.reg a).toNat, false⟩]

/-- One entry for each register of a list that differs between two states. -/
def regChgs (s t : Hw) (as : List Nat) : List Chg := as.flatMap (regChg s t)

/-- The entry of a change that is not a register write (R415). -/
def cmdChg (opcode old new : Nat) : List Chg := [⟨0xF1000000 + opcode, old, new, false⟩]

/-- The entry of such a change of an object wider than 64 bits (Table STO-7). -/
def digestChg (opcode : Nat) (old new : List Byte) : List Chg :=
  [⟨0xF1000000 + opcode, Config.shake256 old 64, Config.shake256 new 64, true⟩]

end Sys2Proof.Machine
end

