-- ==== Sys2Proof/Machine/View.lean ====
section
/-! DEFINITION. The working copy as STORE saves it, and what a register reads as where that is not simply the word held for it. -/

namespace Sys2Proof.Machine

/-- Milliseconds in the current mode, saturating (MODE_AGE, Table MOD-9). -/
def Hw.modeAge (s : Hw) : Nat := min 65535 ((s.time.ticks - s.ops.modeTick) / ticksPerMs)

/-- This part is ready for a common trigger (R351): every record with SYNC_EN is armed, and a MASTER has had CHR_SYNC_ARM. -/
def Hw.syncReady (s : Hw) : Bool :=
  let role := s.get CHR_CTRL_SYNC_ROLE
  ((role == 2 && s.chr.syncArm) || role == 1) &&
    (List.range 4).all fun k => !s.flag (CHR_RECk_CFG_SYNC_EN k) || s.get (CHR_RECk_STAT_STATE k) == 1

/-! ### The working copy as STORE saves it (Table STO-1) -/

/-- The bits of a register that are stored: its RWS fields; CFG_SEQ of SHF_CTRL (Table SHF-14) and LOG_POLICY (Table STO-17), which
persist although software cannot write them. -/
def storedBits (a : Nat) : Nat :=
  (match regDesc a with | some d => d.rws | none => 0) ||| (if a = SHF_CTRL then 255 * 2 ^ SHF_CTRL_CFG_SEQ.lo else if a = LOG_CFG then 1 else 0)

/-- Their values. -/
def storedPart (a : Nat) (w : Word) : Word := w &&& BitVec.ofNat 32 (storedBits a)

/-- The gain sets of a part with no stored value: set * 64 + gain of engine `n` (Table GFL-24). -/
def gainDefault (n k : Nat) : Nat := if n = 0 ∧ k % 64 < 4 then 0x1000 else 0
def gainKeys : List Nat := (List.range 16).flatMap fun i => (List.range 4).map (64 * i + ·)

/-- The gain sets, by 1024 * engine + 64 * set + gain, where they differ from those of a part with no stored value. -/
def Hw.gainWords (s : Hw) : SMap Word :=
  let listed := s.le.engines.flatMap fun e =>
    (e.2.gains.filter fun g => g.2 != gainDefault e.1 g.1).map fun g => (1024 * e.1 + g.1, BitVec.ofNat 32 g.2)
  let zero := gainKeys.filter fun k => smapGet 0 (smapGet {} s.le.engines 0).gains k == 0
  zero.foldl (fun m k => smapInsert m k 0#32) listed

/-- What a STORE accepted now would save. -/
def Hw.snapshot (s : Hw) : Stored :=
  let regs := s.regs.filterMap fun r => if storedPart r.1 r.2 = storedPart r.1 (regReset r.1) then none else some (r.1, storedPart r.1 r.2)
  { regs := regs, gains := s.gainWords, images := s.sto.images }

/-- A bank, and whether it is valid (R402). -/
def NvSt.bank (v : NvSt) (b : Nat) : Bank := if b = 0 then v.bank0 else v.bank1
def Bank.valid (b : Bank) : Bool := b.magic && b.digestOk

/-- The bank in use, if there is one. -/
def Hw.bankUsed (s : Hw) : Option Bank :=
  let b := s.nv.bank (s.get STO_STAT_BANK)
  if b.valid then some b else none

/-- What it holds; with no bank in use, the values of a part with no stored value (R404). -/
def Hw.storedNow (s : Hw) : Stored := match s.bankUsed with | some b => b.content | none => {}

/-! ### Alternated records (R402, R404) -/

/-- A copy is valid under the test of a bank. -/
def AltCopy.valid {α : Type} (c : AltCopy α) : Bool := c.magic && c.digestOk

/-- The copy in use: the valid one with the higher GEN; none where neither is valid. -/
def AltRec.used {α : Type} (r : AltRec α) : Option Nat :=
  if r.copy0.valid then (if r.copy1.valid && decide (r.copy0.gen < r.copy1.gen) then some 1 else some 0)
  else if r.copy1.valid then some 1 else none

/-- The copy in bank `b`. -/
def AltRec.copy {α : Type} (r : AltRec α) (b : Nat) : AltCopy α := if b = 0 then r.copy0 else r.copy1

/-- What the record holds; without a valid copy its contents are unset (`d`). -/
def AltRec.now {α : Type} (d : α) (r : AltRec α) : α := match r.used with | some b => (r.copy b).content | none => d

/-- The record written: the copy that is not in use takes the new content, with GEN 1 more than the other's. -/
def AltRec.write {α : Type} (d : α) (f : α → α) (r : AltRec α) : AltRec α :=
  let b := r.used.getD 0
  let new : AltCopy α :=
    { content := f (r.now d), magic := true, digestOk := true, gen := ((r.copy b).gen + 1) % 2 ^ 32, writes := (r.copy (1 - b)).writes + 1 }
  if b = 0 then { r with copy1 := new } else { r with copy0 := new }

/-- What the three records hold. -/
def NvSt.key (v : NvSt) : KeyRec := v.keyRec.now {}
def NvSt.saf (v : NvSt) : SafRec := v.safRec.now {}
def NvSt.cnt (v : NvSt) : CntRec := v.cntRec.now {}
def NvSt.custKey (v : NvSt) : Option (List Byte) := v.key.custKey
def NvSt.roleKeys (v : NvSt) : SMap (BitVec 256) := v.key.roleKeys
def NvSt.spb (v : NvSt) : Option (List Byte) := v.saf.spb
def NvSt.proofAge (v : NvSt) : Nat := v.saf.proofAge
def NvSt.sigIndex (v : NvSt) : Nat := v.cnt.sigIndex
def NvSt.minSvn (v : NvSt) : Nat := v.cnt.minSvn
def NvSt.prefSlot (v : NvSt) : Nat := v.cnt.prefSlot

/-- The writes of the three. -/
def NvSt.onKey (v : NvSt) (f : KeyRec → KeyRec) : NvSt := { v with keyRec := v.keyRec.write {} f }
def NvSt.onSaf (v : NvSt) (f : SafRec → SafRec) : NvSt := { v with safRec := v.safRec.write {} f }
def NvSt.onCnt (v : NvSt) (f : CntRec → CntRec) : NvSt := { v with cntRec := v.cntRec.write {} f }

/-! ### Reads -/

/-- The word that a read of the register at `a` returns. -/
def Hw.view (s : Hw) (a : Nat) : Word :=
  if a = SYS_MODE then SYS_MODE_MODE_AGE.into (s.reg a) s.modeAge
  else if a = SYS_TICKNUM then BitVec.ofNat 32 (if s.flag ALM_STAT_SET then s.time.tickNo else 0)
  else if a = ALM_NS then BitVec.ofNat 32 s.timeNow.2.1
  else if a = ALM_INCAGE then BitVec.ofNat 32 (min 65535 ((s.time.ticks - s.time.incTick) / ticksPerSec))
  else if a = SYS_PWRSTAT then
    SYS_PWRSTAT_RAIL_UP.into (SYS_PWRSTAT_THERM_HOT.into (s.reg a) (if s.pwr.warm then 1 else 0)) s.pwr.up
  else if a = STO_STAT then STO_STAT_DIRTY.into (s.reg a) (if s.snapshot = s.storedNow then 0 else 1)
  else if a = CHR_STAT then CHR_STAT_SYNC_READY.into (s.reg a) (if s.syncReady then 1 else 0)
  else if a = FCH_SPAREn 0 ∧ (smapGet {} s.fch.spare 0).job = 3 then (FCH_SPAREn_SPARE_MODE 0).into (s.reg a) 3
  else if a = FCH_SPAREn 1 ∧ (smapGet {} s.fch.spare 1).job = 3 then (FCH_SPAREn_SPARE_MODE 1).into (s.reg a) 3
  else if 0x2004200C ≤ a ∧ a < 0x20042400 ∧ a % 0x200 < 0x100 ∧ a % 16 = 12 then
    -- SVn_TDm_PH, as captured by the last read of MAG2 (R77)
    match (smapGet {} s.sieve.tone (16 * ((a - 0x20042000) / 0x200) + (a - 0x20042000) % 0x200 / 16)).cap with
    | some w => w
    | none => s.reg a
  else s.reg a

end Sys2Proof.Machine
end

