-- ==== Sys2Proof/Machine/HostCmd.lean ====
section
/-! DEFINITION. Host commands: the packet checks of Table CMD-3, acceptance, the order of R384, replies, and the
change-log entries that precede them (R374 to R386, R401, R448). -/

namespace Sys2Proof.Machine

/-! ### Opcodes -/

/-- An opcode's row: its code, the role it needs (`none`: none), the size of its parameters where it is known, whether it is offered on
PCIe only (R393), and which sessions step 4 of Table CMD-3 admits. -/
structure Op where
  code : Nat
  role : Option Role
  params : Option Nat := none
  pcieOnly : Bool := false
  noSession : Bool := false
  pendingId : Bool := false
  closes : Bool := false
deriving DecidableEq, Repr

/-- Opcodes by the size of their parameters in bytes, where the opcode's table fixes it. DEDUCED (log entry 170): parameters follow each
other without padding, a word is 4 bytes, a mask the bytes of its width. -/
def opSizes : List (Nat × List Nat) := [
  (0, [0x0000, 0x0002, 0x0003, 0x0004, 0x0008, 0x0100, 0x0101, 0x0102, 0x0104, 0x0105, 0x0106, 0x0300, 0x0301, 0x0302, 0x0303, 0x0400,
    0x0401, 0x0423, 0x0502, 0x0522, 0x0532, 0x0542, 0x0606, 0x0700, 0x0800, 0x0806, 0x0820, 0x0900, 0x0902, 0x0904, 0x0A00, 0x0A20,
    0x0A24, 0x0B00, 0x0B09, 0x0B0A, 0x0B0B, 0x0C00, 0x0C04, 0x0D00, 0x0D04, 0x0D06, 0x0E00, 0x0F00]),
  (1, [0x0103, 0x0108, 0x0403, 0x0405, 0x0406, 0x0500, 0x0600, 0x0603, 0x0607, 0x0906, 0x0B03, 0x0B04, 0x0B05, 0x0C02, 0x0D02, 0x0D03]),
  (2, [0x0107, 0x0402, 0x0420, 0x0505, 0x0509, 0x0521, 0x0531, 0x0541, 0x0802, 0x0803, 0x0A03]),
  (3, [0x0425, 0x0703, 0x0704, 0x0822, 0x0823, 0x0F02]),
  (4, [0x0504, 0x0705, 0x0725, 0x0824, 0x0901, 0x0905, 0x0C03, 0x0D09, 0x0D0A, 0x0D0B, 0x0E02, 0x0E03, 0x0F01]),
  (5, [0x0421, 0x0A21, 0x0A23]),
  (6, [0x0520, 0x0530, 0x0540, 0x0E01]),
  (7, [0x0601, 0x0602]),
  (8, [0x0109, 0x050A, 0x0720, 0x0722, 0x0723, 0x0724, 0x0740, 0x0741, 0x0742, 0x0A02, 0x1000]),
  (9, [0x0701, 0x0721, 0x0821, 0x0B01]),
  (10, [0x0424, 0x0903]),
  (11, [0x0A01]),
  (12, [0x0807, 0x0B06, 0x1001]),
  (13, [0x0007, 0x0743, 0x0B07]),
  (16, [0x0005, 0x0A04]),
  (17, [0x0006, 0x0801]),
  (18, [0x000A]),
  (32, [0x0D08]),
  (33, [0x0604, 0x0D07]),
  (37, [0x0805]),
  (68, [0x0D05]),
  (130, [0x0507]),
  (153, [0x0404]),
  (256, [0x0C01])]

/-- The size of an opcode's parameters; none where it varies or the spec gives no widths. -/
def opSize (code : Nat) : Option Nat := (opSizes.find? fun p => p.2.contains code).map (·.1)

/-- Opcodes whose parameters vary in size, or have no stated widths. -/
def opsVaried : List Nat :=
  [0x0001, 0x0009, 0x000B, 0x0422, 0x0501, 0x0503, 0x0506, 0x0508, 0x0605, 0x0702, 0x0744, 0x0804, 0x0A22, 0x0B02, 0x0B08, 0x0D01, 0x1002]

/-- Step 6 of Table CMD-3: the opcode is defined. -/
def opDefined (code : Nat) : Bool := (opSize code).isSome || opsVaried.contains code

/-- An opcode with a role requirement and no exception; one with parameters of `n` bytes where the command says how many. -/
def Op.plain (code : Nat) (role : Role) : Op := { code := code, role := some role, params := opSize code }
def Op.sized (code : Nat) (role : Role) (n : Nat) : Op := { code := code, role := some role, params := some n }

/-- A session of role `have` meets a requirement `need` (R380). -/
def roleMeets (own need : Role) : Bool :=
  match own, need with
  | .safetyOfficer, .viewer => true
  | .safetyOfficer, .safetyOfficer => true
  | .safetyOfficer, _ => false
  | _, .safetyOfficer => false
  | o, n => decide (roleCode n ≤ roleCode o)

/-! ### What a command's own part answers -/

/-- The answer of a command's own part: the state it leaves, its status and results, the changes to be logged, and what
it waits for if its reply comes later. -/
structure Done where
  hw : Hw
  status : Status := .ok
  data : List Byte := []
  log : List Chg := []
  wait : Option WaitKind := none

/-- Refused with a status and no effect. -/
def refuse (s : Hw) (st : Status) : Done := { hw := s, status := st }

/-- Refused with a status and results, and no effect. -/
def refuseWith (s : Hw) (st : Status) (data : List Byte) : Done := { hw := s, status := st, data := data }

/-- Answered OK with results and no change. -/
def answer (s : Hw) (data : List Byte) : Done := { hw := s, data := data }

/-- A change: the new state, with its log entries. -/
def change (s : Hw) (log : List Chg) : Done := { hw := s, log := log }

/-- A change whose reply comes later. -/
def changeWait (s : Hw) (log : List Chg) (k : WaitKind) : Done := { hw := s, log := log, wait := some k }

/-- The first of a command's own checks that fails decides (R448); otherwise its effect. -/
def checked (s : Hw) (checks : List (Bool × Status)) (effect : Done) : Done :=
  match firstFail checks with
  | some st => refuse s st
  | none => effect

/-- The registers of a list as result bytes. -/
def regBytes (s : Hw) (as : List Nat) : List Byte := as.flatMap fun a => leBytes 4 (s.view a).toNat

/-! ### Sessions -/

/-- The session that a packet names on its transport. -/
def Hw.session? (s : Hw) (h : Hdr) : Option Session :=
  s.cmd.sessions.find? fun x => x.id == h.session && decide (x.transport = h.transport)

/-- The identifier pending on the packet's transport. -/
def Hw.pendingId? (s : Hw) (h : Hdr) : Option PendingId :=
  s.cmd.pendingIds.find? fun x => x.id == h.session && decide (x.transport = h.transport)

/-- `s` with a session of identifier `id` changed. -/
def Hw.onSession (s : Hw) (id : Nat) (f : Session → Session) : Hw :=
  { s with cmd := { s.cmd with sessions := s.cmd.sessions.map fun x => if x.id = id then f x else x } }

/-- The role of a command's session. -/
def Hw.roleOf (s : Hw) (h : Hdr) : Option Role := (s.session? h).map (·.role)

/-- The header of a command, where the table's row carries one: every opcode, and the register accesses that act by
themselves. -/
def heldSession (s : Hw) (id : Nat) : Bool := s.cmd.waiting.any fun w => w.hdr.session == id

/-- A session executes a command, or others of it are held behind one: a further one waits its turn (R384). -/
def Hw.sessionBusy (s : Hw) (id : Nat) : Bool := heldSession s id || s.cmd.held.any fun p => p.1 == id

/-! ### Replies -/

/-- LENGTH limit of a command and of a reply (Table CMD-2). -/
def cmdLimit : Transport → Nat
  | .udp => 1400
  | _ => 65516
def replyLimit : Transport → Nat
  | .pcie => 1114092
  | .spi => 65516
  | _ => 1400

/-- A reply handed to the port its command came from: the reply slot, MB_READY and MSI-X vector 0 on PCIe (R389), the
reply buffer on SPI (R392), a datagram on UDP (R393). -/
def Hw.deliver (s : Hw) (r : Reply) : Hw :=
  match r.transport with
  | .pcie =>
    let s := { s with cmd := { s.cmd with
      mbReplies := smapSet none s.cmd.mbReplies r.port (some r)
      msix := smapSet 0 s.cmd.msix 0 (smapGet 0 s.cmd.msix 0 + 1) } }
    (s.clearBit MB_FREE_FREE r.port).raiseBit MB_READY_READY r.port
  | .spi => { s with cmd := { s.cmd with spi := { s.cmd.spi with ready := true, reply := some r } } }
  | .udp => { s with cmd := { s.cmd with udpSent := some r } }
  | .internal => s

/-- The key under which a reply over UDP is tagged (R377): 32 zero bytes for SESSION = 0, the session's key; for an identifier that names no
open session the spec gives none, and the key is free (log entry 172). -/
def Hw.keyOf (s : Hw) (h : Hdr) : BitVec 256 :=
  if h.session = 0 then 0#256 else match s.session? h with | some x => x.key | none => Config.strayKey h.session

/-- The reply to a command under the limit of Table CMD-2 (R375): a longer one is not sent, and the status is LENGTH. -/
def mkReply (s : Hw) (h : Hdr) (code : Nat) (st : Status) (data : List Byte) : Reply :=
  let fits := decide (2 + data.length ≤ replyLimit h.transport)
  { transport := h.transport, port := h.port, opcode := code, seq := h.seq, session := h.session,
    status := if fits then st else .length, data := if fits then data else [],
    key := s.keyOf h }

/-- `s` with MSI-X vector `v` raised once more. -/
def Hw.msixRaise (s : Hw) (v : Nat) : Hw :=
  { s with cmd := { s.cmd with msix := smapSet 0 s.cmd.msix v (smapGet 0 s.cmd.msix v + 1) } }

/-- The reply of an accepted command: sent, and stored for resending (R383). A command whose session has closed in the
meantime is not answered (R401); SESSION_OPEN is answered whether its session has opened or not. -/
def Hw.reply (s : Hw) (h : Hdr) (code : Nat) (st : Status) (data : List Byte) : Hw :=
  let r := mkReply s h code st data
  if h.session = 0 ∨ code = 0x0001 then s.deliver r
  else if (s.session? h).isSome then
    (s.onSession h.session fun x =>
      { x with recent := x.recent.map (fun q => if q.seq = h.seq ∧ q.reply = none then { q with reply := some r } else q),
               lastTick := s.ticks }).deliver r
  else s

/-- The commands waiting for a kind of event complete: each replies, in acceptance order. -/
def Hw.finish (s : Hw) (p : Waiting → Bool) (st : Waiting → Status) (data : Waiting → List Byte) : Hw :=
  let done := s.cmd.waiting.filter p
  let s := { s with cmd := { s.cmd with waiting := s.cmd.waiting.filter fun w => !p w } }
  done.foldl (fun s w => s.reply w.hdr w.opcode (st w) (data w)) s

/-- Completion of every waiting command of one kind, with one status and no results. -/
def Hw.finishKind (s : Hw) (k : WaitKind) (st : Status) : Hw :=
  s.finish (fun w => decide (w.kind = k)) (fun _ => st) (fun _ => [])

/-! ### The checks of Table CMD-3 -/

/-- The outcome of steps 1 to 10. -/
inductive Gate where
  /-- Not answered: counted as discarded, or lost because the transport is off. -/
  | discard (tagFailed : Bool)
  | lost
  | fail (st : Status)
  /-- A duplicate of one of the 4 newest accepted SEQ values (R383). -/
  | again (r : Option Reply)
  | accept
deriving DecidableEq, Repr

/-- Opcode groups served while firmware did not verify (R41): System, Store, Security. -/
def romGroup (code : Nat) : Bool := [0x00, 0x03, 0x0D].contains (code / 256)

/-- Opcode groups served by a part strapped to REEVE: System, Store, Security, Twin, Time and clocks, Change log,
Register access. -/
def reeveGroup (code : Nat) : Bool := [0x00, 0x03, 0x0D, 0x09, 0x0A, 0x0E, 0x10].contains (code / 256)

/-- The transport is on: SPI_EN (R392), UDP_EN (R393). -/
def Hw.transportOn (s : Hw) : Transport → Bool
  | .pcie => true
  | .spi => s.flag NET_CTRL_SPI_EN
  | .udp => s.flag NET_CTRL_UDP_EN
  | .internal => false

/-- Step 4: the session is open on this transport, or the opcode admits SESSION = 0 or a pending identifier. -/
def sessionOk (op : Op) (s : Hw) (h : Hdr) : Bool :=
  if op.pendingId then (s.pendingId? h).isSome
  else if h.session = 0 then op.noSession
  else (s.session? h).isSome && !(op.noSession && op.code == 1)

/-- Commands of a session accepted and not yet replied (R384). -/
def Hw.outstanding (s : Hw) (id : Nat) : Nat :=
  match s.cmd.sessions.find? (fun x => x.id == id) with
  | some x => (x.recent.filter fun q => q.reply = none).length
  | none => 0

/-- Steps 1 to 10 of Table CMD-3. -/
def gate (op : Op) (s : Hw) (h : Hdr) : Gate :=
  if !s.transportOn h.transport then .lost
  else if h.version ≠ 1 ∨ h.flags ≠ 0 then .fail .headerBad
  else if !h.checkOk then (if h.transport = .udp then .discard true else .fail .checkFail)
  else if cmdLimit h.transport < h.length then .fail .length
  else if !sessionOk op s h then .fail .sessionInvalid
  else
    let x := s.session? h
    let dup := x.bind fun x => x.recent.find? fun q => q.seq == h.seq
    match dup with
    | some q => .again q.reply
    | none =>
      let stale := match x.bind (·.last) with
        | some l => let d := (h.seq + 2 ^ 16 - l) % 2 ^ 16; decide (d < 1 ∨ 32767 < d)
        | none => false
      if stale then .fail .seqStale
      else if !opDefined op.code then .fail .opcodeUnknown
      else if (s.flag SYS_MODE_FW_UNVERIFIED || s.flag SYS_MODE_DEVID_MISMATCH) && !romGroup op.code then
        .fail .groupUnavailable
      else if s.strapReeve && !reeveGroup op.code then .fail .modeNotAllowed
      else if op.pcieOnly && decide (h.transport ≠ .pcie) then .fail .transport
      else
        let roleBad := match op.role, x with
          | some need, some x => !roleMeets x.role need
          | _, _ => false
        if roleBad then .fail .roleDenied
        else if !op.closes && decide (4 ≤ s.outstanding h.session) then .fail .busy
        else .accept

/-- A discarded packet is counted in NET_STAT (R379, R393); a failed UDP tag also counts as an authentication failure. -/
def Hw.countDiscard (s : Hw) (tagFailed : Bool) : Hw :=
  let s := (s.raise NET_STAT_PKT_BAD).bump NET_STAT_BAD_CNT
  if tagFailed then (s.raise NET_STAT_AUTH_FAILED).bump NET_STAT_AUTH_CNT else s

/-- Acceptance: SEQ becomes the newest accepted, and its reply will be stored (R383). -/
def Hw.accept (s : Hw) (h : Hdr) : Hw :=
  s.onSession h.session fun x =>
    { x with last := some h.seq, recent := (⟨h.seq, none⟩ :: x.recent).take 4, lastTick := s.ticks }

/-- LOCAL_PANEL sessions and the two-hand permit (R363): whether a Mode-group command is to be refused. -/
def Hw.twohandBars (s : Hw) (h : Hdr) : Bool :=
  match s.session? h with
  | some x => x.localPanel && !s.ops.safTwohand
  | none => false

/-- The policy in force refuses a change (R417), judged with the slots that the change itself exports counted as exported. -/
def Done.refused (d : Done) (s : Hw) : Bool :=
  !d.log.isEmpty && s.flag LOG_CFG_LOG_POLICY && decide (logSlots - d.hw.log.unexported < 256 + d.log.length)

/-- An accepted change: its log entries, and CFG_CHECK due to be computed again (R406, R415). -/
def Done.logged (d : Done) (h : Hdr) (s : Hw) : Hw :=
  if d.log.isEmpty then d.hw
  else (d.hw.logAll s.effectOf (logOrigin h.transport (s.roleOf h) h.port) h.session d.log).raise STO_STAT_CHK_BUSY

/-- The parameters have the wrong size. -/
def Op.sizeBad (op : Op) (h : Hdr) : Bool := match op.params with | some n => h.length != n | none => false

/-- The statuses of checks that R448 places before the form of the parameters. -/
def statusFirst (st : Status) : Bool := [Status.twinStandby, .notActive, .notStandby, .notReeve, .modeNotAllowed].contains st

/-- A command's own part with the check of its parameters' size at its place (R448). -/
def withSize (op : Op) (h : Hdr) (body : Hw → Done) (s : Hw) : Done :=
  let d := body s
  if op.sizeBad h && !statusFirst d.status then refuse s .length else d

/-- The own part of an accepted command, its log entries and its reply (R385). -/
def runBody (op : Op) (h : Hdr) (body : Hw → Done) (s : Hw) : Hw :=
  let d := withSize op h body s
  if d.refused s then s.reply h op.code .logFull []
  else
    let t := d.logged h s
    match d.wait with
    | some k => { t with cmd := { t.cmd with waiting := t.cmd.waiting ++ [⟨h, op.code, k⟩] } }
    | none => t.reply h op.code d.status d.data

/-- A host command: lost during reset (R401); steps 1 to 10; then, in its session's turn (R384), its own part. -/
def hostCmd (op : Op) (self : Instr) (h : Hdr) (body : Hw → Done) (s : Hw) : Hw :=
  if s.inReset then s
  else if s.cmd.resuming then
    let s := { s with cmd := { s.cmd with resuming := false } }
    runBody op h body s
  else
    match gate op s h with
    | .lost => s
    | .discard t => s.countDiscard t
    | .fail st => s.deliver (mkReply s h op.code st [])
    | .again (some r) => s.deliver { r with port := h.port }
    | .again none => s
    | .accept =>
      let s := s.accept h
      if s.sessionBusy h.session && !op.closes then
        { s with cmd := { s.cmd with held := s.cmd.held ++ [(h.session, self)] } }
      else runBody op h body s

/-- The first held command whose session executes no other, with the others in order. -/
def nextHeld (s : Hw) : List (Nat × Instr) → Option (Instr × List (Nat × Instr))
  | [] => none
  | i :: is =>
    if heldSession s i.1 then (nextHeld s is).map fun p => (p.1, i :: p.2)
    else some (i.2, is)

/-- An event of the environment: nothing happens while internal reset is asserted. -/
def onRun (f : Hw → Hw) (s : Hw) : Hw := if s.inReset then s else f s

/-- `s` with its part changed; the queue and the capture memory are untouched. -/
def State.onHw (s : State) (f : Hw → Hw) : State := { s with hw := f s.hw }

end Sys2Proof.Machine
end

