-- ==== Sys2Proof/Machine/Common.lean ====
section
/-! DEFINITION. What every chapter uses: modes and roles as other blocks see them, the gates of events, values in force, and the
Exchange RAM. -/

namespace Sys2Proof.Machine

/-! ### Mode and role -/

/-- The mode of the tick in progress (Table MOD-1). -/
def Hw.mode (s : Hw) : Nat := s.get SYS_MODE_MODE

/-- The six modes of Table MOD-1. -/
def mCommission : Nat := 0
def mBlocked : Nat := 1
def mEnergize : Nat := 2
def mForm : Nat := 3
def mRide : Nat := 4
def mTripped : Nat := 5

/-- The mode is one of a list. -/
def Hw.modeIn (s : Hw) (ms : List Nat) : Bool := ms.contains s.mode

/-- The mode is COMMISSION or BLOCKED. -/
def Hw.cfgMode (s : Hw) : Bool := s.modeIn [mCommission, mBlocked]

/-- The mode is one in which the valve switches: ENERGIZE, FORM or RIDE-THROUGH. -/
def Hw.switching (s : Hw) : Bool := s.modeIn [mEnergize, mForm, mRide]

/-- The twin role is ACTIVE, or there is no twin. -/
def Hw.active (s : Hw) : Bool := s.flag SYS_MODE_ACTIVE

/-- A STANDBY twin. -/
def Hw.standby (s : Hw) : Bool := !s.active && !s.strapReeve

/-- The part has a twin (R297). A part strapped to REEVE has none, and ignores the inputs of a twin (R278). -/
def Hw.hasTwin (s : Hw) : Bool := s.flag TW_CFG_TWIN_EN && !s.strapReeve

/-- What runs from the core clock: nothing happens in reset, nor once that clock has been lost (R326). -/
def onCore (f : Hw → Hw) (s : Hw) : Hw := if s.inReset || s.flag ORY_MON_CORE_LOSS then s else f s

/-- A point of a tick (Table TCK-3): none comes while the timebase is stopped, nor between a step and the boundary after it (R308). -/
def onTick (f : Hw → Hw) : Hw → Hw := onCore fun s => if s.time.clockLost || s.time.gapTo.isSome then s else f s

/-! ### Values in force -/

/-- The word in force of a register whose written value takes effect at a frame boundary. -/
def Hw.liveReg (s : Hw) (a : Nat) : Word := smapGet (regReset a) s.live a

/-- A field of it. -/
def Hw.liveGet (s : Hw) (f : Fld) : Nat := f.of (s.liveReg f.addr)

/-- A signed field of it. -/
def Hw.liveInt (s : Hw) (f : Fld) : Int := signed f.width (s.liveGet f)

/-- A one-bit field of it. -/
def Hw.liveFlag (s : Hw) (f : Fld) : Bool := s.liveGet f == 1

/-- `s` with the word in force of one register set. -/
def Hw.setLive (s : Hw) (a : Nat) (v : Word) : Hw := { s with live := smapSet (regReset a) s.live a v }

/-- The written values of the registers at `as` come into force. -/
def Hw.latch (s : Hw) (as : List Nat) : Hw := s.each as fun a s => s.setLive a (s.reg a)

/-- The written values of every register that `p` names come into force. -/
def Hw.latchAll (s : Hw) (p : Nat → Bool) : Hw :=
  let keep := s.live.filter fun r => !p r.1
  { s with live := (s.regs.filter fun r => p r.1).foldl (fun m r => smapInsert m r.1 r.2) keep }

/-! ### Exchange RAM (Table LPE-3), by word address -/

/-- The signed word at word address `w`. -/
def Hw.xr (s : Hw) (w : Nat) : Int := signed 16 (smapGet 0 s.xram w)

/-- The same word as 16 bits. -/
def Hw.xrBits (s : Hw) (w : Nat) : Nat := smapGet 0 s.xram w

/-- `s` with the word at word address `w` set to the low 16 bits of `v`. -/
def Hw.setXr (s : Hw) (w : Nat) (v : Int) : Hw := { s with xram := smapSet 0 s.xram w (unsigned 16 v) }

/-- `s` with words written upwards from `w`. -/
def Hw.setXrs (s : Hw) (w : Nat) : List Int → Hw
  | [] => s
  | v :: vs => (s.setXr w v).setXrs (w + 1) vs

/-- First word of engine `n`'s output area. -/
def outArea (n : Nat) : Nat := (0x20000 + n * 0x4000) / 2

/-! ### Capture memory -/

/-- An access made. -/
def capDo (m : Memory) : CapOp → Memory
  | .put a bs => memWriteList m a bs
  | .count a => memPut m a 4 (min (2 ^ 32 - 1) (memWord m a + 1))
  | .zero a n => memZero m a n

/-- The address of an access, and whether it waits: one to the DDR does while the DDR is in self-refresh (R346). -/
def CapOp.addr : CapOp → Nat
  | .put a _ => a
  | .count a => a
  | .zero a _ => a

def ChrSt.waits (c : ChrSt) (o : CapOp) : Bool := c.stall && decide (captureDdr 0 ≤ o.addr)

/-- The accesses to capture memory that `t` holds beyond those of `s`. -/
def capNew (s t : ChrSt) : List CapOp := t.acc.drop s.acc.length

/-- A state whose part is changed by `f`; the accesses to capture memory that `f` asks for are made, or join those that wait. -/
def State.onCap (s : State) (f : Hw → Hw) : State :=
  let h := f s.hw
  let new := capNew s.hw.chr h.chr
  { s with hw := { h with chr := { h.chr with acc := s.hw.chr.acc ++ new.filter h.chr.waits } }
           capture := (new.filter fun o => !h.chr.waits o).foldl capDo s.capture }

/-- A state whose part is changed by `f`; where that ends self-refresh, the accesses that have waited for it are made. -/
def State.onRefresh (s : State) (f : Hw → Hw) : State :=
  let h := f s.hw
  if s.hw.chr.stall && !h.chr.stall then
    { s with hw := { h with chr := { h.chr with acc := [] } }, capture := h.chr.acc.foldl capDo s.capture }
  else { s with hw := h }

end Sys2Proof.Machine
end

