-- ==== Sys2Proof/Machine/Flags.lean ====
section
/-! DEFINITION. How flags, causes and counters are raised: trigger events of the Chronograph (Table CHR-2), trip causes (Table MOD-5),
the monitors' marks of a tick (R24) and bundle mismatches (R421 to R427). -/

namespace Sys2Proof.Machine

/-! ### Chronograph trigger events -/

/-- The present instant in quarter nanoseconds. -/
def Hw.nowQ (s : Hw) : Nat := let t := s.timeNow; (t.1 * nsPerSec + t.2.1) * 4 + t.2.2 / 2 ^ 30

/-- An internal event with ARG bit `k` (Table CHR-2, type 9). -/
def Hw.trgEvent (s : Hw) (k : Nat) : Hw := { s with trg := { s.trg with ev := s.trg.ev ++ [(k, s.nowQ)] } }

/-- A fault code of Table CHR-2, type 7, has appeared. -/
def Hw.trgCode (s : Hw) (c : Nat) : Hw := { s with trg := { s.trg with codes := s.trg.codes ++ [(c, s.nowQ)] } }

/-- The nominal instant of strobe `k` of the tick in progress, in quarter nanoseconds (R48). -/
def Hw.strobeQ (s : Hw) (k : Nat) : Nat := ((s.time.sec * nsPerSec + s.time.ns) / 2000 * 2000 + 125 * k) * 4

/-- A path of the Chronograph has a new instant (R335). -/
def Hw.chrNews (s : Hw) (path at_ : Nat) : Hw := { s with chr := { s.chr with news := s.chr.news ++ [(path, at_)] } }

/-! ### Trip causes (Table MOD-5) -/

def cManual : Nat := 0
def cSafety : Nat := 1
def cRtTimeout : Nat := 2
def cDlmissK : Nat := 3
def cProtection : Nat := 4
def cSubmodule : Nat := 5
def cIntegrity : Nat := 6
def cGoose : Nat := 7
def cEnergizeFail : Nat := 8
def cKernel : Nat := 9
def cClock : Nat := 10
def cLane : Nat := 11
def cCustomer : Nat := 12

/-- Cause `k` latches (R38, R39), with its entry of Table STO-6, its event of Table CHR-2 and
MSI-X vector 3. A cause other than MANUAL
that this part raises is its own (R43). -/
def Hw.latchCause (s : Hw) (k : Nat) : Hw :=
  let old := s.get SYS_TRIPCAUSE_LATCHED
  let s := if k = cManual then s else { s with ops := { s.ops with ownLatched := bitSet s.ops.ownLatched k } }
  if bitOf old k then s
  else
    let s := s.put SYS_TRIPCAUSE_LATCHED (bitSet old k)
    ((s.logInternal 0xF2000021 old (bitSet old k)).trgEvent 4).msixRaise 3

/-- Cause `k` is raised by the outside before cycle 0 of the coming tick, to which it belongs (R17, R30). -/
def Hw.tripInput (s : Hw) (k : Nat) : Hw :=
  let s := s.latchCause k
  { s with ops := { s.ops with tripNext := bitSet s.ops.tripNext k } }

/-- Cause `k` is detected in, and belongs to, the tick in progress. -/
def Hw.tripNow (s : Hw) (k : Nat) : Hw :=
  let s := s.latchCause k
  { s with ops := { s.ops with tripTick := bitSet s.ops.tripTick k } }

/-- The source of cause `k` asserts it, or no longer does (SYS_TRIPCAUSE.ACTIVE). -/
def Hw.causeActive (s : Hw) (k : Nat) (on : Bool) : Hw :=
  s.put SYS_TRIPCAUSE_ACTIVE (if on then bitSet (s.get SYS_TRIPCAUSE_ACTIVE) k else bitClear (s.get SYS_TRIPCAUSE_ACTIVE) k)

/-- Cause `k` is detected in the tick in progress and is active in that tick only. -/
def Hw.tripPulse (s : Hw) (k : Nat) : Hw :=
  let s := (s.tripNow k).causeActive k true
  { s with ops := { s.ops with pulse := bitSet s.ops.pulse k } }

/-- A clock left its tolerance in the tick in progress (R24, R325). -/
def Hw.clockTol (s : Hw) : Hw :=
  let s := s.raise SYS_TISTAT_CLK_TOL
  { s with int := { s.int with tiFail := true, clkFail := true } }

/-- Both Granary receivers are locked. -/
def Hw.granaryLocked (s : Hw) : Bool := (smapGet {} s.shf.lanes 48).grLock && (smapGet {} s.shf.lanes 49).grLock

/-- The twin is unhealthy (R290): its last header says so, or the Granary receivers are not locked. -/
def Hw.peerUnhealthy (s : Hw) : Bool :=
  !s.granaryLocked || match s.twin.peer with | some p => !p.healthy | none => true

/-! ### Bundles (R419, R420) -/

/-- One bit, then the 16 bits of a word, most significant first, into the CRC-16: polynomial 0x1021, no reflection. -/
def crc16Bit (c : Nat) (x : Bool) : Nat :=
  if (decide (0x8000 ≤ c) != x) then (2 * c % 65536) ^^^ 0x1021 else 2 * c % 65536
def crc16Bits : Nat → Nat → Nat → Nat
  | 0, _, c => c
  | n + 1, w, c => crc16Bits n w (crc16Bit c (bitOf w n))

/-- The CRC-16 of words, with initial value 0xFFFF and no final inversion. -/
def crc16 (ws : List Nat) : Nat := ws.foldl (fun c w => crc16Bits 16 w c) 0xFFFF

/-- A bundle: its header word H, its substitution mask M, its data words and its check C. -/
structure Bundle where
  head : Nat
  mask : Nat
  words : List Nat
  check : Nat
deriving DecidableEq, Repr

/-- The header word of bundle `i` of boundary `b` in tick number `n`. -/
def bundleHead (b n i : Nat) : Nat := b % 16 * 2 ^ 12 + n % 16 * 2 ^ 8 + i % 2 ^ 8

/-- C as the producer computes it; what INT_INJECT makes of it (R427). -/
def Bundle.crc (x : Bundle) : Nat := crc16 (x.head :: x.mask :: x.words)
def Bundle.made (b n i mask : Nat) (words : List Nat) : Bundle :=
  let x : Bundle := ⟨bundleHead b n i, mask, words, 0⟩
  { x with check := x.crc }
def Bundle.injected (x : Bundle) : Bundle := { x with check := x.crc ^^^ 1 }

/-- The consumer's verification. A bundle is `bad` in an event's operand where this fails. -/
def Bundle.passes (x : Bundle) : Bool := x.crc == x.check

/-! ### Bundle mismatches (R421, R423, R427) -/

/-- A check failed at boundary `b`: counted, as a test where INT_INJECT caused it, for CONSEC where something else did (R426). -/
def Hw.mismatch (s : Hw) (b : Nat) (injected genuine : Bool) : Hw :=
  let s := (s.raiseBit INT_STAT_MM b).bump (INT_BDRYb_MM_CNT b)
  let s := if injected then s.bump (INT_BDRYb_TEST_CNT b) else s
  if genuine then { s with int := { s.int with mmTick := bitSet s.int.mmTick b } } else s

/-- Data words of a bundle (Table INT-1); those of boundary 3 are counted as 16, for the packing of its fields is not stated. -/
def bundleWords (b i : Nat) : Nat := if b = 4 then (if i % 20 = 19 then 3 else 15) else 16

/-- The mask that the consumer of a bundle holds with it, at boundaries 2 to 4; that of a sample is `Samp.sub`. -/
def Hw.setMask (s : Hw) (b i mask : Nat) : Hw :=
  if b < 2 then s else { s with int := { s.int with masks := smapSet 0 s.int.masks (b * 2 ^ 16 + i) mask } }

/-- Every bundle of boundary `b` is made anew. -/
def Hw.newMasks (s : Hw) (b : Nat) : Hw :=
  { s with int := { s.int with masks := s.int.masks.filter fun p => p.1 / 2 ^ 16 != b } }

/-- The injection of boundary `b`, index `i`, falls due in the tick in progress. -/
def Hw.injDue (s : Hw) (b i : Nat) : Bool := decide (s.int.inj = some (b, i)) && decide (s.int.injTick = s.ticks)

/-- That injection has been executed. -/
def Hw.injDone (s : Hw) : Hw := ({ s with int := { s.int with inj := none } }).put INT_STAT_INJ_PEND 0

/-- The bundle at boundary `b`, index `i`, is checked; `bad` says that it was corrupted, lost or unreadable (R422). The result says
whether the check failed; every word of what then stands in its place is marked. -/
def Hw.checkBundle (s : Hw) (b i : Nat) (bad : Bool) : Bool × Hw :=
  let inj := s.injDue b i
  let s := if inj then s.injDone else s
  if inj || bad then (true, (s.mismatch b inj bad).setMask b i (2 ^ bundleWords b i - 1)) else (false, s.setMask b i 0)

end Sys2Proof.Machine
end

