-- ==== Sys2Proof/Machine/Operands.lean ====
section
/-! DEFINITION. The forms operands take: a command's register words and a masked register write (R398), the checks of a value against
its range, and the roundings of the spec's formulas. -/

namespace Sys2Proof.Machine

/-! ### Register writes (R398) -/

/-- One register-access write as the owning block judges it: the address, the mask of the bits it may change, the
register's word before it, the word with the writable bits of the mask replaced and the W1C flags cleared, and the WO
bits it acts on. -/
structure Wr where
  addr : Nat
  mask : Nat
  old : Word
  new : Word
  acts : Nat
deriving DecidableEq, Repr

/-- The mask of a write covers some bit of a field. -/
def Wr.touches (w : Wr) (f : Fld) : Bool := decide (w.addr = f.addr) && decide (f.ofNat w.mask ≠ 0)

/-- The field's value after the write. -/
def Wr.val (w : Wr) (f : Fld) : Nat := f.of w.new

/-- The field's value before the write. -/
def Wr.was (w : Wr) (f : Fld) : Nat := f.of w.old

/-- What a block answers to a write: a status, or the new state. -/
abbrev Judged := Except Status Hw

/-- The write as it stands. -/
def Hw.writeAs (s : Hw) (w : Wr) : Hw := s.setReg w.addr w.new

/-- The bits of the register at `a` that a value write may change. -/
def writableBits (a : Nat) : Nat :=
  match regDesc a with
  | some d => d.rws ||| d.rw
  | none => 0

/-- A command's word for the register at `a`, as a write of every writable field; its reserved and RO bits are ignored
(R5; log entry 14). -/
def Hw.wr (s : Hw) (a v : Nat) : Wr :=
  let m := writableBits a
  let old := s.reg a
  { addr := a, mask := m, old := old, new := BitVec.ofNat 32 ((old.toNat - (old.toNat &&& m)) + (v &&& m)), acts := 0 }

/-- `s` with a command's word written to the register at `a`. -/
def Hw.setWord (s : Hw) (a v : Nat) : Hw := s.writeAs (s.wr a v)

/-- The first failing check's status, or the new state. -/
def judge (checks : List (Bool × Status)) (s : Hw) : Judged :=
  match firstFail checks with
  | some st => .error st
  | none => .ok s

/-- `v` lies outside [lo, hi]. -/
def outside (lo hi v : Nat) : Bool := decide (v < lo) || decide (hi < v)

/-- The same for a signed value. -/
def outsideInt (lo hi v : Int) : Bool := decide (v < lo) || decide (hi < v)

/-- num / den rounded to an integer where the spec states no rounding: an exact quotient stands, any other goes down or
up as a free value says (log entry 12). -/
def roundFree (num den : Int) : Int :=
  if num % den = 0 then num / den else num / den + (if Config.roundUp num den then 1 else 0)

/-- Round half away from zero of num / den, den positive. -/
def roundDiv (num den : Int) : Int :=
  if 0 ≤ num then (2 * num + den) / (2 * den) else -((2 * -num + den) / (2 * den))

/-- Arithmetic shift right with rounding half up. -/
def shrRound (x : Int) (n : Nat) : Int := (x + (2 ^ (n - 1) : Nat)) / (2 ^ n : Nat)

end Sys2Proof.Machine
end

