-- ==== Sys2Proof/Machine/Engines.lean ====
section
/-! DEFINITION. Loop Engines: tasks, deadlines, Region Selectors, gain sets, injection points, images and rotation
(05_loop_engines.md, R79 to R102). -/

namespace Sys2Proof.Machine

/-- A change of the cluster; of an engine; of a task. -/
def Hw.onLe (s : Hw) (f : ClusterSt → ClusterSt) : Hw := { s with le := f s.le }
def Hw.engOf (s : Hw) (n : Nat) : EngSt := smapGet {} s.le.engines n
def Hw.onEng (s : Hw) (n : Nat) (f : EngSt → EngSt) : Hw :=
  s.onLe fun c => { c with engines := smapSet {} c.engines n (f (s.engOf n)) }
def Hw.taskOf (s : Hw) (n m : Nat) : TaskSt := smapGet {} s.le.tasks (8 * n + m)
def Hw.onTask (s : Hw) (n m : Nat) (f : TaskSt → TaskSt) : Hw :=
  s.onLe fun c => { c with tasks := smapSet {} c.tasks (8 * n + m) (f (s.taskOf n m)) }

/-- The keys of every declared task (engine * 8 + task). -/
def Hw.taskKeys (s : Hw) : List Nat := s.le.tasks.map (·.1)

/-! ### Loading and unloading tasks (R79, R85) -/

/-- The task registers of engine `n` from a list of declarations; tasks above the list read RATE = 0. -/
def showTasks (n : Nat) (ds : List TaskDecl) (s : Hw) : Hw :=
  let s := s.each (List.range 8) fun m s => match ds[m]? with
    | some d =>
      let s := ((s.put (LEn_TASKm_CFG_RATE n m) d.rate).putb (LEn_TASKm_CFG_FEEDS_SEQ n m) d.feedsSeq).put
        (LEn_TASKm_WCET_WCET n m) d.wcet
      (s.put (LEn_TASKm_CFG_START n m) (if d.rate = 1 then d.start else 0)).put
        (LEn_TASKm_CFG_DEADLINE n m) (if d.rate = 1 then d.deadline else 0)
    | none => (s.setReg (LEn_TASKm_CFG n m) 0#32).setReg (LEn_TASKm_WCET n m) 0#32
  (s.put (LEn_STAT_NTASK n) (ds.length - 1)).putb (LEn_STAT_LOADED n) (!ds.isEmpty)

/-- The engine whose tasks engine `e` runs (R100): its own, those of an engine that has been moved onto it, or none. -/
def Hw.runsOf (s : Hw) (e : Nat) : Option Nat :=
  if e = 20 ∨ e = 21 then (s.le.place.find? fun q => q.2 == some e).map (·.1)
  else if (smapGet none s.le.place e).isSome then none else some e

/-- The engine that runs the tasks of engine `n`. -/
def Hw.hostOf (s : Hw) (n : Nat) : Nat := (smapGet none s.le.place n).getD n

/-- The tasks of engine `n` from a list of declarations, shown where they run. -/
def loadTasks (n : Nat) (ds : List TaskDecl) (s : Hw) : Hw :=
  showTasks (s.hostOf n) ds (s.each (List.range 8) fun m s => s.onTask n m fun _ => { decl := ds[m]? })

/-- The declared tasks of engine `n`, in order. -/
def Hw.declsOf (s : Hw) (n : Nat) : List TaskDecl := (List.range 8).filterMap fun m => (s.taskOf n m).decl

/-! ### Budget and mirror checks (R87, R92) -/

/-- Core cycles of a TICK window (R87). -/
def windowCycles (d : TaskDecl) : Nat := (d.deadline - d.start) * 2037 / 512

/-- Two TICK windows overlap. -/
def windowsMeet (a b : TaskDecl) : Bool := decide (a.start < b.deadline) && decide (b.start < a.deadline)

/-- No two of a list of TICK tasks overlap. -/
def windowsApart : List TaskDecl → Bool
  | [] => true
  | d :: ds => ds.all (fun e => !windowsMeet d e) && windowsApart ds

/-- R87 for the tasks of one engine. -/
def budgetOk (ds : List TaskDecl) : Bool :=
  let tick := ds.filter (·.rate == 1)
  let frame := ((ds.filter (·.rate == 2)).map (·.wcet)).sum
  let slow := ((ds.filter (·.rate == 3)).map (·.wcet)).sum
  let used := (tick.map windowCycles).sum + 8 * tick.length
  let b := 2037 - used
  windowsApart tick && tick.all (fun d => decide (d.wcet + 4 ≤ windowCycles d)) && decide (used ≤ 2037) &&
    decide (frame ≤ 16 * b) && decide (slow + 33 * frame ≤ 500 * b)

/-- A declaration that R85 admits. -/
def declOk (d : TaskDecl) : Bool :=
  decide (1 ≤ d.rate) && decide (d.rate ≤ 3) &&
    (d.rate != 1 || (decide (110 ≤ d.start) && decide (d.start < d.deadline) && decide (d.deadline ≤ 511))) &&
    (!d.feedsSeq || (d.rate == 1 && decide (d.deadline ≤ 184)))

/-- The ranges that the tasks of a part mirror. -/
def partMirror (p : EngineDecl) : List MirrorDecl := p.tasks.flatMap (·.mirror)

/-- The monitor word of the part's injection point `j` (R85). -/
def partMonitor (p : EngineDecl) (j : Nat) : Option Nat := ((p.tasks.flatMap (·.points)).find? fun x => x.1 == j).bind (·.2)

/-- Words that a list of parts mirrors with the kernel's 86 and 120 (R111): TICK-marked and all (R92). -/
def mirrorWords (ps : List EngineDecl) : Nat × Nat :=
  let ms := ps.flatMap partMirror
  (86 + ((ms.filter (·.tick)).map (·.words)).sum, 120 + (ms.map (·.words)).sum)

/-- A part that a customer image may carry (R98, Table LPE-1): any tasks on a customer engine, on LE22 and LE23 scan tasks. DESIGN CHOICE
(log entry 142): a TICK task of these two is a generator, any other a scan task. -/
def customerPart (p : EngineDecl) : Bool :=
  (decide (12 ≤ p.engine) && decide (p.engine ≤ 19)) || ((p.engine == 22 || p.engine == 23) && p.tasks.all fun t => t.rate != 1)

/-- Declarations that LE22 and LE23 can have: a generator task that runs in every tick, on LE22 a scan task with it, and all of them
within R85 and R87 with room for another task (R79). -/
def generatorOk (n : Nat) (ds : List TaskDecl) : Bool :=
  (ds.head?.any fun d => d.rate == 1) && decide (ds.length ≤ 7) && (n != 22 || ds.any fun d => d.rate != 1) && ds.all declOk && budgetOk ds

/-- The generator tasks of LE22 and LE23 and the scan task of LE22, of a firmware version. DESIGN CHOICE (log entry 142): the TICK tasks
are the generators, and where the free list is none that R79 admits, one generator and one scan task stand for it. -/
def generatorDecls (fw n : Nat) : List TaskDecl :=
  let ds := Config.generatorTasks fw n
  if generatorOk n ds then ds else ⟨1, 110, 134, false, 88⟩ :: (if n = 22 then [⟨2, 0, 0, false, 1000⟩] else [])

/-- Task `m` of engine `n` is a generator task. -/
def isGenerator (fw n m : Nat) : Bool := (n == 22 || n == 23) && ((generatorDecls fw n)[m]?.any fun d => d.rate == 1)

/-- The tasks that engine `n` runs with a part: LE22 and LE23 keep their generator tasks. -/
def partTasks (fw : Nat) (p : EngineDecl) : List TaskDecl :=
  (if p.engine = 22 ∨ p.engine = 23 then generatorDecls fw p.engine else []) ++ p.tasks.map (·.toTaskDecl)

/-- A byte address of a word of data memory; of state memory. -/
def dataAddr (a : Nat) : Bool := decide (a < 0x8000) && a % 2 == 0
def stateAddr (a : Nat) : Bool := decide (0x4000 ≤ a) && dataAddr a

/-- The offset of a Region Selector register in an engine's window (Tables LPE-14 to LPE-16). -/
def regionOffset (o : Nat) : Bool :=
  o % 4 == 0 && (o == 0x40 || (decide (0x50 ≤ o) && decide (o < 0x90) && decide (o % 16 < 12)) || (decide (0x180 ≤ o) && decide (o < 0x200)))

/-- The word that a part's Region Selector settings give an offset; 0 where they do not name it. -/
def partRegion (p : EngineDecl) (o : Nat) : Nat := ((p.region.filter fun r => r.1 == o).getLast?.map (·.2)).getD 0

/-- Words of Region Selector inputs, four times (ADDR, TA, TB), out of order: thresholds T1 ≤ T2 ≤ T3, a hysteresis that is not
negative (R93). -/
def inputsBad (inputs : List Nat) : Bool :=
  (List.range 4).any fun i =>
    let ta := inputs.getD (3 * i + 1) 0
    let tb := inputs.getD (3 * i + 2) 0
    decide (signed 16 (ta / 65536) < signed 16 ta) || decide (signed 16 tb < signed 16 (ta / 65536)) ||
      decide (signed 16 (tb / 65536) < 0)

/-- The inputs of a part's Region Selector. -/
def partInputs (p : EngineDecl) : List Nat :=
  (List.range 4).flatMap fun i => (List.range 3).map fun k => partRegion p (0x50 + 0x10 * i + 4 * k)

/-- A part is well formed (R85, R92 to R94). -/
def partOk (fw : Nat) (p : EngineDecl) : Bool :=
  decide ((partTasks fw p).length ≤ 8) && !p.tasks.isEmpty && (partTasks fw p).all declOk &&
    decide (p.code.length ≤ 65536) && p.state.all (fun w => stateAddr w.1) &&
    p.tasks.all (fun t => decide (t.entry < 65536) && t.points.all fun x => decide (x.1 < 8) && x.2.all dataAddr) &&
    (partMirror p).all (fun r => stateAddr r.addr && decide (r.addr + 2 * r.words ≤ 0x8000)) &&
    decide (p.pairs.length ≤ 16) && p.pairs.all (fun b => stateAddr b.iAddr && stateAddr b.eAddr && decide (b.p < 64) && decide (b.q < 64)) &&
    decide (p.formats.length ≤ 64) && p.formats.all (fun m => decide (1 ≤ m) && decide (m ≤ 8)) && p.region.all (fun r => regionOffset r.1) &&
    !inputsBad (partInputs p)

/-- The parts in use, with those of an image in place of the parts of the engines it names. -/
def Hw.partsWith (s : Hw) (ps : List EngineDecl) : List EngineDecl :=
  (s.le.engines.filterMap fun e => if ps.any (·.engine == e.1) then none else e.2.part) ++ ps

/-! ### Periods and deadlines (R86, R88 to R91) -/

/-- A rate boundary: the tasks of the rate are due (R86). -/
def leTick (frame slow : Bool) (s : Hw) : Hw :=
  s.taskKeys.foldl (fun s k =>
    let n := k / 8
    let m := k % 8
    match (s.taskOf n m).decl with
    | none => s
    | some d =>
      if d.rate = 1 then
        s.onTask n m fun t => { t with due := true, started := false, lost := false, ended := false, stateW := [],
                                       kernW := [], out := [] }
      else if (d.rate = 2 ∧ frame) ∨ (d.rate = 3 ∧ slow) then s.onTask n m fun t => { t with isOver := t.due, due := true }
      else s) s

/-- The part declares itself degraded (R90, R91). -/
def declareDegraded (n : Nat) (s : Hw) : Hw :=
  let again := s.flag LE_CLSTAT_DEGRADED && decide (s.le.degTick = s.ticks) && decide (n < s.get LE_CLSTAT_DEG_ENGINE)
  if s.flag LE_CLSTAT_DEGRADED && !again then s
  else
    let s := (s.put LE_CLSTAT_DEGRADED 1).put LE_CLSTAT_DEG_ENGINE n
    let s := s.onLe fun c => { c with degTick := s.ticks }
    if s.active && (!s.hasTwin || s.peerUnhealthy) then s.tripPulse cDlmissK else s

/-- The cross-spectrum unit changed. -/
def Hw.onXsp (s : Hw) (f : XspSt → XspSt) : Hw := { s with chr := { s.chr with xsp := f s.chr.xsp } }

/-- A run of the cross-spectrum unit ends without results; the records of one that has completed may still wait. -/
def xspAbort (s : Hw) : Hw :=
  if s.flag CHR_XSP_STAT_BUSY then
    ((s.put CHR_XSP_STAT_BUSY 0).raise CHR_XSP_STAT_ABORTED).onXsp fun x => { copy := x.copy, acc := if x.copy.isSome then x.acc else [] }
  else s

/-- The run in progress is linked to injection point `j` of engine `n` (R353). -/
def Hw.xspLinked (s : Hw) (n j : Nat) : Bool :=
  s.flag CHR_XSP_STAT_BUSY && s.flag CHR_XSP_CFG_LINK && s.get CHR_XSP_CFG_INJ_ENG == n && s.get CHR_XSP_CFG_INJ_PT == j

/-- R97: a running point is aborted; INJ adds 0 from the next tick. A run linked to the point ends (R353). -/
def injAbort (n j : Nat) (s : Hw) : Hw :=
  let s := (s.raiseBit (LEn_INJSTAT_ABORT n) j).trgEvent 1
  let s := if s.xspLinked n j then xspAbort s else s
  s.onEng n fun e => { e with inj := smapSet {} e.inj j { smapGet {} e.inj j with stopDue := true } }

/-- Every running point (engine, point) that satisfies a predicate. -/
def Hw.injRunning (s : Hw) (p : Nat → Nat → Bool) : List (Nat × Nat) :=
  s.le.engines.flatMap fun e => ((bitsOf 8 (s.get (LEn_STAT_INJ_RUN e.1))).filter (p e.1)).map fun j => (e.1, j)

/-! ### Rotations in progress (R100, R101) -/

/-- The rotation onto spare `p`; a change of it. -/
def Hw.rotOf (s : Hw) (p : Nat) : RotSt := smapGet {} s.le.rots p
def Hw.onRot (s : Hw) (p : Nat) (f : RotSt → RotSt) : Hw := s.onLe fun c => { c with rots := smapSet {} c.rots p (f (s.rotOf p)) }

/-- A rotation onto spare `p` is in progress; engine `n` is under rotation. -/
def Hw.rotating (s : Hw) (p : Nat) : Bool := (s.rotOf p).phase != 0
def Hw.underRotation (s : Hw) (n : Nat) : Bool := [0, 1].any fun p => s.rotating p && (s.rotOf p).src == n

/-- The spare whose rotation has the engine's tasks compared: in its shadow frames, on the way out or back. -/
def Hw.inShadow (s : Hw) (n : Nat) : Option Nat :=
  [0, 1].find? fun p => s.rotating p && (s.rotOf p).src == n && decide (0 < (s.rotOf p).left)

/-- The engine whose tasks or copy spare `p` carries. -/
def Hw.carried (s : Hw) (p : Nat) : Option Nat :=
  if !(s.rotOf p).test && ((s.rotating p && (s.rotOf p).copied) || decide (2 ≤ (s.rotOf p).phase)) then some (s.rotOf p).src
  else s.runsOf (20 + p)

/-- LE_ROT shows the rotation commanded last, or the other where that has ended. -/
def rotShow (s : Hw) : Hw :=
  let p := if s.rotating s.le.shown || !s.rotating (1 - s.le.shown) then s.le.shown else 1 - s.le.shown
  let r := s.rotOf p
  if s.rotating p then
    ((((s.put LE_ROT_BUSY 1).put LE_ROT_PHASE r.phase).put LE_ROT_SRC r.src).put LE_ROT_SPARE p).put LE_ROT_SHADOW_M1 r.shadow
  else (s.put LE_ROT_BUSY 0).put LE_ROT_PHASE 0

/-- The rotation onto spare `p` ends: the tasks stay where they are, and the engine that runs none shows none (R79). -/
def rotEnds (p : Nat) (s : Hw) : Hw :=
  let n := (s.rotOf p).src
  let freed := if s.hostOf n = 20 + p then n else 20 + p
  showTasks freed [] (rotShow (s.onRot p fun _ => {}))

/-- The contents of an engine's scratch memory are lost (R80). -/
def scratchLost (n : Nat) (s : Hw) : Hw :=
  let s := s.onEng n fun e => { e with scratch := [], lostAt := some s.free }
  { s with free := s.free + 1 }

/-- The word at byte address `a` of the data memory of engine `n`. A spare's state memory holds what it carries. DESIGN CHOICE (log entry
143): of a kernel engine, whose addresses the spec does not give, a free function of the kernel's variables. -/
def Hw.dataWord (s : Hw) (n a : Nat) : Nat :=
  let src := if n = 20 ∨ n = 21 then s.carried (n - 20) else none
  let of := fun (n : Nat) => if n < 12 then (Config.kernelWord n a s.le.kern).toNat else smapGet 0 (s.engOf n).dmem (a / 2)
  if a < 0x4000 then
    match smapGet none (s.engOf n).scratch (a / 2), (s.engOf n).lostAt with
    | some v, _ => v
    | none, some k => (Config.scratchWord k n a).toNat
    | none, none => if n < 12 then of n else 0
  else match src with
    | some x => of x
    | none => of n

/-- A deadline miss of task `m` of engine `n` on the engine `e` that runs it (R89, R90, R97, R101). -/
def deadlineMiss (e n m : Nat) (s : Hw) : Hw :=
  let s := ((s.raise (LEn_TASKm_STAT_DLMISS e m)).bump (LEn_TASKm_STAT_MISS_CNT e m)).put (LEn_TASKm_STAT_CONSEC e m)
    (min 16 (s.get (LEn_TASKm_STAT_CONSEC e m) + 1))
  let s := (s.raise SYS_TISTAT_DLMISS_SEEN).trgEvent 3
  let s := { s with int := { s.int with tiFail := true } }
  let s := (if isGenerator s.sto.fwVersion n m then s.injRunning fun k j => (smapGet {} (s.engOf k).inj j).gen == n else []).foldl
    (fun s p => injAbort p.1 p.2 s) s
  let s := match s.inShadow n with | some p => rotEnds p s | none => s
  let s := scratchLost e s
  if s.modeIn [mForm, mRide] && decide (s.liveGet LE_CLCFG_K ≤ s.get (LEn_TASKm_STAT_CONSEC e m)) then declareDegraded e s else s

/-- A task's deadline offset (R84, R89): its commits become readable, or its run is abandoned. Those of a FRAME or SLOW task
are among what its period's first tick latches; a slow boundary inside a frame leaves what FRAME tasks read (R16). `shadowMiss` says that
the spare shadowing it missed the same deadline (R101). Engine `e` runs the task of engine `n`. -/
def taskDeadline (e n m : Nat) (shadowMiss : Bool) (s : Hw) : Hw :=
  let t := s.taskOf n m
  let tick := match t.decl with | some d => d.rate == 1 | none => false
  let go := t.decl.isSome && (if tick then t.due else t.isOver)
  if !go then s
  else
    let s := match shadowMiss, s.inShadow n with | true, some p => rotEnds p s | _, _ => s
    let s := s.onTask n m fun t =>
      { t with due := if tick then false else t.due, isOver := false, started := false, lost := false, ended := false,
               stateW := [], kernW := [], out := [] }
    if t.ended then
      let out := fun (x : SMap Nat) => t.out.foldl (fun x w => smapSet 0 x w.1 w.2) x
      let s := { (s.put (LEn_TASKm_STAT_CONSEC e m) 0) with xram := out s.xram }
      if (t.decl.any fun d => d.rate == 2) || (!tick && s.frameStart) then s.onLe fun c => { c with frameX := out c.frameX } else s
    else deadlineMiss e n m s

/-- Task `m` of engine `n` lets a task of rate `rate` declared at `at_` wait (R86): a TICK task in progress, an earlier FRAME task of the
frame, and for a SLOW task any FRAME task of the frame. -/
def Hw.taskBars (s : Hw) (n rate at_ m : Nat) : Bool :=
  let t := s.taskOf n m
  let other := t.decl.elim 0 (·.rate)
  m != at_ && ((other == 1 && t.started && !t.ended && !t.lost) ||
    (other == 2 && t.due && !t.isOver && !t.ended && !t.lost && (rate == 3 || (rate == 2 && decide (m < at_)))))

/-- The engine runs no other task in place of task `m` of engine `n` (R86). -/
def Hw.hasEngine (s : Hw) (n m : Nat) : Bool := !(List.range 8).any (s.taskBars n ((s.taskOf n m).decl.elim 0 (·.rate)) m)

/-- Task `m` of engine `n` executes END on engine `e`: its buffer is committed in write order (R88). A run that is preempted executes
nothing (R86). `differs` says that the commits of a shadowing spare differ (R100). -/
def taskEnd (e n m : Nat) (differs : Bool) (s : Hw) : Hw :=
  let t := s.taskOf n m
  if !t.started || t.ended || t.lost || s.flag (LEn_STAT_HALTED e) || !s.hasEngine n m then s
  else
    let s := s.onTask n m fun t => { t with ended := true }
    let s := s.onEng n fun e => { e with dmem := t.stateW.foldl (fun d w => smapSet 0 d w.1 w.2) e.dmem }
    let s := s.onLe fun c => { c with kern := t.kernW.foldl (fun k w => smapSet 0 k w.1 w.2) c.kern }
    match differs, s.inShadow n with | true, some p => rotEnds p (s.raise LE_ROT_MISMATCH) | _, _ => s

/-! ### Injection (R96, R97) -/

/-- What INJ adds at point `j` of engine `n`: the bound generator's sample of the tick, or 0. DESIGN CHOICE (log entry 18): a generator
writes its sample to the fourth word of its engine's output area, after the three of the scan task (R354). -/
def Hw.injSample (s : Hw) (n j : Nat) : Int :=
  if bitOf (s.get (LEn_STAT_INJ_RUN n)) j then s.xr (outArea (smapGet {} (s.engOf n).inj j).gen + 3) else 0

/-- The checks of R97 on the running points of engine `n` as a run starts. -/
def injCheck (n : Nat) (s : Hw) : Hw :=
  (bitsOf 8 (s.get (LEn_STAT_INJ_RUN n))).foldl (fun s j =>
    let mon := (match (s.engOf n).part with
      | some p => partMonitor p j
      | none => if n < 12 then Config.kernelMonitor n j else none).map fun a => signed 16 (s.dataWord n a)
    let far := match mon with | some v => decide (s.get (LEn_INJLIMj_MON n j) < v.natAbs) | none => false
    if decide (s.get (LEn_INJLIMj_LIM n j) < (s.injSample n j).natAbs) || far then injAbort n j s else s) s

/-- A generator signal within Table LPE-4. -/
def injGenOk : InjGen → Bool
  | .prbs n hold a => decide (7 ≤ n) && decide (n ≤ 15) && decide (1 ≤ hold) && decide (hold ≤ 65535) && decide (a < 32768)
  | .steppedSine fs dwell settle a =>
    decide (1 ≤ fs.length) && decide (fs.length ≤ 64) && fs.all (fun f => decide (7 ≤ f) && decide (f ≤ 1280000)) &&
      decide (1 ≤ dwell) && decide (dwell ≤ 65535) && decide (settle ≤ dwell) && decide (a < 32768)
  | .multisine ts period =>
    decide (1 ≤ ts.length) && decide (ts.length ≤ 32) && decide (1 ≤ period) && decide (period ≤ 65535) &&
      ts.all fun t => decide (t.2.1 < 32768)

/-- The peak amplitude of a generator: of a multisine, the sum of its tones' amplitudes (log entry 19). -/
def injPeak : InjGen → Nat
  | .prbs _ _ a => a
  | .steppedSine _ _ _ a => a
  | .multisine ts _ => (ts.map (·.2.1)).sum

/-- Stops and aborts take effect at a tick; a mode that leaves FORM and BLOCKED aborts every running point (R97). -/
def injTick (s : Hw) : Hw :=
  let s := if s.modeIn [mBlocked, mForm] then s else (s.injRunning fun _ _ => true).foldl (fun s p => injAbort p.1 p.2 s) s
  s.le.engines.foldl (fun s e =>
    e.2.inj.foldl (fun s p =>
      if (smapGet {} (s.engOf e.1).inj p.1).stopDue then
        (s.clearBit (LEn_STAT_INJ_RUN e.1) p.1).onEng e.1 fun g =>
          { g with inj := smapSet {} g.inj p.1 { smapGet {} g.inj p.1 with stopDue := false } }
      else s) s) s

/-- Starts take effect at a frame boundary (R96); until then a point that runs keeps its generator. -/
def injFrame (s : Hw) : Hw :=
  s.le.engines.foldl (fun s e =>
    e.2.inj.foldl (fun s p =>
      match p.2.next with
      | some (gen, x) =>
        (s.raiseBit (LEn_STAT_INJ_RUN e.1) p.1).onEng e.1 fun g =>
          { g with inj := smapSet {} g.inj p.1 { gen := gen, signal := some x } }
      | none => s) s) s

/-! ### Region Selector and gain sets (R93 to R95) -/

/-- The highest band whose condition holds (R93, step 3). -/
def bandOf (old : Nat) (x t1 t2 t3 hys : Int) : Nat :=
  let t : Nat → Int := fun j => if j = 1 then t1 else if j = 2 then t2 else t3
  let rise := ((List.range 4).filter fun j => j = 0 ∨ t j ≤ x).foldl max 0
  if old ≤ rise then rise
  else ((List.range (old + 1)).filter fun j => j = 0 ∨ t j - hys ≤ x).foldl max 0

/-- The band of input `i` of engine `n`. -/
def Hw.band (s : Hw) (n i : Nat) : Nat :=
  if s.flag (LEn_RINi_ADDR_EN n i) then
    bandOf (s.get (LEn_RSEL_BANDS n) / 4 ^ i % 4) (smapGet 0 (s.engOf n).rin i) (s.geti (LEn_RINi_TA_T1 n i))
      (s.geti (LEn_RINi_TA_T2 n i)) (s.geti (LEn_RINi_TB_T3 n i)) (s.geti (LEn_RINi_TB_HYS n i))
  else 0

/-- The set number that MAP holds at an index. -/
def Hw.rmapSet (s : Hw) (n idx : Nat) : Nat := (s.reg (LEn_RMAPj n (idx / 8))).toNat / 16 ^ (idx % 8) % 16

/-- R94: one pair rescaled from the old gains to the new ones. DESIGN CHOICE (log entry 141): a type I pair takes the gains p and q as the
integers of their words, also where their formats differ; with a new gain p of 0 the integrator is a free value. -/
def rescale (n : Nat) (old new : Nat → Int) (b : Bumpless) (s : Hw) : Hw :=
  let e := s.engOf n
  let m := match e.part with | some p => p.formats.getD b.p 1 | none => 1
  let err := signed 16 (smapGet 0 e.dmem (b.eAddr / 2))
  let x := signed 16 (smapGet 0 e.dmem (b.iAddr / 2))
  let kn := new b.p
  let num := old b.q * err + old b.p * x - new b.q * err
  let y : Int :=
    if b.typeI then
      if kn = 0 then signed 16 (Config.freeWord s.free).toNat
      else if 0 < kn then roundDiv num kn else roundDiv (-num) (-kn)
    else x + shrRound ((old b.p - kn) * err) (16 - m)
  let s := { s with free := s.free + 1 }
  let s := if satInt 16 y = y then s else s.raise (LEn_STAT_RESC_SAT n)
  s.onEng n fun e => { e with dmem := smapSet 0 e.dmem (b.iAddr / 2) (unsigned 16 (satInt 16 y)) }

/-- One engine at a frame boundary: gain sets loaded, set selected, pairs rescaled. -/
def regionFrame (n : Nat) (s : Hw) : Hw :=
  let e := s.engOf n
  let oldSet := s.get (LEn_RSEL_ACTIVE_SET n)
  let old := e.gains
  let bands := (List.range 4).map (s.band n)
  let idx := bands.foldr (fun b a => b + 4 * a) 0
  let newSet := if s.flag (LEn_RSEL_FORCE n) then s.get (LEn_RSEL_FORCE_SET n) else s.rmapSet n idx
  let s := (s.put (LEn_RSEL_BANDS n) idx).put (LEn_RSEL_ACTIVE_SET n) newSet
  let s := s.onEng n fun e =>
    { e with gains := e.gainDue.foldl (fun g d => (d.2.getD []).zipIdx.foldl (fun g p => smapSet 0 g (64 * d.1 + p.2) p.1) g) e.gains
             gainDue := [] }
  let s := if e.gainDue.isEmpty then s else s.raise STO_STAT_CHK_BUSY
  let new := (s.engOf n).gains
  let changed := oldSet != newSet || (e.gainDue.any fun d => d.1 == newSet)
  let pairs := match e.part with | some p => p.pairs | none => []
  if changed then
    pairs.foldl (fun s b => rescale n (fun j => signed 16 (smapGet 0 old (64 * oldSet + j)))
      (fun j => signed 16 (smapGet 0 new (64 * newSet + j))) b s) s
  else s

/-- Engine `n` has something to do at a frame boundary: a Region Selector register away from reset, or a load due. -/
def Hw.regionBusy (s : Hw) (n : Nat) : Bool :=
  let base := LEn_STAT n
  s.regs.any (fun r => decide (base + 0x40 ≤ r.1) && decide (r.1 < base + 0x200)) || !(s.engOf n).gainDue.isEmpty

/-- R93, step 2: the inputs read at the Sequencer latch of the last tick of a frame. -/
def regionRead (s : Hw) : Hw :=
  if s.time.tickNo % 16 ≠ 15 then s
  else
    s.each ((List.range 24).filter s.regionBusy) fun n s =>
      s.each (List.range 4) fun i s =>
        if s.flag (LEn_RINi_ADDR_EN n i) then
          s.onEng n fun e => { e with rin := smapSet 0 e.rin i (s.xr (s.get (LEn_RINi_ADDR_WADDR n i))) }
        else s

/-! ### Images (R98, R99, R409) -/

/-- The Region Selector registers of engine `n`. -/
def regionRegs (n : Nat) : List Nat :=
  LEn_RSEL n :: (List.range 4).flatMap (fun i => [LEn_RINi_ADDR n i, LEn_RINi_TA n i, LEn_RINi_TB n i]) ++
    (List.range 32).map (LEn_RMAPj n)

/-- A part's program, state, tasks and settings loaded into its engine; a Region Selector register that the part does not name has its
reset value. -/
def loadPart (fw : Nat) (p : EngineDecl) (s : Hw) : Hw :=
  let n := p.engine
  let s := loadTasks n (partTasks fw p) s
  let s := s.onEng n fun e =>
    { e with code := p.code, part := some p
             dmem := p.state.foldl (fun d w => smapSet 0 d (w.1 / 2) (w.2 % 65536)) [] }
  let s := (regionRegs n).foldl (fun s a => s.setWord a (regReset a).toNat) (scratchLost (s.hostOf n) s)
  p.region.foldl (fun s r => s.setWord (LEn_STAT n + r.1) r.2) s

/-- The customer part leaves an engine; LE22 and LE23 keep their generator tasks. -/
def unloadPart (fw n : Nat) (s : Hw) : Hw :=
  let ds := if n = 22 ∨ n = 23 then generatorDecls fw n else []
  (loadTasks n ds s).onEng n fun e => { e with code := [], part := none, dmem := [] }

/-- The engines that run a customer part. -/
def Hw.customerParts (s : Hw) : List EngineDecl := s.le.engines.filterMap fun e => e.2.part

/-- The version of the running firmware. -/
def Hw.fwVersion (s : Hw) : Nat := s.sto.fwVersion

/-- An image is activated (R99): its engines run it, and the working copy holds it. -/
def imageLoad (img : Image) (s : Hw) : Hw :=
  let s := img.parts.foldl (fun s p => loadPart s.fwVersion p s) s
  let s := s.onLe fun c => { c with imgReady := if c.imgReady = some img then none else c.imgReady }
  let kept := s.sto.images.filter fun i => i.parts.any fun p => !img.parts.any (·.engine == p.engine)
  ({ s with sto := { s.sto with images := kept ++ [img] } } : Hw).raise STO_STAT_CHK_BUSY

/-- The activations that fall due at a frame boundary (R99), each of the image that was ready at its acceptance. -/
def imageFrame (s : Hw) : Hw :=
  let due := s.le.imgDue
  if due.isEmpty then s
  else (due.foldl (fun s i => imageLoad i s) (s.onLe fun c => { c with imgDue := [] })).finishKind .imageActivate .ok

/-- A revocation takes every customer part out at a frame boundary (R409); an activation that waits for that boundary fails. -/
def revokeFrame (s : Hw) : Hw :=
  if s.sto.revokePend then
    let s := s.customerParts.foldl (fun s p => unloadPart s.fwVersion p.engine s) s
    ({ s with sto := { s.sto with revokePend := false, images := [] }
              le := { s.le with imgReady := none, imgDue := [] } } : Hw).raise STO_STAT_CHK_BUSY |>.finishKind .imageActivate .imageInvalid
  else s

/-! ### Rotation (R100, R101) -/

/-- The tasks of engine `n` pass from engine `a` to engine `b`: `a` is free and shows none; the runs on `b` have ended on time, and
neither scratch memory is kept. -/
def handOver (n a b : Nat) (s : Hw) : Hw :=
  let s := s.onLe fun c => { c with place := smapSet none c.place n (if b = n then none else some b) }
  let s := showTasks b (s.declsOf n) (showTasks a [] s)
  scratchLost b (scratchLost a (s.each (List.range 8) fun m s => s.put (LEn_TASKm_STAT_CONSEC b m) 0))

/-- The rotation onto spare `p` at a frame boundary. After the copy the shadow frames run; at their end the spare's output area takes
the engine's place, or on the way back the engine takes its own again and the spare tests itself. -/
def rotFrameOf (p : Nat) (s : Hw) : Hw :=
  let r := s.rotOf p
  if r.phase = 0 then s
  else if r.left = 1 then
    if r.phase = 4 then handOver r.src (20 + p) r.src (s.onRot p fun r => { r with left := 0, shadowed := false, test := true })
    else handOver r.src r.src (20 + p) (s.onRot p fun r => { r with phase := 3, left := 0, shadowed := false, copied := false })
  else if 1 < r.left then s.onRot p fun r => { r with left := r.left - 1 }
  else if r.copied && !r.test && (r.phase == 1 || r.phase == 4) then
    s.onRot p fun r => { r with phase := if r.phase = 1 then 2 else 4, left := r.shadow + 1 }
  else s

/-- A spare that runs an engine's tasks follows its Region Selector (R101). -/
def spareFollows (p : Nat) (s : Hw) : Hw :=
  match s.carried p with
  | none => s
  | some n =>
    let s := (s.put (LEn_RSEL_ACTIVE_SET (20 + p)) (s.get (LEn_RSEL_ACTIVE_SET n))).put (LEn_RSEL_BANDS (20 + p)) (s.get (LEn_RSEL_BANDS n))
    s.onEng (20 + p) fun e => { e with gains := (s.engOf n).gains }

/-- Both spares at a frame boundary. -/
def rotFrame (s : Hw) : Hw :=
  let s := s.each [0, 1] rotFrameOf
  (if [0, 1].any s.rotating then rotShow s else s).each [0, 1] spareFollows

/-- ROTATION_COPY_DONE, of the first rotation that copies: the spare has the engine's program, tasks and state. DESIGN CHOICE (log entry
20): where both rotations await such an event, it is that of LE20. -/
def rotCopyDone (s : Hw) : Hw :=
  match [0, 1].find? fun p => let r := s.rotOf p; (r.phase == 1 || (r.phase == 4 && !r.test)) && !r.copied with
  | none => s
  | some p =>
    let r := s.rotOf p
    let s := s.onRot p fun r => { r with copied := true }
    if r.phase = 1 then
      (showTasks (20 + p) (s.declsOf r.src) s).onEng (20 + p) fun e => { e with code := (s.engOf r.src).code, gains := (s.engOf r.src).gains }
    else showTasks r.src (s.declsOf r.src) s

/-- ROTATION_SHADOW_END: in the last shadow frame, its runs have been compared; handover follows at the next frame boundary. -/
def rotShadowEnd (s : Hw) : Hw :=
  match [0, 1].find? fun p => (s.rotOf p).left == 1 && !(s.rotOf p).shadowed with
  | some p => s.onRot p fun r => { r with shadowed := true }
  | none => s

/-- LE_BIST_DONE: the self-test of the freed engine ends, after the return that of the spare. A failure leaves the tasks where they are. -/
def bistDone (pass : Bool) (s : Hw) : Hw :=
  match [0, 1].find? fun p => (s.rotOf p).phase == 3 || (s.rotOf p).test with
  | none => s
  | some p =>
    let r := s.rotOf p
    let n := if r.phase = 3 then r.src else 20 + p
    if !pass then rotEnds p ((s.raise LE_ROT_BIST_FAIL).raiseBit LE_CLSTAT_LE_FAULT n)
    else
      let s := s.clearBit LE_CLSTAT_LE_FAULT n
      if r.phase = 3 then rotShow (s.onRot p fun r => { r with phase := 4 }) else rotEnds p s

/-- A mode change to RIDE-THROUGH or TRIPPED ends a rotation in COPY or SHADOW (R101). -/
def rotMode (s : Hw) : Hw :=
  if s.modeIn [mRide, mTripped] then
    s.each ([0, 1].filter fun p => (s.rotOf p).phase == 1 || (s.rotOf p).phase == 2) rotEnds
  else s

/-! ### Frame boundary -/

/-- The cluster at a frame boundary. -/
def leFrame (s : Hw) : Hw :=
  let s := imageFrame (revokeFrame s)
  let s := s.each ((List.range 24).filter s.regionBusy) regionFrame
  injFrame (rotFrame (s.finishKind .gainset .ok))

/-! ### Register writes -/

/-- LE_CLCFG and the engine windows (Table LPE-7, R93, R98). -/
def leWrite (s : Hw) (w : Wr) : Judged :=
  if w.addr = LE_CLCFG then
    judge [(outside 1 16 (w.val LE_CLCFG_K) || outside 4 64 (w.val LE_CLCFG_DEG_TMO), .range)] (s.writeAs w)
  else if LEn_STAT 0 ≤ w.addr then
    let n := (w.addr - LEn_STAT 0) / 0x10000
    let o := (w.addr - LEn_STAT 0) % 0x10000
    let i := (o - 0x50) / 0x10
    let t := s.writeAs w
    if 0x50 ≤ o ∧ o < 0x90 then
      judge [(decide (t.geti (LEn_RINi_TA_T2 n i) < t.geti (LEn_RINi_TA_T1 n i)) && o % 16 == 4, .range),
             (decide (t.geti (LEn_RINi_TB_T3 n i) < t.geti (LEn_RINi_TA_T2 n i)) && (o % 16 == 4 || o % 16 == 8), .range),
             (decide (t.geti (LEn_RINi_TB_HYS n i) < 0), .range)] t
    else .ok t
  else .ok (s.writeAs w)

/-! ### Commands (Table LPE-5) -/

/-- 0x0500 LE_STATUS_GET: LEn_STAT, the CFG and STAT of the 8 tasks, LE_CLSTAT, LE_ROT. -/
def execLeStatusGet (h : Hdr) (engine : Nat) (s : State) : Host.Outcome State Fault Refusal :=
  .next (s.onHw (hostCmd (Op.plain 0x0500 .viewer) (.leStatusGet h engine) h fun s =>
    checked s [(decide (24 ≤ engine), .range)]
      (answer s (regBytes s (LEn_STAT engine :: (List.range 8).flatMap (fun m => [LEn_TASKm_CFG engine m,
        LEn_TASKm_STAT engine m]) ++ [LE_CLSTAT, LE_ROT])))))

/-- A field of the 64-byte header of Table STO-3, little-endian. -/
def imgField (bs : List Byte) (at_ n : Nat) : Nat := leNat ((bs.drop at_).take n)

/-- The body of a signed image (Table STO-3). -/
def imgBody (bs : List Byte) : List Byte := (bs.drop 0x1000).take (imgField bs 0x0C 4)

/-- R410: MAGIC, SIG and DIGEST of a customer image against a key. -/
def customerImageOk (key bs : List Byte) : Bool :=
  decide (imgField bs 0 4 = 0x3149434B) && Config.xmssVerify key (bs.take 0x40) ((bs.drop 0x40).take 2820) &&
    decide (imgField bs 0x10 32 = Config.shake256 (imgBody bs) 256)

/-- The checks of R98 on a whole image, in the order of Table LPE-5. -/
def imageJudge (s : Hw) (bs : List Byte) : Except Status Image :=
  let key := s.nv.custKey.getD []
  let ps := (Config.imageParts (imgBody bs)).getD []
  let fw := s.fwVersion
  let (tick, all) := mirrorWords (s.partsWith ps)
  match firstFail
    [(!customerImageOk key bs, .sigInvalid), (ps.any (fun p => !customerPart p), .engineReserved),
     (ps.any (fun p => !budgetOk (partTasks fw p)), .budgetExceeded),
     (decide (1024 < tick) || decide (8192 < all), .mirrorExceeded),
     (ps.isEmpty || ps.any (fun p => !partOk fw p) || decide ((ps.map (·.engine)).eraseDups.length < ps.length), .imageInvalid)] with
  | some st => .error st
  | none => .ok ⟨ps, imgField bs 0x10 32, bs⟩

/-- 0x0501 LE_IMAGE_LOAD (R98): a chunk is entered; with the final one the image is judged whole. -/
def execLeImageLoad (h : Hdr) (offset len : Nat) (bytes : List Byte) (final : Bool) (s : State) :
    Host.Outcome State Fault Refusal :=
  .next (s.onHw (hostCmd (Op.plain 0x0501 .engineer) (.leImageLoad h offset len bytes final) h fun s =>
    checked s [(!s.cfgMode, .modeNotAllowed), (decide (bytes.length ≠ len), .length), (s.nv.custKey.isNone, .keyNotEnrolled)]
      (let t := s.onLe fun c => { c with imgBuf := memWriteList c.imgBuf offset bytes }
       if final then
         let bs := memReadList t.le.imgBuf 0 (offset + len)
         match imageJudge t bs with
         | .error st => { change (t.onLe fun c => { c with imgBuf := [] }) [] with status := st }
         | .ok img => change (t.onLe fun c => { c with imgBuf := [], imgReady := some img })
             (digestChg 0x0501 [] bs)
       else change t (cmdChg 0x0501 offset len))))

/-- 0x0502 LE_IMAGE_ACTIVATE (R99, R101): replies after the frame boundary. -/
def execLeImageActivate (h : Hdr) (s : State) : Host.Outcome State Fault Refusal :=
  .next (s.onHw (hostCmd (Op.plain 0x0502 .engineer) (.leImageActivate h) h fun s =>
    let ps := match s.le.imgReady with | some i => i.parts | none => []
    checked s [(!s.cfgMode, .modeNotAllowed), (ps.isEmpty, .imageInvalid),
      (ps.any (fun p => s.underRotation p.engine), .rotBusy)]
      (changeWait (s.onLe fun c => { c with imgDue := c.imgDue ++ c.imgReady.toList }) (cmdChg 0x0502 0 0) .imageActivate)))

/-- 0x0503 LE_CLCFG_SET. -/
def execLeClcfgSet (h : Hdr) (k degTmo : Nat) (s : State) : Host.Outcome State Fault Refusal :=
  .next (s.onHw (hostCmd (Op.plain 0x0503 .engineer) (.leClcfgSet h k degTmo) h fun s =>
    checked s [(outside 1 16 k || outside 4 64 degTmo, .range)]
      (let t := (s.put LE_CLCFG_K k).put LE_CLCFG_DEG_TMO degTmo
       change t (regChgs s t [LE_CLCFG]))))

/-- The status registers of every task of engine `n`. -/
def taskStats (n : Nat) : List Nat := (List.range 8).map (LEn_TASKm_STAT n)

/-- 0x0504 LE_MISS_CLEAR: MISS_CNT and DLMISS of the named engines. -/
def execLeMissClear (h : Hdr) (mask : Nat) (s : State) : Host.Outcome State Fault Refusal :=
  .next (s.onHw (hostCmd (Op.plain 0x0504 .operator) (.leMissClear h mask) h fun s =>
    let ns := bitsOf 24 mask
    let t := s.each ns fun n s => s.each (List.range 8) fun m s =>
      (s.put (LEn_TASKm_STAT_MISS_CNT n m) 0).put (LEn_TASKm_STAT_DLMISS n m) 0
    change t (regChgs s t (ns.flatMap taskStats))))

/-- A spare that carries nothing: LE20, then LE21. -/
def Hw.freeSpare (s : Hw) : Option Nat :=
  [0, 1].find? fun p => !s.rotating p && !(s.le.place.any fun q => q.2 == some (20 + p))

/-- The rotation of engine `n` onto spare `p` begins with its copy. -/
def rotStart (n p shadowM1 : Nat) (s : Hw) : Hw :=
  rotShow ((s.onRot p fun _ => { src := n, phase := 1, shadow := shadowM1 }).onLe fun c => { c with shown := p })

/-- 0x0505 LE_ROTATE (R100, R101): refused for an engine under rotation or away from its place, and without a free spare. -/
def execLeRotate (h : Hdr) (engine shadowM1 : Nat) (s : State) : Host.Outcome State Fault Refusal :=
  .next (s.onHw (hostCmd (Op.plain 0x0505 .engineer) (.leRotate h engine shadowM1) h fun s =>
    checked s [(decide (20 ≤ engine) || decide (16 ≤ shadowM1), .range),
      (s.freeSpare.isNone || s.underRotation engine || (smapGet none s.le.place engine).isSome, .rotBusy)]
      (let t := rotStart engine (s.freeSpare.getD 0) shadowM1 s
       change t (regChgs s t [LE_ROT]))))

/-- The words of LE_REGION_CFG out of range (R93). -/
def regionBad (inputs : List Nat) (force forceSet : Nat) : Bool :=
  decide (2 ≤ force) || decide (16 ≤ forceSet) || inputsBad inputs

/-- 0x0506 LE_REGION_CFG (R93): `inputs` holds four times (ADDR, TA, TB). -/
def execLeRegionCfg (h : Hdr) (engine : Nat) (inputs maps : List Nat) (force forceSet : Nat) (s : State) :
    Host.Outcome State Fault Refusal :=
  .next (s.onHw (hostCmd (Op.plain 0x0506 .engineer) (.leRegionCfg h engine inputs maps force forceSet) h fun s =>
    checked s [(decide (24 ≤ engine) || regionBad inputs force forceSet, .range),
      (decide (inputs.length ≠ 12) || decide (maps.length ≠ 32), .length)]
      (let t := s.each (List.range 4) fun i s =>
         ((s.setWord (LEn_RINi_ADDR engine i) (inputs.getD (3 * i) 0)).setWord (LEn_RINi_TA engine i)
           (inputs.getD (3 * i + 1) 0)).setWord (LEn_RINi_TB engine i) (inputs.getD (3 * i + 2) 0)
       let t := t.each (List.range 32) fun j s => s.setWord (LEn_RMAPj engine j) (maps.getD j 0)
       let t := (t.put (LEn_RSEL_FORCE engine) force).put (LEn_RSEL_FORCE_SET engine) forceSet
       change t (regChgs s t (regionRegs engine)))))

/-- 0x0507 LE_GAINSET_LOAD (R95): replies after the frame boundary. -/
def execLeGainsetLoad (h : Hdr) (engine setNo : Nat) (gains : List Nat) (s : State) : Host.Outcome State Fault Refusal :=
  .next (s.onHw (hostCmd (Op.plain 0x0507 .engineer) (.leGainsetLoad h engine setNo gains) h fun s =>
    checked s [(decide (24 ≤ engine) || decide (16 ≤ setNo), .range), (decide (gains.length ≠ 64), .length)]
      (let t := s.onEng engine fun e => { e with gainDue := smapSet none e.gainDue setNo (some (gains.map (· % 65536))) }
       let old := (List.range 64).flatMap fun j => leBytes 2 (smapGet 0 (s.engOf engine).gains (64 * setNo + j))
       changeWait t (digestChg 0x0507 old (gains.flatMap (leBytes 2))) .gainset)))

/-- 0x0508 LE_INJ_START (R96, R298): generator engine, signal, LIM and MON; from the next frame boundary. -/
def execLeInjStart (h : Hdr) (engine point gen : Nat) (signal : InjGen) (lim mon : Nat) (s : State) :
    Host.Outcome State Fault Refusal :=
  .next (s.onHw (hostCmd (Op.plain 0x0508 .engineer) (.leInjStart h engine point gen signal lim mon) h fun s =>
    checked s [(s.standby, .twinStandby), (!s.modeIn [mBlocked, mForm], .modeNotAllowed),
      (decide (24 ≤ engine) || decide (8 ≤ point) || (gen != 22 && gen != 23) || decide (65536 ≤ lim) ||
        decide (65536 ≤ mon) || !injGenOk signal || decide (lim < injPeak signal), .range)]
      (let t := (s.put (LEn_INJLIMj_LIM engine point) lim).put (LEn_INJLIMj_MON engine point) mon
       let u := t.onEng engine fun e =>
         { e with inj := smapSet {} e.inj point { smapGet {} e.inj point with next := some (gen, signal) } }
       change u (regChgs s t [LEn_INJLIMj engine point] ++ cmdChg 0x0508 0 (256 * engine + point)))))

/-- 0x0509 LE_INJ_STOP (R96). -/
def execLeInjStop (h : Hdr) (engine mask : Nat) (s : State) : Host.Outcome State Fault Refusal :=
  .next (s.onHw (hostCmd (Op.plain 0x0509 .operator) (.leInjStop h engine mask) h fun s =>
    let t := s.each (bitsOf 8 mask) fun j s => s.onEng engine fun e =>
      { e with inj := smapSet {} e.inj j { smapGet {} e.inj j with next := none, stopDue := true } }
    if engine < 24 then change t (cmdChg 0x0509 0 (256 * engine + mask)) else answer s []))

/-- The 16-bit word at a byte address of engine data memory (space 0) or of the Exchange RAM (space 1). -/
def Hw.varWord (s : Hw) (space engine addr : Nat) : Nat :=
  if space = 0 then s.dataWord engine addr else s.xrBits (addr / 2)

/-- 0x050A LE_VAR_READ (R80; the address is a byte address, log entry 21). -/
def execLeVarRead (h : Hdr) (space engine addr count : Nat) (s : State) : Host.Outcome State Fault Refusal :=
  .next (s.onHw (hostCmd (Op.plain 0x050A .viewer) (.leVarRead h space engine addr count) h fun s =>
    let size := if space = 0 then 0x8000 else 0x80000
    checked s [(decide (2 ≤ space) || decide (24 ≤ engine) || decide (512 < count) || decide (addr % 2 ≠ 0) ||
        decide (size < addr + 2 * count), .range)]
      (answer s ((List.range count).flatMap fun i => leBytes 2 (s.varWord space engine (addr + 2 * i))))))

/-! ### Events -/

/-- DEG_TMO_EXPIRY (R91): a degraded part with a twin is still ACTIVE DEG_TMO ticks after the declaration. -/
def execDegTmoExpiry (s : State) : Host.Outcome State Fault Refusal :=
  .next (s.onHw (onRun fun s =>
    if s.hasTwin && s.active && s.flag LE_CLSTAT_DEGRADED && decide (s.le.degTick + s.liveGet LE_CLCFG_DEG_TMO ≤ s.ticks) && !bitOf (s.get SYS_TRIPCAUSE_LATCHED) cDlmissK then
      s.tripPulse cDlmissK
    else s))

/-- ROTATION_COPY_DONE. -/
def execRotationCopyDone (s : State) : Host.Outcome State Fault Refusal := .next (s.onHw (onRun rotCopyDone))

/-- ROTATION_SHADOW_END. -/
def execRotationShadowEnd (s : State) : Host.Outcome State Fault Refusal := .next (s.onHw (onRun rotShadowEnd))

/-- LE_BIST_DONE. -/
def execLeBistDone (pass : Bool) (s : State) : Host.Outcome State Fault Refusal := .next (s.onHw (onRun (bistDone pass)))

end Sys2Proof.Machine
end

