-- ==== Sys2Proof/Machine/Trig.lean ====
section
/-! DEFINITION. Exact arithmetic that the spec's formulas need: square roots, sine and cosine of a fraction of a
revolution in fixed point, arctangent by bisection, the reference shape tables (R177), and the library routines of the
Loop Engines with the bounds the spec states for them (R82, R116). -/

namespace Sys2Proof.Machine

/-! ### Square roots -/

/-- One bit of a restoring square root: `r` so far, bit value `b`. -/
def isqrtBits (n : Nat) : Nat → Nat → Nat
  | 0, r => r
  | k + 1, r =>
    let c := r + 2 ^ k
    isqrtBits n k (if c * c ≤ n then c else r)

/-- The integer part of the square root of `n` below 2^128. -/
def isqrt (n : Nat) : Nat := isqrtBits n 64 0

/-- The square root rounded to the nearest integer (the worked examples of R135 round so: log entry 22). -/
def sqrtRound (n : Int) : Int :=
  let m := n.toNat
  let r := isqrt m
  if m ≤ r * r + r then (r : Int) else (r : Int) + 1

/-! ### Sine and cosine in fixed point with 100 fraction bits -/

/-- 2^100. -/
def fxOne : Int := 2 ^ 100

/-- Pi in that format. -/
def fxPi : Int := 3982441812995697363688351113952

/-- The remaining terms of the sine series: `t` is the present term, `xx` the square of the argument, `j` its index. -/
def sinSeries : Nat → Int → Int → Int → Int
  | 0, _, _, _ => 0
  | n + 1, t, xx, j => t + sinSeries n (-(t * xx / fxOne) / ((2 * j + 2) * (2 * j + 3))) xx (j + 1)

/-- Sine of `x` between 0 and pi/2. -/
def sinQuarter (x : Int) : Int := sinSeries 24 x (x * x / fxOne) 0

/-- Sine of num/den of a revolution, with 100 fraction bits. -/
def sinTurn (num den : Nat) : Int :=
  let p := 4 * (num % den)
  let q := p / den
  let x := fxPi * ((p % den : Nat) : Int) / (2 * (den : Int))
  if q = 0 then sinQuarter x
  else if q = 1 then sinQuarter (fxPi / 2 - x)
  else if q = 2 then -sinQuarter x
  else -sinQuarter (fxPi / 2 - x)

/-- Cosine of num/den of a revolution. -/
def cosTurn (num den : Nat) : Int := sinTurn (4 * num + den) (4 * den)

/-- A value in this format, as the nearest integer. -/
def fxRound (x : Int) : Int := (2 * x + fxOne) / (2 * fxOne)

/-! ### Arctangent -/

/-- Bisection for the angle of (y, x) in the first quadrant: the largest multiple of the last bit value whose direction
does not lie beyond it. Angles are in 2^-32 of a revolution. -/
def atanBits (y x : Nat) : Nat → Nat → Nat
  | 0, a => a
  | k + 1, a =>
    let c := a + 2 ^ k
    atanBits y x k (if sinTurn c (2 ^ 32) * (x : Int) ≤ cosTurn c (2 ^ 32) * (y : Int) then c else a)

/-- The angle of (y, x), not both zero, in 2^-32 of a revolution, rounded down in its quadrant. -/
def atanTurn (y x : Int) : Nat :=
  let q := fun (a b : Int) => atanBits a.natAbs b.natAbs 30 0
  (if 0 < x ∧ 0 ≤ y then q y x
   else if x ≤ 0 ∧ 0 < y then 2 ^ 30 + q x y
   else if x < 0 ∧ y ≤ 0 then 2 ^ 31 + q y x
   else 3 * 2 ^ 30 + q x y) % 2 ^ 32

/-! ### Library routines of the engines -/

/-- A value within 2 LSB of an exact value in the 100-bit format, as a free value chooses (R82). -/
def near2 (exact : Int) (pick : Int) : Int :=
  satInt 16 (clampInt (-((2 * fxOne - exact) / fxOne)) ((exact + 2 * fxOne) / fxOne) pick)

/-- SINCOS of a 32-bit binary angle: Q1.15 sine and cosine, each within 2 LSB of the exact value (R82). -/
def sincos (phi : Nat) : Int × Int :=
  (near2 (32768 * sinTurn phi (2 ^ 32)) (Config.sinPick phi), near2 (32768 * cosTurn phi (2 ^ 32)) (Config.cosPick phi))

/-- ATAN2: a 32-bit binary angle whose error is within 2^17 units (R116); the spec gives none for (0, 0). -/
def atan2 (y x : Int) : Nat :=
  let pick := Config.atanPick y x
  if y = 0 ∧ x = 0 then unsigned 32 pick
  else unsigned 32 ((atanTurn y x : Int) + clampInt (-131072) 131072 pick)

/-- DIV: the Q1.15 quotient a / b, saturating (Table LPE-2); its rounding is not stated. -/
def divQ15 (a b : Int) : Int :=
  if b = 0 then satInt 16 (Config.divZero a) else satInt 16 (roundFree (32768 * a) b)

/-- DIVK of R120: round(16,384 * a / b), saturating. -/
def divK (a b : Int) : Int := if b = 0 then satInt 16 (Config.divZero a) else satInt 16 (roundDiv (16384 * a) b)

/-- A signed 32-bit store of a state (R81). -/
def st32 (x : Int) : Int := satInt 32 x

/-- The low-pass step of R113: the new state and the output. -/
def lp (x s a : Int) : Int × Int :=
  let s := st32 (s + ((x * 65536 - s) * a + 2 ^ 31) / 2 ^ 32)
  (s, (s + 2 ^ 15) / 2 ^ 16)

/-! ### Reference shape tables (R176, R177) -/

/-- Entry `i` of the fixed tables: SINE_TH6, and SINE for every other code. -/
def shapeRom (src i : Nat) : Int :=
  let s := sinTurn i 1536
  if src = 0 then fxRound (32768 * s + 32768 * sinTurn (3 * i) 1536 / 6)
  else satInt 16 (fxRound (32768 * s))

/-- SHAPE of R176 over a table. -/
def shapeAt (y : Nat → Int) (phi : Nat) : Int :=
  let t := phi * 1536
  let i := t / 2 ^ 32
  let f : Int := ((t / 2 ^ 16 % 65536 : Nat) : Int)
  y i + ((y ((i + 1) % 1536) - y i) * f + 2 ^ 15) / 2 ^ 16

end Sys2Proof.Machine
end

