-- ==== Sys2Proof/Machine/F64.lean ====
section
/-! DEFINITION. Binary64 arithmetic with round-to-nearest-even, as the ramp planner uses it (R165). A value is m * 2^e with
|m| below 2^53; the planner's quantities stay far from the limits of the exponent. -/

namespace Sys2Proof.Machine

/-- A binary64 number m * 2^e. -/
structure F64 where
  m : Int
  e : Int
deriving DecidableEq, Repr

/-- n / d rounded to the nearest integer, ties to even; `d` positive. -/
def rneDiv (n d : Int) : Int :=
  let q := n / d
  let r := n % d
  if 2 * r < d then q else if d < 2 * r then q + 1 else if q % 2 = 0 then q else q + 1

/-- m * 2^e rounded to 53 significant bits; `sticky` says that the exact value lies strictly beyond m. -/
def f64Round (m e : Int) (sticky : Bool) : F64 :=
  if m = 0 then ⟨0, 0⟩
  else
    let m2 := 4 * m + (if sticky then (if m < 0 then -1 else 1) else 0)
    let bits := Nat.log2 m2.natAbs + 1
    if bits ≤ 53 then ⟨m2, e - 2⟩
    else
      let k := bits - 53
      ⟨rneDiv m2 (2 ^ k : Nat), e - 2 + k⟩

/-- An integer times 2^e. -/
def f64Of (m e : Int) : F64 := f64Round m e false

/-- Two numbers at a common exponent. -/
def f64Align (x y : F64) : Int × Int × Int :=
  let e := min x.e y.e
  (x.m * (2 ^ (x.e - e).toNat : Nat), y.m * (2 ^ (y.e - e).toNat : Nat), e)

def f64Add (x y : F64) : F64 := let (a, b, e) := f64Align x y; f64Round (a + b) e false
def f64Neg (x : F64) : F64 := ⟨-x.m, x.e⟩
def f64Sub (x y : F64) : F64 := f64Add x (f64Neg y)
def f64Mul (x y : F64) : F64 := f64Round (x.m * y.m) (x.e + y.e) false
def f64Lt (x y : F64) : Bool := let (a, b, _) := f64Align x y; decide (a < b)
def f64Le (x y : F64) : Bool := let (a, b, _) := f64Align x y; decide (a ≤ b)

/-- Quotient; the planner's divisors are positive. -/
def f64Div (x y : F64) : F64 :=
  if y.m = 0 then ⟨0, 0⟩
  else
    let n := x.m.natAbs * 2 ^ 120
    let d := y.m.natAbs
    let q : Int := (n / d : Nat)
    let q := if (0 ≤ x.m) = (0 ≤ y.m) then q else -q
    f64Round q (x.e - y.e - 120) (n % d != 0)

/-- Square root of a number that is not negative. -/
def f64Sqrt (x : F64) : F64 :=
  if x.m ≤ 0 then ⟨0, 0⟩
  else
    let odd := x.e % 2 != 0
    let m := (if odd then 2 * x.m.natAbs else x.m.natAbs) * 2 ^ 72
    let e := (if odd then x.e - 1 else x.e) - 72
    let r := isqrt m
    f64Round (r : Int) (e / 2) (r * r != m)

/-- round(x * 2^k) to an integer. -/
def f64ToInt (x : F64) (k : Nat) : Int :=
  let e := x.e + k
  if 0 ≤ e then x.m * (2 ^ e.toNat : Nat) else rneDiv x.m (2 ^ (-e).toNat : Nat)

def f64Zero : F64 := ⟨0, 0⟩
def f64One : F64 := ⟨1, 0⟩
def f64Two : F64 := ⟨2, 0⟩

/-- `x` held within [lo, hi]. -/
def f64Clamp (lo hi x : F64) : F64 := if f64Lt x lo then lo else if f64Lt hi x then hi else x

end Sys2Proof.Machine
end

