-- ==== Sys2Proof/Machine/Ramps.lean ====
section
/-! DEFINITION. Set-point ramps and the reference shape table (09_setpoint_ramps.md, R164 to R179). -/

namespace Sys2Proof.Machine

/-- A ramp channel, and a change of it. -/
def Hw.rampOf (s : Hw) (c : Nat) : RampSt := smapGet {} s.ramp c
def Hw.onRamp (s : Hw) (c : Nat) (f : RampSt → RampSt) : Hw := { s with ramp := smapSet {} s.ramp c (f (s.rampOf c)) }

/-- The cap of a move: VCAP 0 means VMAX, and a VCAP above VMAX is reduced to it. -/
def rampCap (vmax : Nat) (m : RampMove) : Nat := if m.vcap = 0 then vmax else min m.vcap vmax

/-- The limits in force of a channel: VMAX, AMAX, JMAX, MIN, MAX. -/
def Hw.rampVmax (s : Hw) (c : Nat) : Nat := s.liveGet (RMPc_VMAX_VMAX c)
def Hw.rampMin (s : Hw) (c : Nat) : Int := s.liveInt (RMPc_RANGE_MIN c)
def Hw.rampMax (s : Hw) (c : Nat) : Int := s.liveInt (RMPc_RANGE_MAX c)

/-- The registers of a channel as its state stands (Tables RMP-10 and RMP-11). -/
def rampRegs (c : Nat) (s : Hw) : Hw :=
  let r := s.rampOf c
  let tgt := match r.queue with | m :: _ => m.target | [] => r.p
  (((s.puti (RMPc_VALUE_VALUE c) r.p).puti (RMPc_VALUE_TARGET c) tgt).put (RMPc_STAT_PHASE c) r.phase).put
    (RMPc_STAT_QLEN c) r.queue.length

/-! ### The planner (R168) -/

/-- The joint after the current move is a through-joint (R167): the next target lies beyond, in the move's direction. -/
def throughJoint (p : Int) (m n : RampMove) : Bool :=
  if p < m.target then decide (m.target < n.target) else if m.target < p then decide (n.target < m.target) else false

/-- What a planner update decides for one channel. -/
structure Plan where
  v : Int
  a : Int
  phase : Nat
  isOver : Bool
  stopAt : Int
deriving DecidableEq, Repr

/-- One planner update of a channel whose current move is `m`, with VMAX, AMAX, DMAX, JMAX and `ve`, the rate at its joint. -/
def rampPlan (r : RampSt) (m : RampMove) (vmax amax dmax jmax ve : Nat) : Plan :=
  let s : Int := if r.v ≠ 0 then (if 0 < r.v then 1 else -1) else if r.p < m.target then 1 else if m.target < r.p then -1 else 0
  let v := f64Of r.v.natAbs (-40)
  let a := f64Of (s * r.a) (-64)
  let am := f64Of amax (-40)
  let dm := f64Of dmax (-40)
  let j := f64Of jmax (-64)
  let vc := f64Of (rampCap vmax m) (-24)
  let vm := f64Of vmax (-24)
  let we := f64Of ve (-24)
  let d := f64Of (s * (m.target - r.p)) 0
  let (v1, x1) :=
    if f64Lt f64Zero a then
      let v1 := f64Add v (f64Div (f64Mul a a) (f64Mul f64Two j))
      (v1, f64Div (f64Mul (f64Div (f64Add v v1) f64Two) a) j)
    else (v, f64Zero)
  let dv := f64Sub v1 we
  let sd :=
    if f64Le dv f64Zero then x1
    else if f64Le (f64Div (f64Mul dm dm) j) dv then
      f64Add x1 (f64Mul (f64Div (f64Add v1 we) f64Two) (f64Add (f64Div dv dm) (f64Div dm j)))
    else f64Add x1 (f64Mul (f64Add v1 we) (f64Sqrt (f64Div dv j)))
  let isOver := m.isOver || (!m.stop && f64Lt (f64Add (f64Add d (f64Mul f64Two v)) f64One) sd)
  let decel := m.stop || isOver || f64Le d (f64Add sd v)
  -- a rate above VMAX comes down to it at DMAX (R171)
  let capped := !decel && f64Lt vm v
  let phase := if decel || capped then 3 else if f64Lt v vc then 1 else 2
  let at_ := if phase = 3 then f64Neg dm else if phase = 1 then am else f64Zero
  let a := f64Add a (f64Clamp (f64Neg j) j (f64Sub at_ a))
  let v := f64Add v a
  let (v, a) := if phase = 1 ∧ f64Lt vc v then (vc, f64Zero) else (v, a)
  let (v, a) := if capped ∧ f64Lt v vm then (vm, f64Zero) else (v, a)
  let (v, a) := if decel ∧ !isOver ∧ f64Lt v we then (we, f64Zero) else (v, a)
  let (v, a) := if f64Le v f64Zero then (f64Zero, f64Zero) else (v, a)
  { v := satInt 56 (s * f64ToInt v 40), a := satInt 64 (s * f64ToInt a 64), phase := phase, isOver := isOver,
    stopAt := r.p + s * f64ToInt sd 0 }

/-! ### Steps (R169, R170) -/

/-- The interval to the next step at rate `v`: round(2^49 / |V|), saturated. -/
def stepInterval (v : Int) : Nat := min (2 ^ 32 - 1) (rneDiv (2 ^ 49) v.natAbs).toNat

/-- Moves whose target is the value retire at once (R166). -/
def retireMoves (p : Int) : List RampMove → List RampMove
  | [] => []
  | m :: ms => if m.target = p ∧ !m.isOver then retireMoves p ms else m :: ms

/-- The value has reached the current move's target (R167, R169). A stop ends there whatever follows it (R166). -/
def rampArrive (r : RampSt) : RampSt :=
  match r.queue with
  | [] => r
  | m :: ms =>
    if m.target ≠ r.p ∨ m.isOver then r
    else
      let from_ := r.p - (if 0 < r.v then 1 else -1)
      match ms with
      | n :: _ => if !m.stop && throughJoint from_ m n then { r with queue := ms }
                  else { r with v := 0, a := 0, due := none, queue := retireMoves r.p ms }
      | [] => { r with v := 0, a := 0, due := none, queue := [], phase := 0 }

/-- RAMP_STEP_TIMER: a step that falls due before the next tick boundary is issued (R170), while the timebase runs (R165). A step
that would leave the range is suppressed; one back towards a narrowed range leaves none. -/
def rampStep (c : Nat) (s : Hw) : Hw :=
  let r := s.rampOf c
  match r.due with
  | some at_ =>
    if 8 ≤ c ∨ s.time.clockLost ∨ s.time.base + s.tickLen < at_ ∨ r.v = 0 then s
    else
      let s := if s.cycles < at_ then s.atCyc (at_ - s.time.base) else s
      let p := r.p + (if 0 < r.v then 1 else -1)
      let off := if 0 < r.v then decide (s.rampMax c < p) else decide (p < s.rampMin c)
      let s := if off then s.raise (RMPc_STAT_CLAMP c) else s
      let r := { r with due := some (at_ + stepInterval r.v) }
      rampRegs c (s.onRamp c fun _ => if off then r else rampArrive { r with p := p })
  | none => s

/-! ### Tick boundary -/

/-- A stop's target is where the rate reaches zero under the planner (R166). -/
def stopMove : RampMove := { target := 0, vcap := 0, stop := true }

/-- The commands of the tick applied to the queue (R166, R174). -/
def rampCmds (r : RampSt) : RampSt :=
  let r' := r.next.foldl (fun r c =>
    match c with
    | .move m => { r with queue := r.queue ++ [m] }
    | .replace m => { r with queue := [m] }
    | .stop => { r with queue := if r.v = 0 then [] else [stopMove] }) r
  { r' with next := [] }

/-- Moves whose target is the value retire at once (R166), as at an arrival (R169). -/
def rampRetire (r : RampSt) : RampSt :=
  if r.v = 0 then { r with queue := retireMoves r.p r.queue }
  else match r.queue with
    | m :: _ => if m.stop then r else rampArrive r
    | [] => r

/-- The words published for the tick (R164), as inputs of the tick. -/
def rampWords (c : Nat) (s : Hw) : Hw :=
  let r := s.rampOf c
  let a := (0xA000 + 4 * c) / 2
  { s with xin := smapSet 0 (smapSet 0 s.xin a (unsigned 16 r.p)) (a + 1) (unsigned 16 (satInt 16 (roundFree r.v (2 ^ 28)))) }

/-- DMAX as it comes into force (R171): at once, or pending while the channel decelerates. -/
def rampDmax (c : Nat) (s : Hw) : Hw :=
  let r := s.rampOf c
  let new := s.get (RMPc_DMAX_DMAX c)
  if new = r.dmax then s.put (RMPc_STAT_PEND_D c) 0
  else if r.phase = 3 ∧ !s.flag (RMPc_CFG_LIM_MODE c) then s.put (RMPc_STAT_PEND_D c) 1
  else (s.put (RMPc_STAT_PEND_D c) 0).onRamp c fun r => { r with dmax := new }

/-- The planner on one channel, after the latch of its value. -/
def rampUpdate (c : Nat) (s : Hw) : Hw :=
  let dOld := (s.rampOf c).dmax
  let s := s.latch [RMPc_VMAX c, RMPc_AMAX c, RMPc_JMAX c, RMPc_RANGE c, RMPc_CFG c, RMPc_TASK c]
  let wasDecel := (s.rampOf c).phase = 3
  let s := rampDmax c s
  let s := s.onRamp c rampCmds
  let s := s.onRamp c rampRetire
  let r := s.rampOf c
  match r.queue with
  | [] => rampRegs c (s.onRamp c fun r => { r with v := 0, a := 0, due := none, phase := 0 })
  | m :: ms =>
    let vmax := s.rampVmax c
    let ve := match ms with | n :: _ => if !m.stop && throughJoint r.p m n then rampCap vmax n else 0 | [] => 0
    let pl := rampPlan r m vmax (s.liveGet (RMPc_AMAX_AMAX c)) r.dmax (s.liveGet (RMPc_JMAX_JMAX c)) ve
    let s := if pl.isOver && !m.isOver && decide (wasDecel ∧ r.dmax ≠ dOld) then s.raise (RMPc_STAT_OVERSHOOT_PLANNED c) else s
    let rest := pl.v = 0 ∧ r.v ≠ 0
    let turned := pl.isOver && decide rest
    let s := if turned then
        ((s.raise (RMPc_STAT_REVERSAL c)).put (RMPc_STAT_REV_DIST c) (min 65535 (r.p - m.target).natAbs)).puti
          (RMPc_TURN_TURN_VALUE c) r.p
      else s
    let m' := { m with isOver := pl.isOver && !turned, target := if m.stop then clampInt (s.rampMin c) (s.rampMax c) pl.stopAt else m.target }
    let queue := if m.stop ∧ pl.v = 0 then ms else m' :: ms
    let due := if pl.v = 0 then none else match r.due with
      | some d => some d
      | none => some (s.time.base + stepInterval pl.v)
    rampRegs c (s.onRamp c fun r =>
      { r with v := pl.v, a := pl.a, phase := if queue.isEmpty then 0 else pl.phase, queue := queue, due := due })

/-- R173: a channel with ZERO_ON_BLOCK in the first tick of BLOCKED, COMMISSION or TRIPPED. -/
def rampFlush (c : Nat) (s : Hw) : Hw :=
  if s.flag (RMPc_CFG_ZERO_ON_BLOCK c) then
    rampRegs c ((s.raise (RMPc_STAT_FLUSHED c)).onRamp c fun r =>
      { r with p := 0, v := 0, a := 0, due := none, phase := 0, queue := [], next := [] })
  else s

/-- Every channel at its INIT value with an empty queue (R173). -/
def rampInit (s : Hw) : Hw :=
  s.each (List.range 8) fun c s =>
    rampRegs c (s.onRamp c fun _ => { p := s.geti (RMPc_INIT_INIT c), dmax := s.get (RMPc_DMAX_DMAX c) })

/-- The ramps in the first tick of a mode. Out of COMMISSION every channel takes its INIT value, a flushed one too. -/
def rampMode (old new : Nat) (s : Hw) : Hw :=
  let s := if [mBlocked, mCommission, mTripped].contains new ∧ new ≠ old then s.each (List.range 8) rampFlush else s
  if old = mCommission ∧ new = mBlocked then rampInit s else s

/-- A channel refuses moves in the present mode (R173). -/
def rampModeBad (s : Hw) (ch : Nat) : Bool :=
  decide (ch < 8) && s.flag (RMPc_CFG_ZERO_ON_BLOCK ch) && s.modeIn [mBlocked, mCommission, mTripped]

/-- The ramps at a tick boundary: values latched, then the planner. -/
def rampTick (s : Hw) : Hw := s.each (List.range 8) fun c s => rampUpdate c (rampWords c s)

/-- R174: channels with SRC = TASK take their target at the Sequencer latch, under the source and the word that the tick began with (R17). DESIGN CHOICE (log entry 131): where R173 refuses the move,
the target does not count as taken, so it acts once the mode admits it. -/
def rampTasks (s : Hw) : Hw :=
  s.each (List.range 8) fun c s =>
    let n := s.liveGet (RMPc_TASK_ENG c)
    let feeds := (List.range 8).any fun m => match (s.taskOf n m).decl with | some d => d.feedsSeq | none => false
    if rampModeBad s c then s.onRamp c fun r => { r with task := none }
    else if s.liveGet (RMPc_CFG_SRC c) = 1 ∧ feeds then
      let w := signed 16 (smapGet 0 s.le.seqIn (outArea n + s.liveGet (RMPc_TASK_WORD c)))
      let t := clampInt (s.rampMin c) (s.rampMax c) w
      let s := if t = w then s else s.raise (RMPc_STAT_CLAMP c)
      if (s.rampOf c).task = some t then s
      else s.onRamp c fun r => { r with task := some t, next := r.next ++ [.replace { target := t, vcap := 0 }] }
    else s

/-! ### The reference shape table (R176 to R179) -/

/-- Entry `i` of the shadow bank. -/
def Hw.shadowEntry (s : Hw) (i : Nat) : Int := if i % 2 = 0 then s.geti (SHAPE_Sj_Y_EVEN (i / 2)) else s.geti (SHAPE_Sj_Y_ODD (i / 2))

/-- `s` with entry `i` of the shadow bank written. -/
def Hw.putShadow (s : Hw) (i v : Nat) : Hw := s.put (if i % 2 = 0 then SHAPE_Sj_Y_EVEN (i / 2) else SHAPE_Sj_Y_ODD (i / 2)) v

/-- The entries of the shadow bank that are not 0. -/
def shadowTerms (s : Hw) : List (Nat × Int) :=
  (s.regs.filter fun r => decide (SHAPE_Sj 0 ≤ r.1) && decide (r.1 ≤ SHAPE_Sj 767)).flatMap fun r =>
    let j := (r.1 - SHAPE_Sj 0) / 4
    [(2 * j, signed 16 r.2.toNat), (2 * j + 1, signed 16 (r.2.toNat / 65536))]

/-- A0, B1 and A1 of the shadow bank, rounded (R179). -/
def shapeFund (s : Hw) : Int × Int × Int :=
  let ts := shadowTerms s
  let sum := fun (f : Nat → Int) => (ts.map fun t => t.2 * f t.1).foldl (· + ·) 0
  (roundDiv (sum fun _ => 1) 1536, roundDiv (2 * sum fun i => sinTurn i 1536) (1536 * fxOne),
   roundDiv (2 * sum fun i => cosTurn i 1536) (1536 * fxOne))

/-- The shadow bank meets R179. -/
def fundOk (f : Int × Int × Int) : Bool :=
  decide ((f.2.1 - 32768).natAbs ≤ 328) && decide (f.2.2.natAbs ≤ 328) && decide (f.1.natAbs ≤ 64)

/-- SHAPE_FUND, SHAPE_DC and FUND_OK for the shadow bank as it stands; the 16-bit fields saturate (log entry 25). -/
def shapeReport (s : Hw) : Hw :=
  let f := shapeFund s
  (((s.puti SHAPE_FUND_B1 (satInt 16 f.2.1)).puti SHAPE_FUND_A1 (satInt 16 f.2.2)).puti SHAPE_DC_A0 (satInt 16 f.1)).putb
    SHAPE_CTRL_FUND_OK (fundOk f)

/-- The words of a bank, by index, that are not 0. -/
def bankWords (s : Hw) (base : Nat) : List (Nat × Word) :=
  (s.regs.filter fun r => decide (base ≤ r.1) && decide (r.1 < base + 4 * 768) && (r.1 - base) % 4 == 0).map fun r => ((r.1 - base) / 4, r.2)

/-- A bank overwritten with words by index. -/
def bankSet (s : Hw) (base : Nat) (ws : List (Nat × Word)) : Hw :=
  let s := { s with regs := s.regs.filter fun r => !(decide (base ≤ r.1) && decide (r.1 < base + 4 * 768)) }
  ws.foldr (fun w s => s.setReg (base + 4 * w.1) w.2) s

/-- Frame boundary: SHAPE_SRC comes into force; a pending commit exchanges the banks and starts the copy (R177, R178). -/
def shapeFrame (s : Hw) : Hw :=
  let s := s.latch [SHAPE_CTRL]
  if s.flag SHAPE_CTRL_PEND then
    let sh := bankWords s (SHAPE_Sj 0)
    let ac := bankWords s (SHAPE_Aj 0)
    let s := bankSet (bankSet s (SHAPE_Aj 0) sh) (SHAPE_Sj 0) ac
    let s := shapeReport (((s.put SHAPE_CTRL_PEND 0).put SHAPE_CTRL_COPYING 1).raise STO_STAT_CHK_BUSY)
    s.finishKind .shapeCommit .ok
  else s

/-- SHAPE_COPY_DONE (R178). -/
def shapeCopyDone (s : Hw) : Hw :=
  if s.flag SHAPE_CTRL_COPYING then
    shapeReport ((bankSet s (SHAPE_Sj 0) (bankWords s (SHAPE_Aj 0))).put SHAPE_CTRL_COPYING 0)
  else s

/-- The shadow bank is locked while an exchange is pending or the copy runs. -/
def shapeBusy (s : Hw) : Bool := s.flag SHAPE_CTRL_PEND || s.flag SHAPE_CTRL_COPYING

/-- A commit would change the active table and is refused (R179). -/
def commitBarred (s : Hw) : Bool := s.switching && s.get SHAPE_CTRL_SHAPE_SRC == 2 && !fundOk (shapeFund s)

/-- A commit accepted. -/
def shapeCommit (s : Hw) : Hw := shapeReport (s.put SHAPE_CTRL_PEND 1)

/-! ### Register writes -/

/-- Configuration of a channel that cannot stand: MIN at or above MAX, INIT outside, a limit of 0, a reserved source. -/
def rampCfgBad (c : Nat) (t : Hw) : Bool :=
  let lo := t.geti (RMPc_RANGE_MIN c)
  let hi := t.geti (RMPc_RANGE_MAX c)
  decide (hi ≤ lo) || outsideInt lo hi (t.geti (RMPc_INIT_INIT c)) || t.get (RMPc_VMAX_VMAX c) == 0 || t.get (RMPc_AMAX_AMAX c) == 0 ||
    t.get (RMPc_DMAX_DMAX c) == 0 || t.get (RMPc_JMAX_JMAX c) == 0 || decide (1 < t.get (RMPc_CFG_SRC c)) ||
    decide (23 < t.get (RMPc_TASK_ENG c))

/-- Writes in the ramp window. -/
def rampWrite (s : Hw) (w : Wr) : Judged :=
  let t := s.writeAs w
  if w.addr < SHAPE_CTRL then
    judge [(rampCfgBad ((w.addr - RMPc_CFG 0) / 0x40) t, .range)] t
  else if w.addr = SHAPE_CTRL then
    let commit := SHAPE_CTRL_COMMIT.ofNat w.acts == 1
    let toUser := w.touches SHAPE_CTRL_SHAPE_SRC && w.val SHAPE_CTRL_SHAPE_SRC == 2 && w.was SHAPE_CTRL_SHAPE_SRC != 2
    judge [(w.val SHAPE_CTRL_SHAPE_SRC == 3, .range),
           ((commit && commitBarred t) || (toUser && s.switching && !fundOk (shapeFund s)), .shapeFund)]
      (if commit then shapeCommit t else t)
  else if SHAPE_Sj 0 ≤ w.addr ∧ w.addr ≤ SHAPE_Sj 767 then judge [(shapeBusy s, .shapePending)] (shapeReport t)
  else .ok t

/-! ### Commands (Table RMP-3) -/

/-- 0x0600 RAMP_STATUS_GET: RMPc_VALUE, RMPc_STAT, RMPc_TURN, then the queue as (target, VCAP) pairs (log entry 26). -/
def execRampStatusGet (h : Hdr) (ch : Nat) (s : State) : Host.Outcome State Fault Refusal :=
  .next (s.onHw (hostCmd (Op.plain 0x0600 .viewer) (.rampStatusGet h ch) h fun s =>
    checked s [(decide (8 ≤ ch), .range)]
      (answer s (regBytes s [RMPc_VALUE ch, RMPc_STAT ch, RMPc_TURN ch] ++
        (s.rampOf ch).queue.flatMap fun m => leBytes 2 (unsigned 16 m.target) ++ leBytes 4 m.vcap))))

/-- The target of a command lies outside the channel's range. -/
def rampTargetBad (s : Hw) (ch target : Nat) : Bool :=
  decide (8 ≤ ch) || outsideInt (s.geti (RMPc_RANGE_MIN ch)) (s.geti (RMPc_RANGE_MAX ch)) (signed 16 target)

/-- 0x0601 RAMP_MOVE (R166). -/
def execRampMove (h : Hdr) (ch target vcap : Nat) (s : State) : Host.Outcome State Fault Refusal :=
  .next (s.onHw (hostCmd (Op.plain 0x0601 .operator) (.rampMove h ch target vcap) h fun s =>
    checked s [(s.standby, .twinStandby), (rampModeBad s ch, .modeNotAllowed), (rampTargetBad s ch target, .range),
      (decide (16 ≤ (rampCmds (s.rampOf ch)).queue.length), .queueFull), (s.get (RMPc_CFG_SRC ch) == 1, .chTask)]
      (change (s.onRamp ch fun r => { r with next := r.next ++ [.move { target := signed 16 target, vcap := vcap }] })
        (cmdChg 0x0601 (unsigned 16 (s.rampOf ch).p) (ch * 2 ^ 48 + target * 2 ^ 32 + vcap)))))

/-- 0x0602 RAMP_REPLACE. -/
def execRampReplace (h : Hdr) (ch target vcap : Nat) (s : State) : Host.Outcome State Fault Refusal :=
  .next (s.onHw (hostCmd (Op.plain 0x0602 .operator) (.rampReplace h ch target vcap) h fun s =>
    checked s [(s.standby, .twinStandby), (rampModeBad s ch, .modeNotAllowed), (rampTargetBad s ch target, .range),
      (s.get (RMPc_CFG_SRC ch) == 1, .chTask)]
      (change (s.onRamp ch fun r => { r with next := r.next ++ [.replace { target := signed 16 target, vcap := vcap }] })
        (cmdChg 0x0602 (unsigned 16 (s.rampOf ch).p) (ch * 2 ^ 48 + target * 2 ^ 32 + vcap)))))

/-- 0x0603 RAMP_STOP. -/
def execRampStop (h : Hdr) (mask : Nat) (s : State) : Host.Outcome State Fault Refusal :=
  .next (s.onHw (hostCmd (Op.plain 0x0603 .operator) (.rampStop h mask) h fun s =>
    checked s [(s.standby, .twinStandby)]
      (change (s.each (bitsOf 8 mask) fun c s => s.onRamp c fun r => { r with next := r.next ++ [.stop] })
        (cmdChg 0x0603 0 mask))))

/-- 0x0604 RAMP_CFG_SET: all eight words or none. -/
def execRampCfgSet (h : Hdr) (ch cfg vmax amax dmax jmax range task initial : Nat) (s : State) :
    Host.Outcome State Fault Refusal :=
  .next (s.onHw (hostCmd (Op.plain 0x0604 .engineer) (.rampCfgSet h ch cfg vmax amax dmax jmax range task initial) h fun s =>
    let as := [RMPc_CFG ch, RMPc_VMAX ch, RMPc_AMAX ch, RMPc_DMAX ch, RMPc_JMAX ch, RMPc_RANGE ch, RMPc_TASK ch, RMPc_INIT ch]
    let t := (as.zip [cfg, vmax, amax, dmax, jmax, range, task, initial]).foldl (fun s p => s.setWord p.1 p.2) s
    checked s [(decide (8 ≤ ch) || rampCfgBad ch t, .range)] (change t (regChgs s t as))))

/-- 0x0605 SHAPE_LOAD. -/
def execShapeLoad (h : Hdr) (first count : Nat) (entries : List Nat) (s : State) : Host.Outcome State Fault Refusal :=
  .next (s.onHw (hostCmd (Op.sized 0x0605 .engineer (4 + 2 * count)) (.shapeLoad h first count entries) h fun s =>
    checked s [(decide (1536 < first + count), .range), (decide (entries.length ≠ count), .length),
      (shapeBusy s, .shapePending)]
      (let t := shapeReport (entries.zipIdx.foldl (fun s p => s.putShadow (first + p.2) p.1) s)
       change t (regChgs s t ((List.range 768).map SHAPE_Sj)))))

/-- 0x0606 SHAPE_COMMIT: replies after the frame boundary. -/
def execShapeCommit (h : Hdr) (s : State) : Host.Outcome State Fault Refusal :=
  .next (s.onHw (hostCmd (Op.plain 0x0606 .engineer) (.shapeCommit h) h fun s =>
    checked s [(commitBarred s, .shapeFund)] (changeWait (shapeCommit s) (cmdChg 0x0606 0 1) .shapeCommit)))

/-- 0x0607 SHAPE_SELECT. -/
def execShapeSelect (h : Hdr) (src : Nat) (s : State) : Host.Outcome State Fault Refusal :=
  .next (s.onHw (hostCmd (Op.plain 0x0607 .engineer) (.shapeSelect h src) h fun s =>
    checked s [(decide (3 ≤ src), .range),
      (src == 2 && s.get SHAPE_CTRL_SHAPE_SRC != 2 && s.switching && !fundOk (shapeFund s), .shapeFund)]
      (let t := s.put SHAPE_CTRL_SHAPE_SRC src
       change t (regChgs s t [SHAPE_CTRL]))))

/-! ### Events -/

/-- RAMP_STEP_TIMER of a channel. -/
def execRampStepTimer (ch : Nat) (s : State) : Host.Outcome State Fault Refusal := .next (s.onHw (onRun (rampStep ch)))

/-- SHAPE_COPY_DONE. -/
def execShapeCopyDone (s : State) : Host.Outcome State Fault Refusal := .next (s.onHw (onRun shapeCopyDone))

end Sys2Proof.Machine
end

