-- ==== Sys2Proof/Machine/Kernel.lean ====
section
/-! DEFINITION. The grid-forming kernel: its derived constants, parameter staging and ramps, measured quantities, and
state variables (06_forming_law.md, R103 to R108, R122 to R125, R132, R146). -/

namespace Sys2Proof.Machine

/-! ### State variables of the kernel, by number -/

def kW : Nat := 1
def kWf : Nat := 2
def kDlt : Nat := 3
def kNidx : Nat := 4
def kNrem : Nat := 5
def kSp : Nat := 6
def kSq : Nat := 7
def kTrk : Nat := 8
/-- Sticky conditions of LE0: the frequency clamp acted. -/
def kWlim : Nat := 9
def kXd : Nat := 10
def kXq : Nat := 11
def kSv : Nat := 12
/-- gzs - (16384 << 16), so that 0 is its neutral value (R128). -/
def kGz : Nat := 13
def kSpx : Nat := 14
/-- ed and eq committed last, and KPC as LE1 used it last, plus 1 (0: not used yet). -/
def kEd : Nat := 15
def kEq : Nat := 16
def kKpc : Nat := 17
/-- 1: x_d and x_q are to be initialised in the present tick (R128). -/
def kInit : Nat := 18
/-- LIM of the last completed LE1 run, and the frames for which the lock condition of R127 has held. -/
def kLim : Nat := 19
def kLock : Nat := 20
def kXc (p : Nat) : Nat := 21 + p
def kRc (p : Nat) : Nat := 24 + p
def kRs (p : Nat) : Nat := 27 + p
def kXi : Nat := 30
def kEsatHi : Nat := 31
def kEsatLo : Nat := 32
def kXdc : Nat := 33
def kXt : Nat := 34
def kFloor : Nat := 35
/-- Largest and smallest healthy capacitor voltage of an arm in the frame (R155). -/
def kMax (a : Nat) : Nat := 36 + a
def kMin (a : Nat) : Nat := 42 + a
/-- LE11: filters, detector counts (Table LFT-1 order), detectors fired in the run, recovery and stage counts. -/
def kS1 : Nat := 50
def kS2 : Nat := 51
def kCnt (d : Nat) : Nat := 52 + d
def kFired : Nat := 60
def kRecT : Nat := 61
def kDcRec : Nat := 62
def kStageAge : Nat := 63
def kDcfAge : Nat := 64
def kIdc : Nat := 65
def kVdc : Nat := 66
def kVmf : Nat := 67
def kVm : Nat := 68
def kIrc : Nat := 69
def kDcap : Nat := 70
def kPsOvr : Nat := 71
def kPsMerged : Nat := 72
def kChop : Nat := 73
def kDuty : Nat := 74
def kSth : Nat := 75
def kTherm : Nat := 76
def kOvrOn : Nat := 77
def kStageNext : Nat := 78
def kVpre : Nat := 79
/-- Energization: the black-start ramp state, its last increment, frames since each leg's last step, which arm of a leg is next, a
leg whose counts rise at the next tick, consecutive ticks of each arm above PRE_ICUT, such ticks at full counts, frames in the
stage, in settling, and of a good vmf11. -/
def kBsE : Nat := 80
def kEngStage : Nat := 81
def kDwell (j : Nat) : Nat := 82 + j
def kTurn (j : Nat) : Nat := 85 + j
def kRaise (j : Nat) : Nat := 88 + j
def kIcut (a : Nat) : Nat := 100 + a
def kIcutF (a : Nat) : Nat := 106 + a
def kStageF : Nat := 94
def kSettle : Nat := 95
def kBand : Nat := 96
/-- Legs with an arm current of PRE_ISTEP or more in the frame in progress. -/
def kStepBar : Nat := 97
/-- ENERGIZE_FAIL of R161 by ICUT, TICK_STEP. -/
def kEngBad : Nat := 98
/-- A rescaling of LE1 saturated (R123). -/
def kResc : Nat := 99

/-- A committed state variable of the kernel. -/
def Hw.k (s : Hw) (v : Nat) : Int := smapGet 0 s.le.kern v

/-- `s` with a state variable set. -/
def Hw.setK (s : Hw) (v : Nat) (x : Int) : Hw := s.onLe fun c => { c with kern := smapSet 0 c.kern v x }

/-- `s` with several state variables set. -/
def Hw.setKs (s : Hw) (ws : List (Nat × Int)) : Hw := ws.foldl (fun s w => s.setK w.1 w.2) s

/-! ### Staging of parameters (R123) -/

/-- The tick from which a write latched at this frame boundary takes effect: the next frame's first (R123). -/
def effectTick (s : Hw) : Nat := (s.time.tickNo + 16) % 2 ^ 32

/-- The blocking ramp of R35 runs. -/
def Hw.blkRamping (s : Hw) : Bool := match s.ops.blk with | .ramp _ _ => true | _ => false

/-- The parameters whose limits in force at the start of a blocking ramp stay in force while it runs (R35): the current limits, and
the limits on frequency and on the auxiliary orders (log entry 144). -/
def limitReg (a : Nat) : Bool := a == LFT_IMAX || a == GFL_LIMS

/-- At a frame boundary: what was latched at the last one comes into force, and what has been written is latched. The commands that
wrote it reply with the tick of their effect. -/
def stageFrame (s : Hw) : Hw :=
  let held := fun (r : Nat × Word) => s.blkRamping && limitReg r.1
  let keep := s.live.filter fun r => !kernelReg r.1 || held r
  let s := { s with live := (s.staged.filter fun r => !held r).foldl (fun (m : SMap Word) (r : Nat × Word) => smapInsert m r.1 r.2) keep }
  let s := { s with staged := s.regs.filter fun r => kernelReg r.1 }
  s.finish (fun w => decide (w.kind = .param)) (fun _ => .ok) (fun _ => leBytes 4 (effectTick s))

/-- The latched word of a parameter register. -/
def Hw.stagedReg (s : Hw) (a : Nat) : Word := smapGet (regReset a) s.staged a

/-! ### Derived constants (Table GFL-6) -/

/-- A constant of a formula num / den, rounded; 0 where a base item of its divisor is 0. -/
def ratio (num den : Int) : Int := if den ≤ 0 then 0 else roundDiv num den

/-- 2 pi in units of 2^-100. -/
def twoPiFx : Int := 2 * fxPi

/-- round(sqrt(num / den)). -/
def sqrtRatio (num den : Nat) : Int := if den = 0 then 0 else ((isqrt (4 * num / den) + 1) / 2 : Nat)

/-- The nominal frequency. -/
def fNom (fnom : Nat) : Int := if fnom = 0 then 50 else 60

/-- NI, NR and ND (Table GFL-6). -/
def nomAdvance (fnom : Nat) : Nat × Nat × Nat := if fnom = 0 then (429496, 7296, 10000) else (515396, 1888, 25000)

/-- The derived constants of a set of parameter words and of the factors k_D, k_XV, k_RV, k_BW (Q4.12). -/
def kConst (r : Nat → Word) (k : Nat → Int) : KConst :=
  let g : Fld → Int := fun f => (f.of (r f.addr) : Int)
  let f := fNom (GFL_BASE1_FNOM.of (r GFL_BASE1))
  let dEff := clampInt 0 (2000 * 4096) (g GFL_VSM_D * k 0)
  let xEff := clampInt (0x333 * 4096) (0x4000 * 4096) (g GFL_ZV_X_V * k 1)
  let rEff := clampInt 0 (0x2000 * 4096) (g GFL_ZV_R_V * k 2)
  let bwEff := clampInt (100 * 4096) (2000 * 4096) (g GFL_CTRL_BW_AC * k 3)
  let z2 := rEff * rEff + xEff * xEff
  let kpc := ratio (bwEff * g GFL_LIND_L_AC) (f * 16384)
  let bwc := g GFL_CTRL_BW_CIRC
  let kpcc := ratio (4096 * bwc * g GFL_LIND_L_ARM) (f * 16384)
  let sBase := g GFL_BASE0_S_BASE
  let wNom := g GFL_SM_N_NOM * g GFL_CSM_C_SM * g GFL_SM_V_SM_NOM * g GFL_SM_V_SM_NOM
  -- 4,096 * 2 pi * BW * c * W_nom / S_base
  let kw : Int → Int → Int := fun bw c => ratio (4096 * twoPiFx * bw * c * wNom) (2 * sBase * 10 ^ 14 * fxOne)
  let kt := kw (g GFL_ENERGY_BW_WT) 6
  let tau : Fld → Int → Int → Int := fun fl num den => ratio (2 ^ 32 * num) (den * g fl)
  { gh := ratio (2 ^ 40 * 100) (1000000 * g GFL_VSM_H)
    gr := ratio (4096 * 10000) (g GFL_DROOP_RF)
    gd := ratio dEff 10
    ad := tau GFL_FILT_T_D 2 10000
    ap := tau GFL_FILT_T_P 2 100
    aq := tau GFL_FILT_T_Q 2 100
    gth := ratio (f * 2 * 2 ^ 34) 1000000
    gq := ratio (65536 * g GFL_DROOP_NQ) 10000
    av := tau GFL_FILT_T_V 32 10000
    g1 := ratio (1024 * rEff * (4096 * 16384)) z2
    g2 := ratio (1024 * xEff * (4096 * 16384)) z2
    xlc := g GFL_LIND_L_AC
    kpc := kpc
    kic := ratio (2 ^ 32 * kpc * twoPiFx * bwEff * 2) (4096 * 4096 * 10 * 1000000 * fxOne)
    kpcc := kpcc
    kicc := ratio (2 ^ 32 * kpcc * twoPiFx * bwc * 2) (4096 * 10 * 1000000 * fxOne)
    krc := ratio (2 ^ 32 * kpcc * twoPiFx * bwc * 2) (4096 * 2 * 1000000 * fxOne)
    kad := sqrtRatio (2 * 16384 ^ 2 * (g GFL_BASE0_V_BASE).toNat ^ 2) (3 * (g GFL_BASE1_V_DC_BASE).toNat ^ 2)
    kt := kt
    kh := kw (g GFL_ENERGY_BW_WH) 2
    kv := kw (g GFL_ENERGY_BW_WV) 1
    kit := ratio (2 ^ 32 * kt * twoPiFx * g GFL_ENERGY_BW_WT * 32) (4096 * 5 * 1000000 * fxOne)
    kidc := ratio (2 ^ 32 * signed 16 (g GFL_DCCTL_KDC).toNat * 32) (4096 * 10000 * g GFL_ENERGY_DC_TI)
    azu := tau LFT_PRIO_TZ_UP 2 100
    azd := tau LFT_PRIO_TZ_DN 2 1000
    ach := tau LFT_CHOP2_CH_TAU 2 1000000 }

/-- Whether each constant fits its format, with the fields that its formula depends on (R122). Signed Q formats hold 16
bits; Q0.32 is unsigned (R113). -/
def kFits (c : KConst) : List (Bool × List Fld) :=
  let u : Nat → Int → Bool := fun w x => decide (0 ≤ x) && decide (x < (2 ^ w : Nat))
  let q : Int → Bool := fun x => decide (satInt 16 x = x)
  let bases := [GFL_BASE0_S_BASE, GFL_SM_N_NOM, GFL_SM_V_SM_NOM, GFL_CSM_C_SM]
  let zv := [GFL_ZV_R_V, GFL_ZV_X_V]
  let ac := [GFL_CTRL_BW_AC, GFL_BASE1_FNOM, GFL_LIND_L_AC]
  let circ := [GFL_CTRL_BW_CIRC, GFL_BASE1_FNOM, GFL_LIND_L_ARM]
  [(u 24 c.gh, [GFL_VSM_H]), (u 20 c.gr, [GFL_DROOP_RF]), (u 22 c.gd, [GFL_VSM_D]), (u 32 c.ad, [GFL_FILT_T_D]),
   (u 32 c.ap, [GFL_FILT_T_P]), (u 32 c.aq, [GFL_FILT_T_Q]), (u 22 c.gth, [GFL_BASE1_FNOM]), (u 16 c.gq, [GFL_DROOP_NQ]),
   (u 32 c.av, [GFL_FILT_T_V]), (q c.g1, zv), (q c.g2, zv), (q c.xlc, [GFL_LIND_L_AC]), (q c.kpc, ac), (u 32 c.kic, ac),
   (q c.kpcc, circ), (u 32 c.kicc, circ), (u 32 c.krc, circ), (q c.kad, [GFL_BASE0_V_BASE, GFL_BASE1_V_DC_BASE]),
   (q c.kt, GFL_ENERGY_BW_WT :: bases), (q c.kh, GFL_ENERGY_BW_WH :: bases), (q c.kv, GFL_ENERGY_BW_WV :: bases),
   (u 32 c.kit, GFL_ENERGY_BW_WT :: bases), (u 32 c.kidc, [GFL_DCCTL_KDC, GFL_ENERGY_DC_TI])]

/-- The factors of LE0's active gain set (R124). -/
def Hw.kFactor (s : Hw) (j : Nat) : Int :=
  signed 16 (smapGet 0 (s.engOf 0).gains (64 * s.get (LEn_RSEL_ACTIVE_SET 0) + j))

/-- The working-copy words give constants that fit (R108, fourth item). -/
def Hw.kFitsNow (s : Hw) : Bool := (kFits (kConst s.reg s.kFactor)).all (·.1)

/-- R108: the kernel's part of a valid stored configuration. -/
def Hw.gflValid (s : Hw) : Bool :=
  let qs := List.range 14
  let chs := qs.map fun q => s.get (GFL_MAPq_CH q)
  s.get GFL_BASE0_S_BASE != 0 && s.get GFL_BASE0_V_BASE != 0 && s.get GFL_BASE1_V_DC_BASE != 0 && s.get GFL_SM_N_NOM != 0 &&
    s.get GFL_SM_V_SM_NOM != 0 && s.get GFL_CSM_C_SM != 0 && qs.all (fun q => s.get (GFL_MAPq_SCALE q) != 0) &&
    decide (chs.eraseDups.length = 14) && s.kFitsNow

/-! ### LE7 (R122, R123, R125) -/

/-- One constant of the ramped class: in COMMISSION at once, else in 16 steps, one a frame. -/
def rampConst (commission : Bool) (now target : Int) (r : KRamp) : Int × KRamp :=
  if commission then (target, { old := target, target := target, step := 16 })
  else if target ≠ r.target then
    (now + roundDiv (target - now) 16, { old := now, target := target, step := 1 })
  else if r.step < 16 then
    (r.old + roundDiv ((r.target - r.old) * (r.step + 1)) 16, { r with step := r.step + 1 })
  else (now, r)

/-- LE7 in one frame: the constants for the next frame, and the ramps. -/
def le7Run (s : Hw) : KConst × List KRamp :=
  let c := kConst s.stagedReg s.kFactor
  let now := s.le.kpar.force
  let r := fun i => s.le.kpar.ramps.getD i {}
  let z := s.mode = mCommission
  let (gr, r0) := rampConst z now.gr c.gr (r 0)
  let (gq, r1) := rampConst z now.gq c.gq (r 1)
  let (g1, r2) := rampConst z now.g1 c.g1 (r 2)
  let (g2, r3) := rampConst z now.g2 c.g2 (r 3)
  ({ c with gr := gr, gq := gq, g1 := g1, g2 := g2 }, [r0, r1, r2, r3])

/-- A ramp is still moving (R123). -/
def kRamping (rs : List KRamp) : Bool := rs.any fun r => decide (r.step < 16)

/-- At LE7's deadline its constants come into force. -/
def kernelRelease (s : Hw) : Hw :=
  match s.le.kpar.next with
  | some c =>
    let s := s.onLe fun cl => { cl with kpar := { cl.kpar with force := c, next := none } }
    s.putb GFL_STAT_RAMPING (kRamping s.le.kpar.ramps && s.mode != mCommission)
  | none => s

/-- Boot, or STORE_REVERT: constants of the working copy at once, every ramp at its target. -/
def kernelLoad (s : Hw) : Hw :=
  let c := kConst s.reg s.kFactor
  let at_ : Int → KRamp := fun t => { old := t, target := t, step := 16 }
  let regs := s.regs.filter fun r => kernelReg r.1
  let keep := s.live.filter fun r => !kernelReg r.1
  { s.onLe fun cl => { cl with kpar := { force := c, next := none, ramps := [at_ c.gr, at_ c.gq, at_ c.g1, at_ c.g2] } } with
    staged := regs, live := regs.foldl (fun (m : SMap Word) (r : Nat × Word) => smapInsert m r.1 r.2) keep }

/-! ### Measured quantities (R107) -/

/-- Quantity `q` of Table GFL-2 from an Exchange RAM image. -/
def kQty (s : Hw) (x : SMap Nat) (q : Nat) : Int :=
  let v := signed 16 (smapGet 0 x (0x20 + s.liveGet (GFL_MAPq_CH q)))
  satInt 16 ((v * s.liveInt (GFL_MAPq_SCALE q) + 2 ^ 11) / 2 ^ 12)

/-- The signed word at a byte offset of engine `n`'s output area in an image. -/
def kOut (x : SMap Nat) (n byte : Nat) : Int := signed 16 (smapGet 0 x (outArea n + byte / 2))

/-- The value of a ramp channel in an image (R164). -/
def rampOut (x : SMap Nat) (c : Nat) : Int := signed 16 (smapGet 0 x ((0xA000 + 4 * c) / 2))

/-- P_AUX or Q_AUX, clamped, or 0 where it is not enabled (R118). -/
def auxIn (s : Hw) (x : SMap Nat) (en eng word : Fld) : Int :=
  let lim : Int := s.liveGet GFL_LIMS_AUX_LIM
  if s.liveFlag en then
    clampInt (-lim) lim (signed 16 (smapGet 0 x (outArea (12 + s.liveGet eng) + s.liveGet word)))
  else 0

/-- A word published at a byte offset of engine `n`'s output area (Q1.15 stores saturate, R81). -/
def pub (n byte : Nat) (v : Int) : Nat × Nat := (outArea n + byte / 2, unsigned 16 (satInt 16 v))

/-- A 32-bit binary angle published, low word first (R374's byte order; log entry 23). -/
def pubAngle (n byte v : Nat) : List (Nat × Nat) :=
  [(outArea n + byte / 2, v % 65536), (outArea n + byte / 2 + 1, v / 65536 % 65536)]

/-- An angle as published. -/
def kAngle (x : SMap Nat) (n byte : Nat) : Nat :=
  smapGet 0 x (outArea n + byte / 2) + 65536 * smapGet 0 x (outArea n + byte / 2 + 1)

/-- What a run of a kernel task does: the state variables it commits and the words it publishes. -/
structure KRun where
  vars : List (Nat × Int) := []
  words : List (Nat × Nat) := []
deriving DecidableEq, Repr

/-- Clarke transform of quantities q, q+1, q+2 (R113). -/
def clarke (a b c : Int) : Int × Int :=
  ((21845 * a - 10923 * b - 10923 * c + 2 ^ 14) / 2 ^ 15, (18919 * (b - c) + 2 ^ 14) / 2 ^ 15)

/-- ENERGIZE stages in which the kernel switches the valve: RAMP, and READY of method 1 (Table ENG-2). -/
def Hw.bsStage (s : Hw) : Bool :=
  s.mode == mEnergize && (s.get ENG_STAT_STAGE == 4 || (s.get ENG_STAT_STAGE == 5 && s.flag ENG_STAT_METHOD))

/-- LE1 to LE4 run in full (Tables GFL-7 and ENG-2). -/
def Hw.kFull (s : Hw) : Bool := s.modeIn [mForm, mRide] || s.bsStage

/-- LE0 tracks (R127): BLOCKED and the charging stages. -/
def Hw.kTracks (s : Hw) : Bool := s.mode == mBlocked || (s.mode == mEnergize && !s.bsStage)

/-- r_k of R35 in the tick in progress, where a blocking ramp runs. -/
def Hw.blkScale (s : Hw) : Option Int :=
  match s.ops.blk with
  | .ramp k n => if n = 0 then none else some (min (roundDiv (32768 * ((n : Int) - k)) n) 32767)
  | _ => none

/-- A reference scaled by r_k. -/
def Hw.blkScaled (s : Hw) (x : Int) : Int :=
  match s.blkScale with
  | some r => (x * r + 2 ^ 14) / 2 ^ 15
  | none => x

end Sys2Proof.Machine
end

