-- ==== Sys2Proof/Machine/KernelAc.lean ====
section
/-! DEFINITION. The AC side of the kernel: LE0 (swing equation and angle), LE1 (virtual impedance, current limiter, AC
current control), LE2 to LE4 (phase outputs), LE5 (voltage magnitude): R113 to R118, R126, R127, R129 to R134, R142. -/

namespace Sys2Proof.Machine

/-! ### LE0 -/

/-- WLIM: FREQ_LIM << 24 (R113). -/
def wLim (s : Hw) : Int := (s.liveGet GFL_LIMS_FREQ_LIM : Int) * 2 ^ 24

/-- Position of n_idx and n_rem one tick on (R112, R113). -/
def nomStep (fnom nidx nrem : Nat) : Nat × Nat :=
  let (ni, nr, nd) := nomAdvance fnom
  let r := nrem + nr
  if nd ≤ r then ((nidx + ni + 1) % 2 ^ 32, r - nd) else ((nidx + ni) % 2 ^ 32, r)

/-- n_idx and n_rem set from Almanac time (R112). -/
def nomSet (fnom sec ns : Nat) : Nat × Nat :=
  let (ni, nr, nd) := nomAdvance fnom
  let t := (sec % 64 * 500000 + ns / 2000) * (ni * nd + nr)
  (t / nd % 2 ^ 32, t % nd)

/-- The pset input of LE0 (R118, R134, R142). -/
def psetIn (s : Hw) (x : SMap Nat) : Int :=
  if bitOf (smapGet 0 x (outArea 11)) 10 then kOut x 11 0x12
  else kOut x 6 0 + auxIn s x GFL_AUX_P_EN GFL_AUX_P_ENG GFL_AUX_P_WORD

/-- One tick of the tracking law (R127): a proportional-integral law on v_q / vmf; the next w and its integral state. The spec gives
neither its gains nor its rounding (log entry 59). Below 0.2 pu, w is held at the order, and the integral with it. -/
def trackRun (i vq vmf wset : Int) : Int × Int :=
  if vmf < 3277 then (wset * 2 ^ 24, wset * 2 ^ 24)
  else
    let i := satInt 40 (i + roundFree (Config.trackKi * vq) vmf)
    (satInt 40 (i + roundFree (Config.trackKp * vq) vmf), i)

/-- LE0, every tick. -/
def le0Run (s : Hw) : KRun :=
  let x := s.xram
  let c := s.le.kpar.force
  let fnom := s.liveGet GFL_BASE1_FNOM
  let nidx := (s.k kNidx).toNat
  let (nidx', nrem') := nomStep fnom nidx (s.k kNrem).toNat
  let nom := [(kNidx, (nidx' : Int)), (kNrem, (nrem' : Int))]
  let w := s.k kW
  let wf := s.k kWf
  let dlt := (s.k kDlt).toNat
  let theta := (nidx + dlt / 65536) % 2 ^ 32
  let factors := (List.range 4).map fun j => pub 0 (0x0E + 2 * j) (s.kFactor j)
  if s.mode = mCommission then
    { vars := nom ++ [(kW, 0), (kWf, 0), (kDlt, 0)],
      words := pubAngle 0 0 nidx ++ [pub 0 4 0, pub 0 6 0, pub 0 8 0, pub 0 0xA 0, pub 0 0xC 0] ++ factors }
  else if s.mode = mTripped then { vars := nom, words := pubAngle 0 0 theta }
  else
    let (val, vbe) := clarke (kQty s x 0) (kQty s x 1) (kQty s x 2)
    let (ial, ibe) := clarke (kQty s x 3) (kQty s x 4) (kQty s x 5)
    let wq := satInt 16 ((w + 2 ^ 23) / 2 ^ 24)
    let p := satInt 16 ((val * ial + vbe * ibe + 2 ^ 13) / 2 ^ 14)
    let q := satInt 16 ((vbe * ial - val * ibe + 2 ^ 13) / 2 ^ 14)
    let (sp, pf) := lp p (s.k kSp) c.ap
    let (sq, qf) := lp q (s.k kSq) c.aq
    let wset := rampOut x 4
    let (w', lim, trk) :=
      if s.kTracks then
        let r := trackRun (s.k kTrk) (kOut x 1 2) (kOut x 1 0xE) wset
        (r.1, false, r.2)
      else
        let pdr := ((wset * 2 ^ 24 - w) * c.gr + 2 ^ 35) / 2 ^ 36
        let pdm := ((w - wf) * c.gd + 2 ^ 35) / 2 ^ 36
        let acc := satInt 16 (psetIn s x + pdr - pdm - pf - kOut x 1 0x14)
        let raw := w + (acc * c.gh + 2 ^ 15) / 2 ^ 16
        let w' := clampInt (-wLim s) (wLim s) raw
        (w', decide (w' ≠ raw), w')
    let wf' := wf + ((w' - wf) * c.ad + 2 ^ 31) / 2 ^ 32
    let dlt' := unsigned 48 ((dlt : Int) + (w' * c.gth + 2 ^ 23) / 2 ^ 24)
    { vars := nom ++ [(kW, w'), (kWf, wf'), (kDlt, (dlt' : Int)), (kSp, sp), (kSq, sq), (kTrk, trk),
                      (kWlim, if lim then 1 else 0)],
      words := pubAngle 0 0 theta ++ [pub 0 4 wq, pub 0 6 pf, pub 0 8 qf, pub 0 0xA p, pub 0 0xC q] ++ factors }

/-! ### LE1 -/

/-- What current_limit answers and keeps (R130). -/
structure Limited where
  id : Int
  iq : Int
  lim : Bool
  gzs : Int
  spx : Int
  pexf : Int
  gz : Int
deriving DecidableEq, Repr

/-- The priorities of R130: PROP, Q_FIRST, D_FIRST (and its reserved codes as D_FIRST). -/
def limitTo (prio : Nat) (imax mm id iq : Int) : Int × Int :=
  if prio = 0 then
    let k := divQ15 imax mm
    ((id * k + 2 ^ 14) / 2 ^ 15, (iq * k + 2 ^ 14) / 2 ^ 15)
  else if prio = 1 then
    let iq := clampInt (-imax) imax iq
    let dm := sqrtRound (imax * imax - iq * iq)
    (clampInt (-dm) dm id, iq)
  else
    let id := clampInt (-imax) imax id
    let qm := sqrtRound (imax * imax - id * id)
    (id, clampInt (-qm) qm iq)

/-- current_limit (R130); ACF, DCF, IRC and DCAP are LE11's words of the previous tick (R138). -/
def currentLimit (s : Hw) (x : SMap Nat) (ird irq vd vq : Int) : Limited :=
  let c := s.le.kpar.force
  let imax : Int := s.liveGet LFT_IMAX_IMAX
  let ivi : Int := s.liveGet LFT_IMAX_IVI
  let flags := smapGet 0 x (outArea 11)
  -- in RAMP the limiter keeps PRIO_FORM (R156)
  let fault := (bitOf flags 15 || bitOf flags 14) && !(s.mode == mEnergize && s.get ENG_STAT_STAGE == 4)
  let irc := kOut x 11 2
  let dcap := kOut x 11 0x10
  let m := sqrtRound (ird * ird + irq * irq)
  let gzs := s.k kGz + 16384 * 65536
  let gz := (gzs + 2 ^ 15) / 2 ^ 16
  let ira := (ird * gz + 2 ^ 13) / 2 ^ 14
  let iqa0 := (irq * gz + 2 ^ 13) / 2 ^ 14
  let iqa :=
    if fault && s.liveGet LFT_PRIO_RC_MODE == 1 then
      if 0 < irc then min iqa0 (-irc) else if irc < 0 then max iqa0 (-irc) else iqa0
    else iqa0
  let prio := if fault then s.liveGet LFT_PRIO_PRIO_RT else s.liveGet LFT_PRIO_PRIO_FORM
  let ido := clampInt (-dcap) dcap ira
  let mm := sqrtRound (ido * ido + iqa * iqa)
  let lim := decide (imax < mm) || decide (ido ≠ ira)
  let (id, iq) := if imax < mm then limitTo prio imax mm ido iqa else (ido, iqa)
  let pex := satInt 16 ((vd * (ira - id) + vq * (iqa - iq) + 2 ^ 13) / 2 ^ 14)
  let (spx, pexf) := lp pex (s.k kSpx) c.ap
  let gt := if ivi < m then divQ15 ivi m / 2 else 16384
  let a := if gt < gz then c.azu else c.azd
  let gzs' := max (gzs + ((gt * 65536 - gzs) * a + 2 ^ 31) / 2 ^ 32) (2048 * 65536)
  ⟨id, iq, lim, gzs', spx, pexf, gz⟩

/-- x_d or x_q rescaled for a change of KPC (R123, bumpless class), and whether it saturated. -/
def bumpKpc (x old new e : Int) : Int × Bool :=
  let y := x + (old - new) * e * 16
  (st32 y, decide (st32 y ≠ y))

/-- x_d or x_q that makes u equal v with zero error (R128): the integrator cancels the decoupling term. -/
def startInt (term : Int) : Int := st32 (term * 65536)

/-- LE1, every tick. In COMMISSION and TRIPPED its outputs are 0; in BLOCKED and the charging stages it measures only. -/
def le1Run (s : Hw) : KRun :=
  let x := s.xram
  let c := s.le.kpar.force
  if s.modeIn [mCommission, mTripped] then
    { words := ((List.range 8).map fun j => pub 1 (2 * j) 0) ++ pubAngle 1 0x10 0 ++ [pub 1 0x14 0, pub 1 0x16 16384],
      vars := [(kLim, 0), (kLock, 0)] }
  else
    let (val, vbe) := clarke (kQty s x 0) (kQty s x 1) (kQty s x 2)
    let (ial, ibe) := clarke (kQty s x 3) (kQty s x 4) (kQty s x 5)
    let (sn, cs) := sincos (kAngle x 0 0)
    let rot := fun (a b : Int) => ((a * cs + b * sn + 2 ^ 14) / 2 ^ 15, (b * cs - a * sn + 2 ^ 14) / 2 ^ 15)
    let (vd, vq) := rot val vbe
    let (id, iq) := rot ial ibe
    let (sv, vmf) := lp (sqrtRound (vd * vd + vq * vq)) (s.k kSv) c.aq
    let locked := decide (1000 * (vq.natAbs : Int) < 35 * vmf)
    let lock : Int := if s.kTracks then (if s.frameStart then (if locked then min 16 (s.k kLock + 1) else 0) else s.k kLock) else 0
    let meas := [pub 1 0 vd, pub 1 2 vq, pub 1 4 id, pub 1 6 iq]
    -- R123, bumpless class, before the tick's own computation
    let seen := s.k kKpc
    let old := if seen = 0 then c.kpc else seen - 1
    let (xd0, satD) := bumpKpc (s.k kXd) old c.kpc (s.k kEd)
    let (xq0, satQ) := bumpKpc (s.k kXq) old c.kpc (s.k kEq)
    let resc : Int := if satD || satQ then 1 else 0
    if !s.kFull then
      { vars := [(kSv, sv), (kLock, lock), (kLim, 0), (kKpc, c.kpc + 1), (kXd, xd0), (kXq, xq0), (kEd, 0), (kEq, 0),
                 (kResc, resc)],
        words := meas ++ [pub 1 8 0, pub 1 0xA 0, pub 1 0xC 0, pub 1 0xE vmf] ++ pubAngle 1 0x10 0 ++
          [pub 1 0x14 0, pub 1 0x16 ((s.k kGz + 16384 * 65536 + 2 ^ 15) / 2 ^ 16)] }
    else
      let dvd := kOut x 5 0 - vd
      let dvq := -vq
      let ird0 := satInt 16 ((c.g1 * dvd + c.g2 * dvq + 2 ^ 9) / 2 ^ 10)
      let irq0 := satInt 16 ((c.g1 * dvq - c.g2 * dvd + 2 ^ 9) / 2 ^ 10)
      let l := currentLimit s x ird0 irq0 vd vq
      let ird := s.blkScaled l.id
      let irq := s.blkScaled l.iq
      let ed := ird - id
      let eq := irq - iq
      let wq := kOut x 0 4
      let xlw := (c.xlc * (16384 + wq) + 2 ^ 13) / 2 ^ 14
      let termD := (xlw * iq + 2 ^ 13) / 2 ^ 14
      let termQ := (xlw * id + 2 ^ 13) / 2 ^ 14
      let fresh := s.k kInit = 1
      let xd1 := if fresh then startInt termD else xd0
      let xq1 := if fresh then startInt (-termQ) else xq0
      let ud := vd + (c.kpc * ed + 2 ^ 11) / 2 ^ 12 + (xd1 + 2 ^ 15) / 2 ^ 16 - termD
      let uq := vq + (c.kpc * eq + 2 ^ 11) / 2 ^ 12 + (xq1 + 2 ^ 15) / 2 ^ 16 + termQ
      let prevSat := smapGet 0 x (outArea 2 + 5) + smapGet 0 x (outArea 3 + 5) + smapGet 0 x (outArea 4 + 5)
      let go := !l.lim && prevSat == 0
      let xd := if go then st32 (xd1 + (ed * c.kic + 2 ^ 15) / 2 ^ 16) else xd1
      let xq := if go then st32 (xq1 + (eq * c.kic + 2 ^ 15) / 2 ^ 16) else xq1
      let ec := satInt 16 (sqrtRound (ud * ud + uq * uq))
      { vars := [(kSv, sv), (kLock, lock), (kLim, if l.lim then 1 else 0), (kKpc, c.kpc + 1), (kXd, xd), (kXq, xq), (kEd, ed),
                 (kEq, eq), (kGz, l.gzs - 16384 * 65536), (kSpx, l.spx), (kInit, 0), (kResc, resc)],
        words := meas ++ [pub 1 8 ird, pub 1 0xA irq, pub 1 0xC ec, pub 1 0xE vmf] ++ pubAngle 1 0x10 (atan2 uq ud) ++
          [pub 1 0x14 l.pexf, pub 1 0x16 l.gz] }

/-! ### LE2 to LE4 -/

/-- OFS_k of R117. -/
def phaseOfs (k : Nat) : Nat := if k = 0 then 0 else if k = 1 then 1431655765 else 2863311531

/-- The active reference shape table (R177). -/
def Hw.shapeEntry (s : Hw) (i : Nat) : Int :=
  if s.liveGet SHAPE_CTRL_SHAPE_SRC = 2 then
    (if i % 2 = 0 then s.geti (SHAPE_Aj_Y_EVEN (i / 2)) else s.geti (SHAPE_Aj_Y_ODD (i / 2)))
  else shapeRom (s.liveGet SHAPE_CTRL_SHAPE_SRC) i

/-- One third of the DC current reference that phase control takes, by DC fault stage (R120, R142, Table LFT-2). -/
def idc3In (x : SMap Nat) : Int :=
  let stage := smapGet 0 x (outArea 11) / 256 % 4
  let idc := kOut x 10 2
  let idc := if stage = 0 then idc else if stage = 3 then clampInt (-3277) 3277 idc else 0
  (idc * 10923 + 2 ^ 14) / 2 ^ 15

/-- LE2, LE3, LE4 (phase p = 0, 1, 2), every tick. -/
def phaseRun (p : Nat) (s : Hw) : KRun :=
  let x := s.xram
  let c := s.le.kpar.force
  let n := 2 + p
  let icx := (kQty s x (8 + 2 * p) + kQty s x (9 + 2 * p) + 1) / 2
  if !s.kFull then
    { words := [pub n 0 0, pub n 2 0, pub n 4 0, pub n 6 (if s.modeIn [mCommission, mTripped] then 0 else icx), pub n 8 0,
                (outArea n + 5, 0)] }
  else
    let phx := (kAngle x 0 0 + kAngle x 1 0x10 + 2 ^ 32 - phaseOfs p) % 2 ^ 32
    let ec := kOut x 1 0xC
    let ex := (ec * shapeAt s.shapeEntry ((phx + 2 ^ 30) % 2 ^ 32) + 2 ^ 14) / 2 ^ 15
    let exd := (ex * c.kad + 2 ^ 13) / 2 ^ 14
    let cx := (sincos phx).2
    let (s2x, c2x) := sincos (2 * phx % 2 ^ 32)
    let dih := kOut x 10 (4 + 2 * p)
    let ivamp := kOut x 10 (0xA + 2 * p)
    let icr := s.blkScaled (idc3In x + dih + (ivamp * cx + 2 ^ 14) / 2 ^ 15)
    let er := icr - icx
    let xc := s.k (kXc p)
    let rc := s.k (kRc p)
    let rs := s.k (kRs p)
    let rsn := ((rc + 2 ^ 15) / 2 ^ 16 * c2x + (rs + 2 ^ 15) / 2 ^ 16 * s2x + 2 ^ 13) / 2 ^ 14
    let ucx := satInt 16 ((c.kpcc * er + 2 ^ 11) / 2 ^ 12 + (xc + 2 ^ 15) / 2 ^ 16 + rsn)
    let stage := smapGet 0 x (outArea 11) / 256 % 4
    let vdc := if stage = 0 then kQty s x 6 - kQty s x 7 else kOut x 11 0xE
    let uxu := vdc / 2 - exd - ucx
    let uxl := vdc / 2 + exd - ucx
    -- arms 2p (upper) and 2p + 1 (lower); UMAX = V_Sigma, UMIN = -V_Sigma,FB (R118)
    let arm := fun (a : Nat) => (-kOut x (8 + a / 3) (8 * (a % 3) + 4), kOut x (8 + a / 3) (8 * (a % 3) + 2))
    let (minU, maxU) := arm (2 * p)
    let (minL, maxL) := arm (2 * p + 1)
    let satU := decide (maxU < uxu) || decide (uxu < minU)
    let satL := decide (maxL < uxl) || decide (uxl < minL)
    let go := !(satU || satL)
    let integ := fun (st d k : Int) => if go then st32 (st + (d * k + 2 ^ 15) / 2 ^ 16) else st
    { vars := [(kXc p, integ xc er c.kicc), (kRc p, integ rc ((er * c2x + 2 ^ 14) / 2 ^ 15) c.krc),
               (kRs p, integ rs ((er * s2x + 2 ^ 14) / 2 ^ 15) c.krc)],
      words := [pub n 0 (clampInt minU maxU uxu), pub n 2 (clampInt minL maxL uxl), pub n 4 ex, pub n 6 icx, pub n 8 ucx,
                (outArea n + 5, (if satU then 1 else 0) + (if satL then 2 else 0))] }

/-! ### LE5 -/

/-- LE5, every frame, from the values latched at its first tick (R115, Tables GFL-7 and ENG-2). -/
def le5Run (s : Hw) : KRun :=
  let x := s.le.frameX
  let c := s.le.kpar.force
  let qset := rampOut x 1 + auxIn s x GFL_AUX_Q_EN GFL_AUX_Q_ENG GFL_AUX_Q_WORD
  let vref := satInt 16 (rampOut x 3 - ((kOut x 0 8 - qset) * c.gq + 2 ^ 15) / 2 ^ 16)
  let vmf := kOut x 1 0xE
  if s.mode = mTripped then {}
  else if s.mode = mCommission then { words := [pub 5 0 0, pub 5 2 vref], vars := [(kEsatHi, 0), (kEsatLo, 0)] }
  else if s.kTracks then { words := [pub 5 0 vmf, pub 5 2 vref], vars := [(kEsatHi, 0), (kEsatLo, 0)] }
  else if s.bsStage then { words := [pub 5 2 vref], vars := [(kXi, 0), (kEsatHi, 0), (kEsatLo, 0)] }
  else
    let ev := vref - vmf
    let hold := (s.k kEsatHi == 1 && decide (0 < ev)) || (s.k kEsatLo == 1 && decide (ev < 0))
    let xi := if hold then s.k kXi else st32 (s.k kXi + (ev * c.av + 2 ^ 15) / 2 ^ 16)
    let raw := vref + (xi + 2 ^ 15) / 2 ^ 16
    { words := [pub 5 0 (clampInt 0 24576 raw), pub 5 2 vref],
      vars := [(kXi, xi), (kEsatHi, if 24576 < raw then 1 else 0), (kEsatLo, if raw < 0 then 1 else 0)] }

end Sys2Proof.Machine
end

