-- ==== Sys2Proof/Machine/KernelDc.lean ====
section
/-! DEFINITION. The DC side and the arm energies of the kernel: LE6, LE8, LE9, LE10 (R119 to R121, R126, R155, R158). -/

namespace Sys2Proof.Machine

/-! ### LE6 -/

/-- LE6, every frame (R121). -/
def le6Run (s : Hw) : KRun :=
  let x := s.le.frameX
  let c := s.le.kpar.force
  if s.mode = mTripped then {}
  else if s.mode = mCommission then { words := [pub 6 0 0, pub 6 2 0] }
  else if s.kTracks then { words := [pub 6 0 0, pub 6 2 0], vars := [(kXdc, 0)] }
  else if s.liveGet GFL_BASE1_DCMODE = 0 then { words := [pub 6 0 (rampOut x 0), pub 6 2 0] }
  else
    let edc := kQty s x 6 - kQty s x 7 - rampOut x 2
    let xdc := s.k kXdc
    let raw := (s.liveInt GFL_DCCTL_KDC * edc + 2 ^ 11) / 2 ^ 12 + (xdc + 2 ^ 15) / 2 ^ 16
    let lim : Int := s.liveGet GFL_DCCTL_P_DC_LIM
    let pdc := clampInt (-lim) lim raw
    let xdc' := if raw = pdc then st32 (xdc + (edc * c.kidc + 2 ^ 15) / 2 ^ 16) else xdc
    { words := [pub 6 0 (satInt 16 (rampOut x 0 + pdc)), pub 6 2 pdc], vars := [(kXdc, xdc')] }

/-! ### LE8 and LE9 -/

/-- First word of the report of slot `i` (768 * arm + slot) in the uplink area (Table LPE-3): the 48 bits lie in it and
the two words above, low bits first (log entry 24). -/
def uplinkWord (i : Nat) : Nat := (0x1000 + 8 * i) / 2

/-- VCAP of a slot's report in an image, in 0.1 V (Table SHF-7). -/
def slotVolt (x : SMap Nat) (i : Nat) : Nat := smapGet 0 x (uplinkWord i + 2)

/-- The healthy slots of an arm at the first tick of the frame (R197), each with whether it is full-bridge. -/
def healthySlots (s : Hw) (a : Nat) : List (Nat × Bool) :=
  s.le.frameSlots.filterMap fun r =>
    if VSQ_SLOTa_j a 0 ≤ r.1 ∧ r.1 ≤ VSQ_SLOTa_j a 767 then
      let ty := (VSQ_SLOTa_j_TYPE a 0).of r.2
      if ty ≠ 0 ∧ (VSQ_SLOTa_j_EXCL a 0).of r.2 = 0 then some ((r.1 - VSQ_SLOTa_j a 0) / 4, ty == 2) else none
    else none

/-- A quotient of sums, rounded once to Q1.15 on the kernel scale (R119); with a base item of 0 the spec gives none. -/
def sumRatio (num den : Nat) : Int :=
  if den = 0 then satInt 16 (Config.divZero num) else satInt 16 (roundDiv (num : Int) (den : Int))

/-- One arm's words and its largest and smallest healthy voltage. -/
def armSums (s : Hw) (x : SMap Nat) (a : Nat) : List (Nat × Nat) × List (Nat × Int) :=
  let hs := healthySlots s a
  let vs := hs.map fun h => (slotVolt x (768 * a + h.1), h.2)
  let sv := (vs.map (·.1)).sum
  let fb := ((vs.filter (·.2)).map (·.1)).sum
  let sq := (vs.map fun v => v.1 * v.1).sum
  let vdb := s.liveGet GFL_BASE1_V_DC_BASE
  let vn := s.liveGet GFL_SM_V_SM_NOM
  let n := 8 + a / 3
  let o := 8 * (a % 3)
  ([pub n o (sumRatio (16384 * sq) (s.liveGet GFL_SM_N_NOM * vn * vn)), pub n (o + 2) (sumRatio (16384 * sv) (1000 * vdb)),
    pub n (o + 4) (sumRatio (16384 * fb) (1000 * vdb)), (outArea n + (o + 6) / 2, hs.length % 65536)],
   [(kMax a, ((vs.map (·.1)).foldl max 0 : Nat)), (kMin a, ((vs.map (·.1)).foldl min 65535 : Nat))])

/-- LE8 (arms A0 to A2) and LE9 (arms A3 to A5), every frame and in every mode. -/
def sumsRun (n : Nat) (s : Hw) : KRun :=
  let rs := (List.range 3).map fun i => armSums s s.le.frameX (3 * (n - 8) + i)
  { words := rs.flatMap (·.1), vars := rs.flatMap (·.2) }

/-! ### LE10 -/

/-- W of an arm in an image. -/
def armW (x : SMap Nat) (a : Nat) : Int := kOut x (8 + a / 3) (8 * (a % 3))

/-- LE10, every frame (R120). Divisions whose rounding R120 does not state are free in it. -/
def le10Run (s : Hw) : KRun :=
  let x := s.le.frameX
  let c := s.le.kpar.force
  let ws := (List.range 6).map (armW x)
  let wsum := roundDiv (ws.foldl (· + ·) 0) 6
  let rest := (List.range 8).map fun j => pub 10 (2 * j + 2) 0
  if s.mode = mTripped ∨ s.mode = mCommission then { words := pub 10 0 wsum :: rest }
  else if s.kTracks then { words := pub 10 0 wsum :: rest, vars := [(kXt, 0)] }
  else
    let vdc := kQty s x 6 - kQty s x 7
    let vd := max vdc 1638
    let eT := rampOut x 5 - wsum
    let xt := s.k kXt
    let pw := (c.kt * eT + 2 ^ 11) / 2 ^ 12 + (xt + 2 ^ 15) / 2 ^ 16
    let xt' := st32 (xt + (eT * c.kit + 2 ^ 15) / 2 ^ 16)
    let idc := divK (kOut x 0 6 + pw) vd
    let w := fun (a : Nat) => ws.getD a 0
    let wph := (List.range 3).map fun p => roundFree (w (2 * p) + w (2 * p + 1)) 2
    let wm := roundFree (wph.foldl (· + ·) 0) 3
    let ev := (kOut x 1 0xC * c.kad + 2 ^ 13) / 2 ^ 14
    let dih := wph.map fun v => -divK ((c.kh * (v - wm) + 2 ^ 11) / 2 ^ 12) vd
    let iv := (List.range 3).map fun p => divK ((c.kv * (w (2 * p) - w (2 * p + 1)) + 2 ^ 11) / 2 ^ 12) (max ev 1638)
    { words := [pub 10 0 wsum, pub 10 2 idc] ++ (dih.zipIdx.map fun d => pub 10 (4 + 2 * d.2) d.1) ++
        (iv.zipIdx.map fun d => pub 10 (0xA + 2 * d.2) d.1) ++ [pub 10 0x10 pw],
      vars := [(kXt, xt'), (kFloor, if vdc < 1638 ∨ ev < 1638 then 1 else 0)] }

end Sys2Proof.Machine
end

