-- ==== Sys2Proof/Machine/Lft.lean ====
section
/-! DEFINITION. LE11: fault detection, ride-through supervision, DC fault stages and the chopper request
(07_limits_and_faults.md, R134 to R149). -/

namespace Sys2Proof.Machine

/-! ### One run of LE11 -/

/-- The conditions of Table LFT-1 in a tick, with their counts: UV, OV, OC, DCUV, DCOC, DCPE, ARM_OC, DC_OV. -/
def detConds (s : Hw) (vm vdc vpe idc iarm : Int) : List (Bool × Nat) :=
  let g : Fld → Int := fun f => (s.liveGet f : Int)
  [(decide (vm < g LFT_ACDET_UV_THR), s.liveGet LFT_ACTIME_UV_N),
   (decide (g LFT_ACDET_OV_THR < vm), s.liveGet LFT_ACTIME_OV_N),
   (s.k kLim == 1, s.liveGet LFT_OC_OC_N),
   (decide (vdc < g LFT_DCDET_DCUV_THR), s.liveGet LFT_DCDET2_DCUV_N),
   (decide (g LFT_DCDET_DCOC_THR < (idc.natAbs : Int)), s.liveGet LFT_DCDET2_DCOC_N),
   (decide (g LFT_DCDET2_DCPE_THR < (vpe.natAbs : Int)), s.liveGet LFT_DCDET2_DCUV_N),
   (decide (g LFT_OC_I_ARM_MAX < iarm), s.liveGet LFT_DCDET2_ARM_N),
   (decide (g LFT_REPEAT_DCOV_TRIP < vdc), 50)]

/-- A consecutive count after a tick. -/
def countOn (on : Bool) (n : Int) : Int := if on then min (n + 1) 1000000 else 0

/-- The increment of the recovery ramp per tick (R140). -/
def recInc (s : Hw) : Int := roundDiv ((s.liveGet LFT_REC_PREC_RATE : Int) * 2 * 16384 * 65536) 100000000

/-- `x` moved towards `t` by at most `d`. -/
def towards (x t d : Int) : Int := if x < t then min t (x + d) else max t (x - d)

/-- The P order that PSET_OVR merges with (R140). -/
def orderedP (s : Hw) : Int := kOut s.xram 6 0 + auxIn s s.xram GFL_AUX_P_EN GFL_AUX_P_ENG GFL_AUX_P_WORD

/-- LE11's run: every state variable it commits. Its words are published at its deadline by `lftPublish`. -/
def le11Run (s : Hw) : KRun :=
  let x := s.xram
  let c := s.le.kpar.force
  let q := kQty s x
  let (val, vbe) := clarke (q 0) (q 1) (q 2)
  let vm := sqrtRound (val * val + vbe * vbe)
  let (s1, vmf) := lp vm (s.k kS1) c.aq
  let acf := s.flag LFT_STAT_ACF
  let (s2, vpre) := if acf then (s.k kS2, s.k kVpre) else lp vmf (s.k kS2) 8590
  let dv := vpre - vmf
  let db : Int := s.liveGet LFT_RC_DB
  let krc := s.liveInt LFT_RC_K_RC
  let imax : Int := s.liveGet LFT_IMAX_IMAX
  let irc :=
    if db < dv then min ((krc * dv + 2 ^ 11) / 2 ^ 12) imax
    else if db < -dv then max (-((krc * -dv + 2 ^ 11) / 2 ^ 12)) (-imax)
    else 0
  let vdc := q 6 - q 7
  let idc := q 8 + q 10 + q 12
  let iarm : Int := (((List.range 6).map fun a => (q (8 + a)).natAbs).foldl max 0 : Nat)
  let ds := (detConds s vm vdc (q 6 + q 7) idc iarm).zipIdx.map fun d =>
    let n := countOn d.1.1 (s.k (kCnt d.2))
    (d.2, n, decide ((d.1.2 : Int) ≤ n))
  let fired := maskOf ((ds.filter (·.2.2)).map (·.1))
  let fired := if vmf < (s.liveGet LFT_ACDET_UV_THR : Int) then bitSet fired 0 else fired
  let inBand := decide ((s.liveGet LFT_ACREC_UV_REC : Int) ≤ vmf) && decide (vmf ≤ (s.liveGet LFT_ACREC_OV_REC : Int))
  let acFire := bitOf fired 0 || bitOf fired 1 || bitOf fired 2
  let recT := if acf then countOn (inBand && !acFire) (s.k kRecT) else 0
  let dcRec :=
    if s.get LFT_STAT_DCF_STAGE = 3 then countOn (decide ((s.liveGet LFT_DCREC_DCREC_LO : Int) ≤ vdc)) (s.k kDcRec) else 0
  -- R145, R146
  let chopOn : Int := if (s.liveGet LFT_CHOP_CHOP_ON : Int) < vdc then 1
    else if vdc < (s.liveGet LFT_CHOP_CHOP_OFF : Int) then 0 else s.k kChop
  let runs := s.modeIn [mEnergize, mForm, mRide, mTripped]
  let duty :=
    if runs && chopOn == 1 && s.k kTherm == 0 then
      clampInt 0 32767 (((vdc - s.liveGet LFT_CHOP_CHOP_OFF) * s.liveGet LFT_CHOP2_CHOP_K + 2 ^ 6) / 2 ^ 7)
    else 0
  let (sth, th) := lp duty (s.k kSth) c.ach
  let avg : Int := (s.liveGet LFT_CHOP2_CH_AVG : Int) * 32767
  let therm : Int := if avg < 100 * th then 1 else if 200 * th < avg then 0 else s.k kTherm
  -- R140
  let rec_ := s.flag LFT_STAT_RECOVERING
  let inc := recInc s
  let dcap := if rec_ then s.k kDcap + inc else s.k kDcap
  let ps := if rec_ then towards (s.k kPsOvr) (orderedP s * 65536) inc else s.k kPsOvr
  -- R153, R154: legs at or above PRE_ISTEP in the frame, and above PRE_ICUT
  let legI := fun (j : Nat) => max (q (8 + 2 * j)).natAbs (q (9 + 2 * j)).natAbs
  let bar := (List.range 3).foldl (fun m j => if s.liveGet ENG_PREI_PRE_ISTEP ≤ legI j then bitSet m j else m)
    (s.k kStepBar).toNat
  let cuts := (List.range 6).map fun a =>
    (kIcut a, countOn (decide (s.liveGet ENG_PREI_PRE_ICUT < (q (8 + a)).natAbs)) (s.k (kIcut a)))
  { vars := [(kS1, s1), (kS2, s2), (kVmf, vmf), (kVm, vm), (kVpre, vpre), (kIrc, irc), (kIdc, idc), (kVdc, vdc),
             (kFired, (fired : Int)), (kRecT, recT), (kDcRec, dcRec), (kChop, chopOn), (kDuty, duty), (kSth, sth),
             (kTherm, therm), (kDcap, dcap), (kPsOvr, ps), (kStepBar, (bar : Int)),
             (kBand, countOn inBand (s.k kBand))] ++ cuts ++ ds.map fun d => (kCnt d.1, d.2.1) }

/-! ### Words of LE11 (Table LFT-6) -/

/-- The DC feed-forward of Table LFT-2. -/
def vdcFf (s : Hw) : Int :=
  let stage := s.get LFT_STAT_DCF_STAGE
  if stage = 1 ∨ stage = 2 then 0
  else if stage = 3 ∧ s.liveGet GFL_BASE1_DCMODE = 1 then
    let n : Int := (s.liveGet LFT_DCF2_DCF_VRAMP : Int) * 5000
    if s.k kStageAge < n then roundFree (rampOut s.xram 2 * s.k kStageAge) n else rampOut s.xram 2
  else s.k kVdc

/-- PSET_OVR and whether it is in force (R134, R140, R142), with the state that keeps it. -/
def psetOvr (s : Hw) : Option Int :=
  let lim : Int := s.liveGet LFT_REC_DCF_PLIM
  if s.flag LFT_STAT_DCF then some (clampInt (-lim) lim (-kOut s.xram 10 0x10))
  else if s.flag LFT_STAT_ACF && s.liveGet LFT_PRIO_RT_ANG == 1 then some (satInt 16 (kOut s.xram 0 6 + kOut s.xram 1 0x14))
  else if (s.flag LFT_STAT_RECOVERING || s.ops.recovered) && s.k kOvrOn == 1 then some (s.k kPsOvr / 65536)
  else none

/-- At LE11's deadline: its words as its flags then stand. -/
def lftPublish (s : Hw) : Hw :=
  let ovr := psetOvr s
  let imax : Int := s.liveGet LFT_IMAX_IMAX
  let f := fun (b : Bool) (k : Nat) => if b then 2 ^ k else 0
  let fired := (s.k kFired).toNat
  let flags := f (s.flag LFT_STAT_ACF) 15 + f (s.flag LFT_STAT_DCF) 14 + f (s.flag LFT_STAT_RECOVERING) 13 +
    f (s.k kDuty != 0) 12 + f (s.k kTherm == 1) 11 + f ovr.isSome 10 + s.get LFT_STAT_DCF_STAGE % 4 * 256 +
    ((List.range 6).map fun d => f (bitOf fired d) (5 - d)).sum
  let dcap := if s.flag LFT_STAT_RECOVERING then min imax (s.k kDcap / 65536) else imax
  let words := [(outArea 11, flags), pub 11 2 (s.k kIrc), pub 11 4 (s.k kVm), pub 11 6 (s.k kVmf), pub 11 8 (s.k kVpre),
    pub 11 0xA (s.k kIdc), pub 11 0xC (s.k kDuty), pub 11 0xE (vdcFf s), pub 11 0x10 dcap, pub 11 0x12 (ovr.getD 0)] ++
    (List.range 6).map fun a => (outArea 11 + 11 + a,
      s.get (if a % 2 = 0 then ENG_NCHGj_N_EVEN (a / 2) else ENG_NCHGj_N_ODD (a / 2)))
  let s := { s with xram := words.foldl (fun m w => smapSet 0 m w.1 w.2) s.xram }
  match ovr with
  | some p => if s.flag LFT_STAT_RECOVERING then s else (s.setK kOvrOn 1).setK kPsOvr (p * 65536)
  | none => s.setK kOvrOn 0

/-- After an event of LE11 that comes later in the tick than its deadline, its words are published as they now stand. -/
def lftLate (s : Hw) : Hw := if (s.taskOf 11 0).due then s else lftPublish s

/-! ### What a run's end does to the registers -/

/-- LFT_STAT and the recovery as LE11's run leaves them (R140, R145, R146). -/
def le11End (s : Hw) : Hw :=
  let s := (s.putb LFT_STAT_CHOP_ACT (s.k kDuty != 0)).putb LFT_STAT_CHOP_THERM (s.k kTherm == 1)
  let full := decide ((s.liveGet LFT_IMAX_IMAX : Int) * 65536 ≤ s.k kDcap)
  let merged := s.k kOvrOn == 0 || s.k kPsOvr == orderedP s * 65536
  if s.flag LFT_STAT_RECOVERING && full && merged then (s.put LFT_STAT_RECOVERING 0).setK kOvrOn 0 else s

/-! ### Faults (R137, R143, R147) -/

/-- A cause of LFT_KCAUSE raises KERNEL. -/
def kernelTrip (f : Fld) (s : Hw) : Hw := (s.raise f).tripPulse cKernel

/-- The lowest V_Sigma,FB of the six arms. -/
def lowestFb (s : Hw) : Int :=
  ((List.range 6).map fun a => kOut s.xram (8 + a / 3) (8 * (a % 3) + 4)).foldl min 32767

/-- Entries to RIDE-THROUGH within the last RT_REP_WIN seconds. -/
def recentEntries (s : Hw) : Nat :=
  (s.le.entries.filter fun t => decide (s.ticks < t + s.liveGet LFT_REPEAT_RT_REP_WIN * ticksPerSec)).length

/-- Automatic fault entry belongs to the tick in progress, unless there have been too many (R147). -/
def faultEntry (s : Hw) : Hw :=
  if s.mode ≠ mForm ∨ s.ops.faultEntry then s
  else if s.liveGet LFT_REPEAT_RT_REP_N ≤ recentEntries s then kernelTrip LFT_KCAUSE_RT_REPEAT s
  else { s with ops := { s.ops with faultEntry := true } }

/-- A new fault ends a recovery that runs (R140), and withdraws one that the tick had found (R148). -/
def endRecovery (s : Hw) : Hw :=
  let s := { s with ops := { s.ops with recovered := false } }
  if s.flag LFT_STAT_RECOVERING then s.put LFT_STAT_RECOVERING 0 else s

/-- ACF is set (R137). -/
def setAcf (s : Hw) : Hw := faultEntry ((endRecovery s).setK kRecT 0 |>.put LFT_STAT_ACF 1)

/-- DCF is set (R137, R141), with a ride-through or the trip that stands in its place (R143). -/
def setDcf (s : Hw) : Hw :=
  if s.flag LFT_STAT_DCF then s
  else
    let s := ((endRecovery s).put LFT_STAT_DCF 1).put LFT_STAT_DCF_STAGE 1
    let s := s.setKs [(kStageAge, 0), (kDcfAge, 0), (kDcRec, 0), (kStageNext, 0)]
    if s.liveGet LFT_DCF_DCF_MODE = 0 then kernelTrip LFT_KCAUSE_DCF_TRIP s
    else if lowestFb s < (s.liveGet LFT_DCF_DCF_FBMIN : Int) then kernelTrip LFT_KCAUSE_DCF_NO_FB s
    else faultEntry s

/-- UV and OC are masked in the black-start ramp (R157). -/
def detMasked (s : Hw) (det : Nat) : Bool := s.mode == mEnergize && s.get ENG_STAT_STAGE == 4 && (det == 0 || det == 2)

/-- DETECTOR_COUNT: a detector that LE11's run of this tick has found fired. -/
def detectorCount (det : Nat) (s : Hw) : Hw :=
  if 8 ≤ det ∨ !bitOf (s.k kFired).toNat det then s
  else if det = 6 then kernelTrip LFT_KCAUSE_ARM_OC s
  else if det = 7 then kernelTrip LFT_KCAUSE_DC_OV s
  else
    let seen := [LFT_STAT_UV_SEEN, LFT_STAT_OV_SEEN, LFT_STAT_OC_SEEN, LFT_STAT_DCUV_SEEN, LFT_STAT_DCOC_SEEN, LFT_STAT_DCPE_SEEN]
    let s := s.raise (seen.getD det LFT_STAT_UV_SEEN)
    if !s.switching || detMasked s det then s
    else lftLate (if det < 3 then setAcf s else setDcf s)

/-- A fault flag has cleared: in RIDE-THROUGH, recovery when both are clear (R139, R148). -/
def flagCleared (s : Hw) : Hw :=
  let s := if s.mode = mRide ∧ !s.flag LFT_STAT_ACF ∧ !s.flag LFT_STAT_DCF then { s with ops := { s.ops with recovered := true } } else s
  lftLate s

/-- AC_RECOVERY (R139): both conditions have held for REC_T. -/
def acRecovery (s : Hw) : Hw :=
  if s.flag LFT_STAT_ACF && decide ((s.liveGet LFT_ACTIME_REC_T : Int) * 500 ≤ s.k kRecT) then
    flagCleared ((s.put LFT_STAT_ACF 0).setK kRecT 0)
  else s

/-- DC_STAGE_TIMER (R141): CLEAR ends on the current, DEION on its time, RESTORE with DCF. -/
def dcStageTimer (s : Hw) : Hw :=
  let stage := s.get LFT_STAT_DCF_STAGE
  if s.k kStageNext ≠ 0 then s
  else if stage = 1 ∧ (s.k kIdc).natAbs ≤ s.liveGet LFT_DCF2_DCF_ICLR then s.setK kStageNext 2
  else if stage = 2 ∧ (s.liveGet LFT_DCF2_DCF_DEION : Int) * 5000 ≤ s.k kStageAge then s.setK kStageNext 3
  else if stage = 3 ∧ (s.liveGet LFT_DCREC_DCREC_T : Int) * 500 ≤ s.k kDcRec then
    flagCleared (((s.put LFT_STAT_DCF 0).put LFT_STAT_DCF_STAGE 0).setKs [(kStageAge, 0), (kDcfAge, 0), (kDcRec, 0)])
  else s

/-- DCF_NOCLR (R144). -/
def dcfNoclr (s : Hw) : Hw :=
  if s.get LFT_STAT_DCF_STAGE = 1 ∧ s.k kStageNext = 0 ∧ (s.liveGet LFT_DCF_DCF_TCLR : Int) * 500 ≤ s.k kDcfAge then
    kernelTrip LFT_KCAUSE_DCF_NOCLR s
  else s

/-! ### Boundaries and mode changes -/

/-- A tick begins: the DC fault stage moves on; the detectors fired in the last tick are forgotten. -/
def lftTick (s : Hw) : Hw :=
  let s := s.setK kFired 0
  let s :=
    if !s.flag LFT_STAT_DCF then s
    else
      let next := (s.k kStageNext).toNat
      let s := s.setK kDcfAge (s.k kDcfAge + 1)
      if next = 0 then s.setK kStageAge (s.k kStageAge + 1)
      else (s.put LFT_STAT_DCF_STAGE next).setKs [(kStageNext, 0), (kStageAge, 0), (kDcRec, 0)]
  if s.mode = mRide then s.put LFT_LAST1_RT_MS (min 65535 (s.ops.rtTicks / ticksPerMs)) else s

/-- The first tick of a mode, as LE11 sees it (R128, R137, R140, R147). -/
def lftMode (old new : Nat) (s : Hw) : Hw :=
  let s :=
    if old = mForm ∧ new = mRide then
      let fired := (s.k kFired).toNat
      let s := ((s.put LFT_LAST0_DET_TICK ((s.time.tickNo + 2 ^ 32 - 1) % 2 ^ 32)).put LFT_LAST1_DETECTORS
        ((List.range 6).map fun d => if bitOf fired d then 2 ^ (5 - d) else 0).sum).put LFT_LAST1_EXIT 0
      ((s.put LFT_LAST1_RT_MS 0).bump LFT_STAT_RT_ENTRIES).onLe fun c => { c with entries := (s.ticks :: c.entries).take 16 }
    else if old = mRide then s.put LFT_LAST1_EXIT (if new = mForm then 1 else if new = mTripped then 2 else 3)
    else s
  let s := if old = mRide ∧ new = mForm then
      (s.put LFT_STAT_RECOVERING 1).setK kDcap ((kOut s.xram 1 8).natAbs * 65536)
    else s
  if [mCommission, mBlocked, mTripped].contains new then
    let s := (((s.put LFT_STAT_ACF 0).put LFT_STAT_DCF 0).put LFT_STAT_DCF_STAGE 0).put LFT_STAT_RECOVERING 0
    s.setKs [(kRecT, 0), (kDcRec, 0), (kStageAge, 0), (kDcfAge, 0), (kStageNext, 0), (kOvrOn, 0)]
  else s

end Sys2Proof.Machine
end

