-- ==== Sys2Proof/Machine/Energize.lean ====
section
/-! DEFINITION. The energization sequence on LE11: stages, charge counts, black-start ramp, completion criteria and
failures (08_energizing.md, R150 to R163). -/

namespace Sys2Proof.Machine

/-! ### Arms -/

/-- An arm's W, and its healthy count, as LE8 and LE9 last released them. -/
def armWnow (s : Hw) (a : Nat) : Int := armW s.xram a
def armHealthy (s : Hw) (a : Nat) : Nat := smapGet 0 s.xram (outArea (8 + a / 3) + 4 * (a % 3) + 3)

/-- An arm meets the spread limit (R155). -/
def armSpreadOk (s : Hw) (a : Nat) : Bool :=
  decide ((s.k (kMax a) - s.k (kMin a)) * 100 ≤ (s.liveGet ENG_EQ_SPREAD_TOL * s.liveGet GFL_SM_V_SM_NOM : Nat))

/-- Every arm has W at or above a threshold; every arm meets the spread limit. -/
def armsCharged (s : Hw) (thr : Nat) : Bool := (List.range 6).all fun a => decide ((thr : Int) ≤ armWnow s a)
def armsEven (s : Hw) : Bool := (List.range 6).all (armSpreadOk s)

/-- v_dc and filtered |v| as LE11 and LE1 last released them. -/
def vdcNow (s : Hw) : Int := s.k kVdc
def vmfNow (s : Hw) : Int := kOut s.xram 1 0xE

/-! ### Criteria (R159, Table ENG-4) -/

/-- The method-1 completion applies: ENERGIZE by black start. -/
def method1 (s : Hw) : Bool := s.mode == mEnergize && s.flag ENG_STAT_METHOD

/-- ENG_CRIT. -/
def engCrit (s : Hw) : Nat :=
  let f := fun (b : Bool) (k : Nat) => if b then 2 ^ k else 0
  let m1 := method1 s
  let vmf := s.k kVmf
  let inBand := decide ((s.liveGet LFT_ACREC_UV_REC : Int) ≤ vmf) && decide (vmf ≤ (s.liveGet LFT_ACREC_OV_REC : Int)) &&
    (!m1 || decide ((s.liveGet LFT_ACTIME_REC_T : Int) * 500 ≤ s.k kBand))
  f (!s.flag GFL_STAT_TRACK_LOCK) 0 + f (!inBand) 1 +
    f (!armsCharged s (s.liveGet (if m1 then ENG_DONE_ENG_WDONE else ENG_DONE_ENG_WMIN))) 2 + f (!armsEven s) 3 +
    f (s.flag LFT_STAT_ACF || s.flag LFT_STAT_DCF) 4 + f (decide ((s.liveGet ENG_BS_VAC_DEAD : Int) ≤ vmfNow s)) 5 +
    f (decide (vdcNow s < (s.liveGet ENG_PRE_PRE_VDC_MIN : Int))) 6 + f (s.get ENG_STAT_STAGE != 5) 7

/-- The hot-deblock criteria hold. -/
def hotDeblock (s : Hw) : Bool := [0, 1, 2, 3, 4].all fun k => !bitOf (engCrit s) k

/-- The black-start voltage has reached V_set (R156, R159). -/
def bsAtSet (s : Hw) : Bool := decide (s.k kBsE = rampOut s.xram 3 * 65536)

/-- The completion criteria of method 1, apart from the stage. -/
def bsComplete (s : Hw) : Bool := bsAtSet s && [1, 2, 4].all fun k => !bitOf (engCrit s) k

/-- The sequence may pass to FORM (R159). -/
def engComplete (s : Hw) : Bool :=
  s.mode == mEnergize && s.get ENG_STAT_STAGE == 5 && (if s.flag ENG_STAT_METHOD then bsComplete s else hotDeblock s)

/-- The starting conditions of a method (R150). -/
def engMayStart (s : Hw) (method : Nat) : Bool :=
  !bitOf (engCrit s) 6 && (method == 0 || !bitOf (engCrit s) 5)

/-! ### Charge counts (R152 to R154) -/

/-- The charge count of an arm. -/
def chgFld (a : Nat) : Fld := if a % 2 = 0 then ENG_NCHGj_N_EVEN (a / 2) else ENG_NCHGj_N_ODD (a / 2)

/-- Every count at the arm's healthy count. -/
def chgStart (s : Hw) : Hw :=
  let s := s.each (List.range 6) fun a s => s.put (chgFld a) (armHealthy s a)
  let s := s.each (List.range 3) fun j s => s.setKs [(kDwell j, 0), (kTurn j, 0), (kRaise j, 0)]
  s.each (List.range 6) fun a s => s.setK (kIcutF a) 0

/-- The target counts of a leg, upper and lower (R152). -/
def chgTargets (s : Hw) : Nat × Nat :=
  let vdc := (kQty s s.le.frameX 6 - kQty s s.le.frameX 7).toNat
  let den := 16384 * s.liveGet GFL_SM_V_SM_NOM
  let nleg := if den = 0 then 0 else (vdc * s.liveGet GFL_BASE1_V_DC_BASE * 1000 + den - 1) / den
  ((nleg + 1) / 2, nleg - (nleg + 1) / 2)

/-- The charge pattern is in use (R152). -/
def Hw.charging (s : Hw) : Bool :=
  s.mode == mEnergize && ([2, 3].contains (s.get ENG_STAT_STAGE) || (s.get ENG_STAT_STAGE == 5 && !s.flag ENG_STAT_METHOD))

/-- One leg at a frame boundary of CHARGE: at most one slot goes to Bypass (R153). -/
def chgLeg (j : Nat) (s : Hw) : Hw :=
  let (tu, tl) := chgTargets s
  let u := s.get (chgFld (2 * j))
  let l := s.get (chgFld (2 * j + 1))
  let dwell := s.k (kDwell j) + 1
  if (s.liveGet ENG_PRE_PRE_DWELL : Int) ≤ dwell ∧ !bitOf (s.k kStepBar).toNat j ∧ (tu < u ∨ tl < l) then
    let upper := if s.k (kTurn j) = 0 then decide (tu < u) else !decide (tl < l)
    (if upper then s.put (chgFld (2 * j)) (u - 1) else s.put (chgFld (2 * j + 1)) (l - 1)).setKs
      [(kDwell j, 0), (kTurn j, if upper then 1 else 0)]
  else s.setK (kDwell j) dwell

/-- Counts never exceed the arm's healthy count (R162). -/
def chgClip (s : Hw) : Hw := s.each (List.range 6) fun a s => s.put (chgFld a) (min (s.get (chgFld a)) (armHealthy s a))

/-- Every arm is at its target count. -/
def chgDone (s : Hw) : Bool :=
  let (tu, tl) := chgTargets s
  (List.range 3).all fun j => decide (s.get (chgFld (2 * j)) ≤ tu) && decide (s.get (chgFld (2 * j + 1)) ≤ tl)

/-- Both counts of a leg are at their arms' healthy counts. -/
def legFull (s : Hw) (j : Nat) : Bool :=
  [2 * j, 2 * j + 1].all fun a => decide (armHealthy s a ≤ s.get (chgFld a))

/-- One tick of the charging current cut (R154), from the counts that LE11 has committed: an arm's third tick in a row above PRE_ICUT
makes its leg's counts rise from the next tick; at full counts the ticks above it are counted. -/
def chgCut (s : Hw) : Hw :=
  if !s.charging then s
  else s.each (List.range 3) fun j s =>
    let arms := [2 * j, 2 * j + 1]
    if legFull s j then s.each arms fun a s => s.setK (kIcutF a) (if s.k (kIcut a) = 0 then 0 else s.k (kIcutF a) + 1)
    else
      let s := s.each arms fun a s => s.setK (kIcutF a) 0
      if arms.any fun a => decide (3 ≤ s.k (kIcut a)) then (s.each arms fun a s => s.setK (kIcut a) 0).setK (kRaise j) 1 else s

/-- The rises of the tick that ended take effect, and the leg's dwell restarts (R154). -/
def chgRaise (s : Hw) : Hw :=
  let up := fun (a : Nat) (s : Hw) => s.put (chgFld a) (min (armHealthy s a) (s.get (chgFld a) + 1))
  (List.range 3).foldl (fun s j =>
    if s.k (kRaise j) = 0 then s
    else (if s.charging then up (2 * j) (up (2 * j + 1) s) else s).setKs [(kDwell j, -1), (kRaise j, 0)]) s

/-! ### Stages (R151) -/

/-- E that an LE5 run of the charging stages has not released yet is dropped: RAMP's own E stands in its place (R156). -/
def dropE (s : Hw) : Hw := s.onTask 5 0 fun t => { t with out := t.out.filter fun w => w.1 != outArea 5 }

/-- A stage begins at a frame boundary. -/
def engStage (n : Nat) (s : Hw) : Hw :=
  let s := (s.put ENG_STAT_STAGE n).put ENG_STAT_STAGE_MS 0
  let s := s.setKs [(kStageF, 0), (kSettle, 0)]
  if n = 2 then chgStart s else if n = 4 then dropE (s.setKs [(kBsE, 0), (kXi, 0)]) else s

/-- After CHECK or EQUALIZE: READY for method 0, RAMP for method 1. -/
def engAfterCharge (s : Hw) : Hw := engStage (if s.flag ENG_STAT_METHOD then 4 else 5) s

/-- The sequence at a frame boundary (R151 to R153, R156); a blocking sequence holds it (R162). -/
def engFrame (s : Hw) : Hw :=
  if s.mode ≠ mEnergize then s
  else
    let f := s.k kStageF + 1
    let s := (s.setK kStageF f).put ENG_STAT_STAGE_MS (min 65535 (f.toNat * 32 / 1000))
    let stage := match s.ops.blk with | .none => s.get ENG_STAT_STAGE | _ => 0
    let good := armsCharged s (s.liveGet ENG_DONE_ENG_WDONE) && armsEven s
    let s :=
      if stage = 1 then
        if f < 1 then s
        else if good then
          -- the charge pattern of method-0 READY starts at the healthy counts (R152)
          let s := s.put ENG_STAT_SKIPPED 1
          engAfterCharge (if s.flag ENG_STAT_METHOD then s else chgStart s)
        else engStage 2 s
      else if stage = 2 then
        let s := s.each (List.range 3) chgLeg
        let s := chgClip s
        if chgDone s then engStage 3 s else s
      else if stage = 3 then
        let n := countOn good (s.k kSettle)
        let s := chgClip (s.setK kSettle n)
        if (s.liveGet ENG_EQ_EQ_SETTLE : Int) * 10000 ≤ n * 32 then engAfterCharge s else s
      else if stage = 4 then if bsComplete s then engStage 5 s else s
      else if s.charging then chgClip s
      else s
    s.setK kStepBar 0

/-- The black-start ramp in one tick (R156): E as LE1 will read it. A blocking ramp scales the value that it found (R162). -/
def engTick (s : Hw) : Hw :=
  if !s.bsStage then s
  else
    let vset := rampOut s.xram 3
    let inc := roundDiv (vset * 65536 * 2) ((s.liveGet ENG_BS_BS_T : Int) * 10000)
    let e := if s.blkScale.isSome then s.k kBsE else if s.liveGet ENG_BS_BS_T = 0 then vset * 65536 else towards (s.k kBsE) (vset * 65536) inc
    let s := s.setKs [(kBsE, e), (kXi, 0)]
    s.setXr (outArea 5) (s.blkScaled (e / 65536))

/-! ### Failure (R157, R161) -/

/-- The reason for which the sequence fails in the tick in progress, 0 for none; of several, the lowest code. In RAMP an OV that fires
fails it; an ACF that stands from the charging stages, where it was ignored, does not (R157; log entry 145). -/
def engFailReason (s : Hw) : Nat :=
  if s.mode ≠ mEnergize then 0
  else
    let stage := s.get ENG_STAT_STAGE
    let m1 := s.flag ENG_STAT_METHOD
    let f := s.k kStageF
    let secs := fun (fl : Fld) => decide ((s.liveGet fl : Int) * 31250 < f)
    let ov := bitOf (s.k kFired).toNat 1
    let dcf := s.flag LFT_STAT_DCF
    let early := decide (stage ≤ 3) || (stage == 5 && !m1)
    let fails : List (Bool × Nat) :=
      [(stage == 2 && secs ENG_PRE_PRE_TMAX, 1), (stage == 3 && secs ENG_EQ_EQ_TMAX, 2),
       (dcf || (early && bitOf (engCrit s) 6), 3),
       ((stage == 4 && ov) || (stage == 5 && m1 && s.flag LFT_STAT_ACF), 4),
       (stage == 5 && secs ENG_BS_READY_MAX && !engComplete s, 5),
       (stage == 4 && decide ((s.liveGet ENG_BS_BS_T : Int) * 20000 < f * 32), 6),
       (s.charging && (List.range 6).any fun a => decide ((s.liveGet ENG_PRE_PRE_DWELL : Int) * 16 ≤ s.k (kIcutF a)), 7),
       (m1 && decide (stage ≤ 3) && bitOf (engCrit s) 5, 8), (s.k kEngBad == 1, 9)]
    match fails.find? (·.1) with
    | some p => p.2
    | none => 0

/-- The sequence fails (R161). -/
def engFail (s : Hw) : Hw :=
  let r := engFailReason s
  if r = 0 then s else ((s.put ENG_STAT_FAIL_REASON r).setK kEngBad 0).tripPulse cEnergizeFail

/-- A tick that a step of time begins: in RAMP and method-1 READY the sequence fails (Table ENG-3, code 9). -/
def engStep (s : Hw) : Hw := if s.bsStage then engFail (s.setK kEngBad 1) else s

/-- ENERGIZE is entered (R151, R161): `method` is the command's. -/
def engEnter (method : Nat) (s : Hw) : Hw :=
  let s := (((s.put ENG_STAT_STAGE 1).put ENG_STAT_METHOD method).put ENG_STAT_SKIPPED 0).put ENG_STAT_FAIL_REASON 0
  (s.put ENG_STAT_STAGE_MS 0).setKs [(kStageF, -1), (kSettle, 0), (kEngBad, 0), (kBand, 0), (kStepBar, 0)]

/-- ENERGIZE is left: STAGE reads 0 outside it except after a failure (Table ENG-12). -/
def engLeave (s : Hw) : Hw := if s.get ENG_STAT_FAIL_REASON = 0 then s.put ENG_STAT_STAGE 0 else s

/-- The criteria as they stand in the tick, and completion (R159, R160). -/
def engJudge (s : Hw) : Hw :=
  let s := s.put ENG_CRIT_CRIT (engCrit s)
  { s with ops := { s.ops with energizeDone := engComplete s } }

/-- The end of an LE11 run. -/
def engEnd (s : Hw) : Hw := engJudge (chgCut s)

/-- An event of LE11 after its run's end: flags that it changes are judged again in the tick (R159). -/
def engAgain (s t : Hw) : Hw :=
  if s.flag LFT_STAT_ACF = t.flag LFT_STAT_ACF ∧ s.flag LFT_STAT_DCF = t.flag LFT_STAT_DCF then t else engJudge t

end Sys2Proof.Machine
end

