-- ==== Sys2Proof/Machine/Tasks.lean ====
section
/-! DEFINITION. Task runs: of Keamen's kernel on LE0 to LE11, which the model computes, and of other tasks, whose program
the event brings (R86, R88, R89, R99, R103, R109). -/

namespace Sys2Proof.Machine

/-! ### Kernel tasks -/

/-- Table GFL-3: the task of kernel engine `n`. -/
def kernelDecl (n : Nat) : TaskDecl :=
  let tick := fun (a b w : Nat) (feeds : Bool) => (⟨1, a, b, feeds, w⟩ : TaskDecl)
  let frame := fun (w : Nat) => (⟨2, 0, 0, false, w⟩ : TaskDecl)
  if n = 0 then tick 110 134 88 false
  else if n = 1 then tick 134 162 104 false
  else if n ≤ 4 then tick 162 184 80 true
  else if n = 5 then frame 2000
  else if n = 6 then frame 1500
  else if n = 7 then frame 3000
  else if n ≤ 9 then frame 14000
  else if n = 10 then frame 2500
  else tick 110 184 280 true

/-- What the run of a kernel engine does. LE7 publishes no word; its constants are formed at its end. -/
def kernelRun (n : Nat) (s : Hw) : KRun :=
  if n = 0 then le0Run s
  else if n = 1 then le1Run s
  else if n ≤ 4 then phaseRun (n - 2) s
  else if n = 5 then le5Run s
  else if n = 6 then le6Run s
  else if n = 7 then {}
  else if n ≤ 9 then sumsRun n s
  else if n = 10 then le10Run s
  else le11Run s

/-- OUT_SAT of a phase: bits 2p and 2p + 1 set where its committed flags say so (R118). -/
def outSat (n : Nat) (s : Hw) : Hw :=
  let bits := ((s.taskOf n 0).out.find? fun w => w.1 == outArea n + 5).elim 0 (·.2)
  let s := if bitOf bits 0 then s.raiseBit GFL_STAT_OUT_SAT (2 * (n - 2)) else s
  if bitOf bits 1 then s.raiseBit GFL_STAT_OUT_SAT (2 * (n - 2) + 1) else s

/-- The run of engine `n` that ended has set a sticky condition: one that a frozen engine only keeps raises nothing. -/
def Hw.ranTrue (s : Hw) (n v : Nat) : Bool := (s.taskOf n 0).kernW.contains (v, 1)

/-- What the end of a kernel run does to the registers. -/
def kernelEnd (n : Nat) (s : Hw) : Hw :=
  if n = 0 then
    let s := if s.ranTrue 0 kWlim then s.raise GFL_STAT_W_LIM else s
    s.put GFL_STAT_ACT_SET (s.get (LEn_RSEL_ACTIVE_SET 0))
  else if n = 1 then
    let was := s.flag GFL_STAT_LIM_ACT
    let lim := s.k kLim == 1
    let s := (s.putb GFL_STAT_LIM_ACT lim).putb GFL_STAT_TRACK_LOCK (decide (16 ≤ s.k kLock))
    let s := if s.ranTrue 1 kResc then s.raise (LEn_STAT_RESC_SAT 1) else s
    if lim && !was then s.trgEvent 6 else s
  else if 2 ≤ n ∧ n ≤ 4 then outSat n s
  else if n = 5 then if s.ranTrue 5 kEsatHi ∨ s.ranTrue 5 kEsatLo then s.raise GFL_STAT_E_SAT else s
  else if n = 7 then
    let (c, rs) := le7Run s
    s.onLe fun cl => { cl with kpar := { cl.kpar with next := some c, ramps := rs } }
  else if n = 10 then if s.ranTrue 10 kFloor then s.raise GFL_STAT_IV_FLOOR else s
  else if n = 11 then engEnd (le11End s)
  else s

/-- What the deadline of a kernel task that ended adds: LE7's constants come into force, LE11's words are published. -/
def kernelDeadline (n : Nat) (s : Hw) : Hw :=
  if n = 7 then kernelRelease s else if n = 11 then lftPublish s else s

/-! ### Other tasks -/

/-- Keamen's scan task on LE22 (R354): |H|, its angle and 1 / |H| in the first three words of its output area, from the bin 0 records
G_UU and G_UY that were copied to `at_` last. DESIGN CHOICE (log entry 142): each is rounded to the nearest value and saturates to 16 bits, as in the worked example
of R354; where it has no value its word is a free one; with nothing copied yet the task publishes nothing. -/
def scanWrites (s : Hw) : List TaskWrite :=
  match s.le.scanAt with
  | none => []
  | some at_ =>
    let g := fun (i : Nat) => signed 96 (leNat ((List.range 6).flatMap fun j =>
      leBytes 2 (smapGet 0 (s.engOf 22).dmem (at_ / 2 + 6 * i + j))))
    let uu := g 0
    let re := g 1
    let im := g 2
    let mag2 := (re * re + im * im).toNat
    let h := if uu ≤ 0 then Config.divZero mag2 else sqrtRatio (16384 ^ 2 * mag2) (uu * uu).toNat
    let ang := if mag2 = 0 then Config.scanAngleZero.toNat else (atanTurn im re + 2 ^ 15) / 2 ^ 16 % 65536
    let scr := if mag2 = 0 then Config.divZero uu else sqrtRatio (256 ^ 2 * (uu * uu).toNat) mag2
    let o := 2 * outArea 22
    [.exch o (unsigned 16 (satInt 16 h)), .exch (o + 2) ang, .exch (o + 4) (unsigned 16 (satInt 16 scr))]

/-- The runs of a task other than the kernel's: Keamen's scan task computes its own words, any other does what its program says. -/
def Hw.runOf (s : Hw) (n m : Nat) (run : TaskRun) : TaskRun :=
  if n = 22 ∧ ((generatorDecls s.fwVersion 22)[m]?.any fun d => d.rate != 1) then { run with writes := scanWrites s } else run

/-- Entries of a commit buffer (R88). -/
def bufEntries : Nat := 256

/-- A write goes through the commit buffer: to state memory, or to the engine's own output area. -/
def writeBuffered (n : Nat) : TaskWrite → Bool
  | .data a _ | .sts a _ | .stl a _ => decide (0x4000 ≤ a) && decide (a < 0x8000)
  | .exch a _ => decide (2 * outArea n ≤ a) && decide (a < 2 * outArea n + 0x4000)
  | .acc _ _ => false

/-- An Exchange RAM write outside the engine's output area. -/
def writeStray (n : Nat) : TaskWrite → Bool
  | .exch a w => !writeBuffered n (.exch a w)
  | _ => false

/-- A word of data memory as a run of task `m` of engine `n` on engine `e` writes it: scratch at once, state into the run's buffer. -/
def dataWrite (e n m a v : Nat) (s : Hw) : Hw :=
  if a < 0x4000 then s.onEng e fun x => { x with scratch := smapSet none x.scratch (a / 2) (some (v % 65536)) }
  else if a < 0x8000 then s.onTask n m fun t => { t with stateW := t.stateW ++ [(a / 2, v % 65536)] }
  else s

/-- The 16-bit store of an accumulator: Q10.30 to Q1.15, rounding half up, saturating (R81). -/
def store16 (a : Int) : Int := satInt 16 ((a + 2 ^ 14) / 2 ^ 15)

/-- The 32-bit store: Q2.30, saturating (R81). -/
def store32 (a : Int) : Int := satInt 32 a

/-- One step of a run: scratch at once, state and outputs into the run's buffer, others nowhere (R80, R84, R88). An accumulator's result
saturates at Q10.30 and then sets AOV, a saturating store sets no flag (R81); each rate class has its own accumulators. -/
def taskWrite (e n m : Nat) (w : TaskWrite) (s : Hw) : Hw :=
  let bank := 4 * (s.taskOf n m).decl.elim 0 (·.rate)
  let acc := fun (k : Nat) => smapGet 0 (s.engOf e).acc (bank + k % 4)
  match w with
  | .data a v => dataWrite e n m a v s
  | .exch a v =>
    if writeBuffered n w then s.onTask n m fun t => { t with out := t.out ++ [(a / 2, v % 65536)] } else s
  | .acc k v =>
    let s := s.onEng e fun x => { x with acc := smapSet 0 x.acc (bank + k % 4) (satInt 40 v) }
    if satInt 40 v = v then s else s.raise (LEn_STAT_AOV e)
  | .sts a k => dataWrite e n m a (unsigned 16 (store16 (acc k))) s
  | .stl a k =>
    let v := unsigned 32 (store32 (acc k))
    dataWrite e n m (a + 2) (v / 65536) (dataWrite e n m a v s)

/-- A run of task `m` of engine `n`, not the kernel's, on engine `e`. -/
def customRun (e n m : Nat) (run : TaskRun) (s : Hw) : Hw :=
  let isOver := decide (bufEntries < (run.writes.filter (writeBuffered n)).length)
  let s := if run.badLoad then s.raise (LEn_STAT_XRD_ERR e) else s
  let s := if run.writes.any (writeStray n) then s.raise (LEn_STAT_XWR_ERR e) else s
  let s := if run.tripReq && decide (12 ≤ n) && decide (n ≤ 19) then s.tripPulse cCustomer else s
  if isOver then (s.raise (LEn_STAT_WBUF_OVF e)).onTask n m fun t => { t with lost := true }
  else run.writes.foldl (fun s w => taskWrite e n m w s) s

/-! ### Starts and ends -/

/-- A run of task `m` of engine `n` may begin on engine `e`: it is due, the engine runs, and no task bars it. -/
def Hw.mayStart (s : Hw) (e n m : Nat) : Bool :=
  let t := s.taskOf n m
  t.decl.isSome && t.due && !t.isOver && !t.started && s.flag (LEn_STAT_LOADED e) && !s.flag (LEn_STAT_HALTED e) && s.hasEngine n m

/-- TASK_START: a run that is due begins, a TICK task's no earlier than its START offset (R86); the injection checks of R97 run first. -/
def taskStart (e n m : Nat) (run : TaskRun) (s : Hw) : Hw :=
  if !s.mayStart e n m then s
  else
    let s := match (s.taskOf n m).decl with
      | some d => if d.rate = 1 then s.atCyc (max s.time.cyc d.start) else s
      | none => s
    let s := injCheck n (s.onTask n m fun t => { t with started := true })
    if n < 12 ∧ m = 0 then
      let r := kernelRun n s
      s.onTask n m fun t => { t with kernW := r.vars, out := r.words }
    else customRun e n m (s.runOf n m run) s

/-- TASK_END, with what a kernel run's end does. -/
def taskEnds (e n m : Nat) (differs : Bool) (s : Hw) : Hw :=
  let was := (s.taskOf n m).ended
  let s := taskEnd e n m differs s
  if !was && (s.taskOf n m).ended && decide (n < 12) && m == 0 then kernelEnd n s else s

/-- TASK_DEADLINE, with what a kernel deadline adds. -/
def taskDue (e n m : Nat) (shadowMiss : Bool) (s : Hw) : Hw :=
  let t := s.taskOf n m
  let rate1 := match t.decl with | some d => d.rate == 1 | none => false
  let go := t.decl.isSome && (if rate1 then t.due else t.isOver) && t.ended
  let s := taskDeadline e n m shadowMiss s
  if go && decide (n < 12) && m == 0 then kernelDeadline n s else s

/-! ### Boundaries and mode changes of the kernel -/

/-- The words of Table GFL-4, then those of Table LFT-6, as Exchange RAM word addresses. -/
def gflWordAddrs : List Nat :=
  let at_ := fun (n byte words : Nat) => (List.range words).map fun i => outArea n + byte / 2 + i
  at_ 0 0 11 ++ at_ 1 0 10 ++ at_ 2 0 6 ++ at_ 3 0 6 ++ at_ 4 0 6 ++ at_ 5 0 2 ++ at_ 6 0 2 ++ at_ 8 0 12 ++ at_ 9 0 12 ++
    at_ 10 0 8
def lftWordAddrs : List Nat :=
  let at_ := fun (n byte words : Nat) => (List.range words).map fun i => outArea n + byte / 2 + i
  at_ 1 0x14 2 ++ at_ 10 0x10 1 ++ at_ 11 0 10

/-- θ_nom set from Almanac (R112): at the first tick after it has been set, after a TICK_STEP, on entry to BLOCKED from
COMMISSION. -/
def nomReset (s : Hw) : Hw :=
  let (a, b) := nomSet (s.liveGet GFL_BASE1_FNOM) s.time.sec s.time.ns
  s.setKs [(kNidx, (a : Int)), (kNrem, (b : Int))]

/-- Every kernel state but θ_nom cleared (R128); STAGE and FAIL_REASON keep their values (R161). -/
def kernelClear (s : Hw) : Hw :=
  let keep := s.le.kern.filter fun r => r.1 == kNidx || r.1 == kNrem
  let rs := s.le.kpar.ramps
  let tgt := fun i => (rs.getD i {}).target
  let at_ := fun (f : KConst) => { f with gr := tgt 0, gq := tgt 1, g1 := tgt 2, g2 := tgt 3 }
  let s := s.onLe fun c => { c with
    kern := keep
    entries := []
    kpar := { force := at_ c.kpar.force, next := c.kpar.next.map at_
              ramps := rs.map fun r => { old := r.target, target := r.target, step := 16 } } }
  let s := ((s.put ENG_STAT_METHOD 0).put ENG_STAT_SKIPPED 0).put ENG_STAT_STAGE_MS 0
  let s := s.each (List.range 6) fun a s => s.put (chgFld a) 0
  (s.put GFL_STAT_RAMPING 0).put GFL_STAT_TRACK_LOCK 0

/-- The FRAME runs of LE5, LE6 and LE10 in progress commit none of x_i, x_dc and x_T: what a mode's first tick sets stands (R126, R128). -/
def keepInit (s : Hw) : Hw :=
  s.each [5, 6, 10] fun n s => s.onTask n 0 fun t => { t with kernW := t.kernW.filter fun w => !([kXi, kXdc, kXt].contains w.1) }

/-- Runs of LE5 and LE6 that TRIPPED finds begun or not released commit and publish nothing: their states and words keep the values of
the last tick before it; LE10 forms sums only (R126). -/
def freezeRuns (s : Hw) : Hw := keepInit (s.each [5, 6] fun n s => s.onTask n 0 fun t => { t with kernW := [], out := [] })

/-- The kernel in the first tick of a mode (R126 to R128). -/
def kernelMode (old new : Nat) (s : Hw) : Hw :=
  let s := lftMode old new s
  let s :=
    if new = mForm ∧ (old = mBlocked ∨ old = mEnergize) then
      (keepInit s).setKs ([(kWf, s.k kW), (kXi, (kOut s.xram 5 0 - kOut s.xram 5 2) * 65536), (kInit, 1), (kXt, 0), (kXdc, 0)] ++
        (List.range 3).flatMap fun p => [(kXc p, 0), (kRc p, 0), (kRs p, 0)])
    else if new = mBlocked ∧ (old = mTripped ∨ old = mCommission) then
      let s := kernelClear (keepInit s)
      if old = mCommission then nomReset s else s
    else if new = mTripped then freezeRuns s
    else s
  let s := if old = mEnergize ∧ new ≠ mEnergize then engLeave s else s
  ((s.putb GFL_STAT_RUN s.switching).putb GFL_STAT_TRACK (decide (new = mBlocked))).putb GFL_STAT_TRACK_LOCK
    (s.flag GFL_STAT_TRACK_LOCK && s.kTracks)

/-- The kernel at a tick boundary, after the tick's mode has taken effect: `step` says that a step of time began the tick,
`set` that Almanac has been set. -/
def kernelTick (step set : Bool) (s : Hw) : Hw :=
  let s := s.onLe fun c => { c with words := (gflWordAddrs ++ lftWordAddrs).map fun a => smapGet 0 s.xram a }
  let s := if step || set then nomReset s else s
  let s := chgRaise (lftTick s)
  let s := if s.frameStart then engFrame s else s
  let s := engTick s
  if step then engStep s else s

/-! ### Events -/

/-- An event of a task on engine `e`, for the engine whose tasks it runs; one that runs none has no such event (R100). -/
def onRunner (e m : Nat) (f : Nat → Hw → Hw) (s : Hw) : Hw :=
  match s.runsOf e with
  | some n => if e < 24 ∧ m < 8 then f n s else s
  | none => s

/-- TASK_START; `run` is what a run that is not the kernel's does. -/
def execTaskStart (engine task : Nat) (run : TaskRun) (s : State) : Host.Outcome State Fault Refusal :=
  .next (s.onHw (onTick fun s => onRunner engine task (fun n => taskStart engine n task run) s))

/-- TASK_END. -/
def execTaskEnd (engine task : Nat) (differs : Bool) (s : State) : Host.Outcome State Fault Refusal :=
  .next (s.onHw (onCore fun s => onRunner engine task (fun n => taskEnds engine n task differs) s))

/-- TASK_DEADLINE. -/
def execTaskDeadline (engine task : Nat) (shadowMiss : Bool) (s : State) : Host.Outcome State Fault Refusal :=
  .next (s.onHw (onTick fun s => onRunner engine task (fun n => taskDue engine n task shadowMiss) s))

/-- DETECTOR_COUNT. -/
def execDetectorCount (det : Nat) (s : State) : Host.Outcome State Fault Refusal := .next (s.onHw (onRun fun s => engAgain s (detectorCount det s)))

/-- AC_RECOVERY. -/
def execAcRecovery (s : State) : Host.Outcome State Fault Refusal := .next (s.onHw (onRun fun s => engAgain s (acRecovery s)))

/-- DC_STAGE_TIMER. -/
def execDcStageTimer (s : State) : Host.Outcome State Fault Refusal := .next (s.onHw (onRun fun s => engAgain s (dcStageTimer s)))

/-- DCF_NOCLR. -/
def execDcfNoclr (s : State) : Host.Outcome State Fault Refusal := .next (s.onHw (onRun dcfNoclr))

/-- ENERGIZE_FAIL. -/
def execEnergizeFail (s : State) : Host.Outcome State Fault Refusal := .next (s.onHw (onRun engFail))

/-! ### Parameter writes (R108, R122, R123, R149) -/

/-- A field outside the range its table states. -/
def fldBad (w : Wr) (f : Fld) (lo hi : Nat) : Bool := decide (w.addr = f.addr) && outside lo hi (w.val f)

/-- The ranges of Tables GFL-10 to GFL-23. -/
def gflRangeBad (w : Wr) : Bool :=
  let b := fldBad w
  b GFL_BASE0_V_BASE 1 65535 || b GFL_BASE0_S_BASE 1 65535 || b GFL_BASE1_V_DC_BASE 1 65535 || b GFL_VSM_D 0 2000 ||
  b GFL_VSM_H 20 2000 || b GFL_DROOP_NQ 0 1000 || b GFL_DROOP_RF 100 2000 || b GFL_FILT_T_V 1 255 || b GFL_FILT_T_D 1 255 ||
  b GFL_FILT_T_Q 1 255 || b GFL_FILT_T_P 1 255 || b GFL_ZV_X_V 0x333 0x4000 || b GFL_ZV_R_V 0 0x2000 ||
  b GFL_CTRL_BW_CIRC 50 1000 || b GFL_CTRL_BW_AC 100 2000 || b GFL_LIND_L_ARM 0x148 0x1333 || b GFL_LIND_L_AC 0x333 0x2000 ||
  b GFL_ENERGY_DC_TI 1 255 || b GFL_ENERGY_BW_WV 1 50 || b GFL_ENERGY_BW_WH 1 50 || b GFL_ENERGY_BW_WT 1 50 ||
  b GFL_DCCTL_KDC 0x800 0x7FFF || b GFL_DCCTL_P_DC_LIM 0 0x4000 || b GFL_SM_V_SM_NOM 100 45000 || b GFL_SM_N_NOM 1 768 ||
  b GFL_CSM_C_SM 1 65535 || b GFL_LIMS_FREQ_LIM 0xA4 0x666 || b GFL_LIMS_AUX_LIM 0 0x4000

/-- GFL_MAPq. -/
def isMap (a : Nat) : Bool := decide (GFL_MAPq 0 ≤ a) && decide (a ≤ GFL_MAPq 13)

/-- Registers that R123 lets be written in COMMISSION only. -/
def gflCommissionOnly (a : Nat) : Bool :=
  [GFL_BASE0, GFL_BASE1, GFL_SM, GFL_CSM].contains a || isMap a

/-- Two entries with a non-zero SCALE name one channel (R108). -/
def mapConflict (t : Hw) : Bool :=
  let chs := ((List.range 14).filter fun q => t.get (GFL_MAPq_SCALE q) != 0).map fun q => t.get (GFL_MAPq_CH q)
  decide (chs.eraseDups.length < chs.length)

/-- Installed slots of an arm: those of type HB or FB. -/
def installed (s : Hw) (a : Nat) : Nat :=
  (s.regs.filter fun r => decide (VSQ_SLOTa_j a 0 ≤ r.1) && decide (r.1 ≤ VSQ_SLOTa_j a 767) && (VSQ_SLOTa_j_TYPE a 0).of r.2 != 0).length

/-- An arm meets the three conditions of R181. -/
def armMeets (s : Hw) (a : Nat) : Bool :=
  let n := installed s a
  let red := s.get (VSQ_ARMa_CFG_N_RED a)
  decide (1 ≤ n) && decide (red ≤ min 64 (n - 1)) && decide (s.get GFL_SM_N_NOM + red ≤ n)

/-- A write from `s` to `t` would make an arm that met R181 break it. -/
def armBreaks (s t : Hw) : Bool := (List.range 6).any fun a => armMeets s a && !armMeets t a

/-- A write to a GFL register. -/
def gflWrite (s : Hw) (w : Wr) : Judged :=
  let t := s.writeAs w
  let misfit := (kFits (kConst t.reg t.kFactor)).any fun c => !c.1 && c.2.any fun f => w.touches f
  judge [(gflCommissionOnly w.addr && s.mode != mCommission, .modeNotAllowed), (gflRangeBad w || misfit, .range),
         (w.addr == GFL_SM && armBreaks s t, .range), (isMap w.addr && mapConflict t, .mapConflict)] t

/-- The ranges of Tables LFT-9 to LFT-24. -/
def lftRangeBad (w : Wr) : Bool :=
  let b := fldBad w
  b LFT_IMAX_IMAX 0x2000 0x5333 || b LFT_IMAX_IVI 0x2000 0x5333 || b LFT_PRIO_TZ_DN 1 255 || b LFT_PRIO_TZ_UP 1 255 ||
  b LFT_PRIO_RT_ANG 0 1 || b LFT_PRIO_RC_MODE 0 1 || b LFT_PRIO_PRIO_RT 0 2 || b LFT_PRIO_PRIO_FORM 0 2 ||
  b LFT_RC_K_RC 0 0x6000 || b LFT_RC_DB 0 0xCCD || b LFT_ACDET_UV_THR 0x2000 0x3CCD || b LFT_ACDET_OV_THR 0x4333 0x5333 ||
  b LFT_ACTIME_REC_T 1 255 || b LFT_ACTIME_UV_N 1 255 || b LFT_ACTIME_OV_N 1 65535 || b LFT_OC_OC_N 1 65535 ||
  b LFT_OC_I_ARM_MAX 0x4000 0x7FFF || b LFT_DCDET_DCUV_THR 0xCCD 0x3333 || b LFT_DCDET_DCOC_THR 0x4000 0x7FFF ||
  b LFT_DCDET2_DCPE_THR 0x666 0x4000 || b LFT_DCDET2_DCUV_N 1 255 || b LFT_DCDET2_DCOC_N 1 15 || b LFT_DCDET2_ARM_N 1 15 ||
  b LFT_DCF_DCF_TCLR 1 255 || b LFT_DCF_DCF_FBMIN 0 0x7FFF || b LFT_DCF2_DCF_DEION 1 255 || b LFT_DCF2_DCF_VRAMP 1 255 ||
  b LFT_DCF2_DCF_ICLR 0xA4 0xCCD || b LFT_DCREC_DCREC_T 1 255 || b LFT_REC_PREC_RATE 1 10000 || b LFT_REC_DCF_PLIM 0 0x4000 ||
  b LFT_REPEAT_RT_REP_WIN 1 60 || b LFT_REPEAT_RT_REP_N 1 15 || b LFT_REPEAT_DCOV_TRIP 0x4666 0x7FFF ||
  b LFT_CHOP2_CHOP_K 0x100 0x7FFF || b LFT_CHOP2_CH_AVG 1 100 || b LFT_CHOP2_CH_TAU 1 255

/-- The orderings of R149. -/
def threshOrder (t : Hw) : Bool :=
  decide (t.get LFT_ACDET_UV_THR < t.get LFT_ACREC_UV_REC) && decide (t.get LFT_ACREC_UV_REC < t.get LFT_ACREC_OV_REC) &&
    decide (t.get LFT_ACREC_OV_REC < t.get LFT_ACDET_OV_THR) && decide (t.get LFT_DCDET_DCUV_THR < t.get LFT_DCREC_DCREC_LO) &&
    decide (t.get LFT_CHOP_CHOP_OFF < t.get LFT_CHOP_CHOP_ON) && decide (t.get LFT_CHOP_CHOP_ON < t.get LFT_REPEAT_DCOV_TRIP) &&
    decide (t.get LFT_IMAX_IVI ≤ t.get LFT_IMAX_IMAX)

/-- A write to an LFT register. -/
def lftWrite (s : Hw) (w : Wr) : Judged :=
  let t := s.writeAs w
  if w.addr = LFT_STAT then .ok t
  else judge [(s.mode == mRide, .modeNotAllowed), (lftRangeBad w, .range), (!threshOrder t, .threshOrder)] t

/-- The ranges of Tables ENG-7 to ENG-11. -/
def engRangeBad (w : Wr) : Bool :=
  let b := fldBad w
  b ENG_PRE_PRE_DWELL 1 255 || b ENG_PRE_PRE_TMAX 1 255 || b ENG_PRE_PRE_VDC_MIN 0xCCD 0x4CCD || b ENG_PREI_PRE_ICUT 0xA4 0x2000 ||
  b ENG_PREI_PRE_ISTEP 0x21 0x2000 || b ENG_EQ_EQ_TMAX 1 255 || b ENG_EQ_EQ_SETTLE 1 255 || b ENG_EQ_SPREAD_TOL 1 50 ||
  b ENG_DONE_ENG_WMIN 0x2000 0x4666 || b ENG_DONE_ENG_WDONE 0x2000 0x4666 || b ENG_BS_BS_T 10 255 || b ENG_BS_READY_MAX 1 255 ||
  b ENG_BS_VAC_DEAD 0x148 0xCCD

/-- A write to an ENG register. -/
def engWrite (s : Hw) (w : Wr) : Judged :=
  let t := s.writeAs w
  judge [(!s.cfgMode, .modeNotAllowed), (engRangeBad w, .range),
         (decide (t.get ENG_PREI_PRE_ICUT < t.get ENG_PREI_PRE_ISTEP) || decide (t.get ENG_DONE_ENG_WDONE < t.get ENG_DONE_ENG_WMIN),
          .threshOrder)] t

/-- A parameter register at offset `o` of the System window, in the span of an opcode, that can be written. -/
def paramAddr (lo hi o : Nat) : Option Nat :=
  let a := 0x20060000 + o
  if lo ≤ a ∧ a ≤ hi ∧ o % 4 = 0 ∧ writableBits a ≠ 0 ∧ a ≠ GFL_STAT then some a else none

/-- The common course of GFL_, LFT_ and ENG_PARAM_SET: the mode comes before the range (R448). `k` is what the reply waits for. -/
def paramSet (s : Hw) (modeBad : Bool) (lo hi offset value : Nat) (k : Option WaitKind) (write : Hw → Wr → Judged) : Done :=
  match paramAddr lo hi offset with
  | none => refuse s (if modeBad then .modeNotAllowed else .range)
  | some a =>
    match write s (s.wr a value) with
    | .error st => refuse s st
    | .ok t => { change t (regChgs s t [a]) with wait := k }

/-- The common course of the _PARAM_GET opcodes. -/
def paramGet (s : Hw) (lo hi offset : Nat) : Done :=
  match paramAddr lo hi offset with
  | none => refuse s .range
  | some a => answer s (leBytes 4 (s.reg a).toNat ++ leBytes 4 (s.liveReg a).toNat)

/-! ### Commands (Tables GFL-8, LFT-7, ENG-5) -/

/-- 0x0520 GFL_PARAM_SET. -/
def execGflParamSet (h : Hdr) (offset value : Nat) (s : State) : Host.Outcome State Fault Refusal :=
  .next (s.onHw (hostCmd (Op.plain 0x0520 .engineer) (.gflParamSet h offset value) h fun s =>
    paramSet s false GFL_BASE0 (GFL_MAPq 13) offset value (some .param) gflWrite))

/-- 0x0521 GFL_PARAM_GET. -/
def execGflParamGet (h : Hdr) (offset : Nat) (s : State) : Host.Outcome State Fault Refusal :=
  .next (s.onHw (hostCmd (Op.plain 0x0521 .viewer) (.gflParamGet h offset) h fun s =>
    paramGet s GFL_BASE0 (GFL_MAPq 13) offset))

/-- Words as result bytes. -/
def wordBytes (ws : List Nat) : List Byte := ws.flatMap (leBytes 2)

/-- 0x0522 GFL_STATUS_GET: GFL_STAT and the words of Table GFL-4. -/
def execGflStatusGet (h : Hdr) (s : State) : Host.Outcome State Fault Refusal :=
  .next (s.onHw (hostCmd (Op.plain 0x0522 .viewer) (.gflStatusGet h) h fun s =>
    answer s (regBytes s [GFL_STAT] ++ wordBytes (s.le.words.take gflWordAddrs.length))))

/-- 0x0530 LFT_PARAM_SET. -/
def execLftParamSet (h : Hdr) (offset value : Nat) (s : State) : Host.Outcome State Fault Refusal :=
  .next (s.onHw (hostCmd (Op.plain 0x0530 .engineer) (.lftParamSet h offset value) h fun s =>
    paramSet s (s.mode == mRide) LFT_IMAX LFT_CHOP2 offset value (some .param) lftWrite))

/-- 0x0531 LFT_PARAM_GET. -/
def execLftParamGet (h : Hdr) (offset : Nat) (s : State) : Host.Outcome State Fault Refusal :=
  .next (s.onHw (hostCmd (Op.plain 0x0531 .viewer) (.lftParamGet h offset) h fun s => paramGet s LFT_IMAX LFT_CHOP2 offset))

/-- 0x0532 LFT_STATUS_GET: the status registers and the words of Table LFT-6. -/
def execLftStatusGet (h : Hdr) (s : State) : Host.Outcome State Fault Refusal :=
  .next (s.onHw (hostCmd (Op.plain 0x0532 .viewer) (.lftStatusGet h) h fun s =>
    answer s (regBytes s [LFT_STAT, LFT_KCAUSE, LFT_LAST0, LFT_LAST1] ++ wordBytes (s.le.words.drop gflWordAddrs.length))))

/-- 0x0540 ENG_PARAM_SET. -/
def execEngParamSet (h : Hdr) (offset value : Nat) (s : State) : Host.Outcome State Fault Refusal :=
  .next (s.onHw (hostCmd (Op.plain 0x0540 .engineer) (.engParamSet h offset value) h fun s =>
    paramSet s (!s.cfgMode) ENG_PRE ENG_BS offset value none engWrite))

/-- 0x0541 ENG_PARAM_GET. -/
def execEngParamGet (h : Hdr) (offset : Nat) (s : State) : Host.Outcome State Fault Refusal :=
  .next (s.onHw (hostCmd (Op.plain 0x0541 .viewer) (.engParamGet h offset) h fun s => paramGet s ENG_PRE ENG_BS offset))

/-- 0x0542 ENG_STATUS_GET. -/
def execEngStatusGet (h : Hdr) (s : State) : Host.Outcome State Fault Refusal :=
  .next (s.onHw (hostCmd (Op.plain 0x0542 .viewer) (.engStatusGet h) h fun s =>
    answer s (regBytes s [ENG_STAT, ENG_CRIT, ENG_NCHGj 0, ENG_NCHGj 1, ENG_NCHGj 2])))

end Sys2Proof.Machine
end

