-- ==== Sys2Proof/Machine/Sequencer.lean ====
section
/-! DEFINITION. The Valve Sequencer and the Thresher (10_valve_sequencer.md, R180 to R202). -/

namespace Sys2Proof.Machine

/-! ### Slots and arms -/

/-- An arm, and a change of it. -/
def Hw.armOf (s : Hw) (a : Nat) : ArmSt := smapGet {} s.vsq.arms a
def Hw.onArm (s : Hw) (a : Nat) (f : ArmSt → ArmSt) : Hw :=
  { s with vsq := { s.vsq with arms := smapSet {} s.vsq.arms a (f (s.armOf a)) } }

/-- A field of a slot register's word. -/
def slotType (w : Word) : Nat := (VSQ_SLOTa_j_TYPE 0 0).of w
def slotExcl (w : Word) : Bool := (VSQ_SLOTa_j_EXCL 0 0).of w == 1
def slotState (w : Word) : Nat := (VSQ_SLOTa_j_STATE 0 0).of w

/-- The slot command codes of R182. -/
def cmdBypass : Nat := 0
def cmdPos : Nat := 1
def cmdNeg : Nat := 2
def cmdBlock : Nat := 3

/-- A slot register's word with the TYPE in force: one written in the tick in progress acts from the next tick (R17), and so does the
end of an exclusion that comes with it. -/
def Hw.inForce (s : Hw) (a j : Nat) (w : Word) : Word :=
  match s.vsq.retyped.find? fun r => r.1 == (a, j) with
  | some r => (VSQ_SLOTa_j_TYPE a j).into (if slotExcl r.2 then (VSQ_SLOTa_j_EXCL a j).into w 1 else w) (slotType r.2)
  | none => w

/-- The listed slot registers of an arm, by slot number, with the TYPE in force: every installed slot is among them. -/
def Hw.slotWords (s : Hw) (a : Nat) : List (Nat × Word) :=
  s.regs.filterMap fun r =>
    let j := (r.1 - VSQ_SLOTa_j a 0) / 4
    if VSQ_SLOTa_j a 0 ≤ r.1 ∧ r.1 ≤ VSQ_SLOTa_j a 767 then some (j, s.inForce a j r.2) else none

/-- The installed slots of an arm. -/
def Hw.installedWords (s : Hw) (a : Nat) : List (Nat × Word) := (s.slotWords a).filter fun p => slotType p.2 != 0

/-- The listed slot registers of an arm with each word changed. -/
def Hw.mapSlots (s : Hw) (a : Nat) (f : Nat → Word → Word) : Hw :=
  { s with regs := s.regs.map fun r =>
      if VSQ_SLOTa_j a 0 ≤ r.1 ∧ r.1 ≤ VSQ_SLOTa_j a 767 then (r.1, f ((r.1 - VSQ_SLOTa_j a 0) / 4) r.2) else r }

/-- Excluded installed slots of an arm (R198). -/
def Hw.excluded (s : Hw) (a : Nat) : Nat := ((s.installedWords a).filter fun p => slotExcl p.2).length

/-- The fields of a slot report (Table SHF-7). -/
def repVcap (r : Nat) : Nat := r / 2 ^ 32 % 65536
def repFcode (r : Nat) : Nat := r / 2 ^ 8 % 16
def repSeq (r : Nat) : Nat := r % 256

/-- The arm voltage of a slot in its arm set, in 0.1 V. -/
def ArmSt.volt (x : ArmSt) (j : Nat) : Nat := repVcap (smapGet 0 x.set j)

/-! ### Exclusion (R196) -/

/-- Slot `j` of arm `a` is excluded for cause `c`. A host's exclusion has its command's own log entry. -/
def exclude (a j c : Nat) (s : Hw) : Hw :=
  let s := ((s.put (VSQ_SLOTa_j_EXCL a j) 1).put (VSQ_SLOTa_j_EXCL_CAUSE a j) c).raise (VSQ_ARMa_FLAGS_EXCL_NEW a)
  if c = 2 then s else s.logInternal 0xF2000022 (a * 2 ^ 16 + j) c

/-- A written TYPE comes into force in place of `old` (R181, R186, R196). An EMPTY slot loses its exclusion and is commanded Block
from now on. -/
def retype (a j old : Nat) (s : Hw) : Hw :=
  let w := s.reg (VSQ_SLOTa_j a j)
  let ty := slotType w
  if ty = old then s
  else
    let s := s.onArm a fun x => { x with ord := [], stall := if old = 0 ∨ ty = 0 then smapErase x.stall j else x.stall }
    if ty ≠ 0 then s
    else
      let v := (VSQ_SLOTa_j_FRAC a j).into ((VSQ_SLOTa_j_EXCL_CAUSE a j).into ((VSQ_SLOTa_j_EXCL a j).into w 0) 0) 0
      if slotState v = cmdBlock then s.setReg (VSQ_SLOTa_j a j) v
      else
        let s := s.setReg (VSQ_SLOTa_j a j) ((VSQ_SLOTa_j_DWELL_CNT a j).into ((VSQ_SLOTa_j_STATE a j).into v cmdBlock) 0)
        { s with vsq := { s.vsq with rejoin := (a, j) :: s.vsq.rejoin } }

/-- N_RED comes into force with the tick after its write, beside the settings that wait for a frame boundary (R17, R200). -/
def redLatch (s : Hw) : Hw :=
  s.each (List.range 6) fun a s =>
    s.setLive (VSQ_ARMa_CFG a) ((VSQ_ARMa_CFG_N_RED a).into (s.liveReg (VSQ_ARMa_CFG a)) (s.get (VSQ_ARMa_CFG_N_RED a)))

/-- What the host asked for the tick that begins (R17, R199); the counts of the tick that ends (Table VSQ-8). -/
def vsqBoundary (s : Hw) : Hw :=
  let ts := s.vsq.retyped
  let s := redLatch (ts.foldl (fun s r => retype r.1.1 r.1.2 (slotType r.2) s) { s with vsq := { s.vsq with retyped := [], rejoin := [] } })
  let s := s.each (s.vsq.arms.map (·.1)) fun a s => s.puti (VSQ_ARMa_STAT_N a) (s.armOf a).n
  let s := s.vsq.excl.foldl (fun s p =>
    if s.flag (VSQ_SLOTa_j_EXCL p.1 p.2) ∨ s.get (VSQ_SLOTa_j_TYPE p.1 p.2) = 0 then s else exclude p.1 p.2 2 s) s
  let s := s.vsq.back.foldl (fun s p => (s.put (VSQ_SLOTa_j_EXCL p.1 p.2) 0).put (VSQ_SLOTa_j_EXCL_CAUSE p.1 p.2) 0) s
  { s with vsq := { s.vsq with excl := [], back := [], rejoin := s.vsq.rejoin ++ s.vsq.back, subSet := s.vsq.subIn, subIn := 0 } }

/-- Settings come into force at a frame boundary (R200). -/
def vsqFrame (s : Hw) : Hw := s.latch ((List.range 6).flatMap fun a => [VSQ_ARMa_CFG a, VSQ_ARMa_CFG2 a])

/-- A time step (R200): frames before it are not combined with frames after it, those that still arrive (`LaneSt.oldNum`) included. -/
def vsqStep (s : Hw) : Hw :=
  { s with vsq := { s.vsq with kept := [], stepAt := s.ticks, arms := s.vsq.arms.map fun p => (p.1, { p.2 with setTick := none }) } }

/-! ### The arm set (R184, R185) -/

/-- The last 8 frames of a lane that arrived before the tick in progress. -/
def Hw.keptOf (s : Hw) (lane : Nat) : List Kept :=
  ((smapGet [] s.vsq.kept lane).filter fun k => decide (k.arrived < s.time.ticks)).take 8

/-- Age in ticks of tick number `m` (R11 numbering). -/
def Hw.ageOf (s : Hw) (m : Nat) : Nat := (s.time.tickNo + 2 ^ 32 - m % 2 ^ 32) % 2 ^ 32

/-- The frames of the newest tick that every one of an arm's used lanes has delivered. -/
def Hw.commonSet (s : Hw) (lanes : List Nat) : Option (Nat × List (Nat × Kept)) :=
  match lanes with
  | [] => none
  | l :: _ =>
    let ms := (s.keptOf l).map (·.tick)
    let ms := ms.filter fun m => lanes.all fun l => (s.keptOf l).any fun k => k.tick == m
    match ms with
    | [] => none
    | m :: r =>
      let m := r.foldl (fun b m => if s.ageOf m < s.ageOf b then m else b) m
      some (m, lanes.filterMap fun l => ((s.keptOf l).find? fun k => k.tick == m).map fun k => (l, k))

/-- Step 1 of R183: the arm set, its age, and STALE. -/
def takeSet (a : Nat) (s : Hw) : Hw :=
  let inst := s.installedWords a
  let lanes := ((List.range 8).filter fun l => inst.any fun p => p.1 / 96 == l).map (8 * a + ·)
  let x := s.armOf a
  let s : Hw := match s.commonSet lanes with
    | none =>
      if lanes.isEmpty then s.onArm a fun x => { x with set := [], setTick := none, lanes := [], formed := false, age := 255, stall := [], ord := [] }
      else s.onArm a fun x => { x with age := min 255 (x.age + 1) }
    | some (m, ks) =>
      let set : SMap Nat := ks.flatMap fun (k : Nat × Kept) =>
        (k.2.reports.zipIdx.filter fun r => r.1 != 0).map fun r => (96 * (k.1 - 8 * a) + r.2, r.1)
      let again := decide (x.setTick = some m)
      let stall := if again then x.stall else inst.foldl (fun st p =>
        let same := x.setTick.isSome && x.lanes.contains (8 * a + p.1 / 96) && repSeq (smapGet 0 set p.1) == repSeq (smapGet 0 x.set p.1)
        smapSet 0 st p.1 (if same then min 7 (smapGet 0 st p.1 + 1) else 0)) x.stall
      let rises := fun c => inst.any fun p => (VSQ_SLOTa_j_FCODE a 0).of p.2 == 0 && repFcode (smapGet 0 set p.1) == c
      let s := ((List.range 16).filter fun c => c != 0 && rises c).foldl (fun s c => s.trgCode c) s
      let s := s.mapSlots a fun j w => (VSQ_SLOTa_j_FCODE a 0).into w (repFcode (smapGet 0 set j))
      s.onArm a fun x => { x with set := set, setTick := some m, ofTick := m, lanes := lanes, formed := true, age := min 255 (s.ageOf m), stall := stall }
  let x := s.armOf a
  let s := s.put (VSQ_ARMa_STAT2_AGE a) x.age
  if s.liveGet (VSQ_ARMa_CFG2_AGE_MAX a) < x.age ∨ !x.formed then
    -- ROT from the next tick on (R185)
    let s := s.putb (VSQ_ARMa_FLAGS_ROT_ACTIVE a) (s.flag (VSQ_ARMa_FLAGS_STALE a) && s.liveFlag (VSQ_ARMa_CFG_AUTO_ROT a))
    ((s.raise (VSQ_ARMa_FLAGS_STALE a)).raise (VSQ_ARMa_FLAGS_STALE_SEEN a)).bump (VSQ_ARMa_CNT_STALE_CNT a)
  else (s.put (VSQ_ARMa_FLAGS_STALE a) 0).put (VSQ_ARMa_FLAGS_ROT_ACTIVE a) 0

/-- Step 2 of R183: exclusions found in the set, and R198. -/
def takeExclusions (a : Nat) (s : Hw) : Hw :=
  let x := s.armOf a
  let s := (s.installedWords a).foldl (fun s p =>
    if slotExcl p.2 then s
    else if repFcode (smapGet 0 x.set p.1) ≠ 0 then exclude a p.1 1 s
    else if 7 ≤ smapGet 0 x.stall p.1 then exclude a p.1 3 s
    else s) s
  let n := s.excluded a
  let s := s.put (VSQ_ARMa_STAT2_EXCLUDED a) n
  if s.liveGet (VSQ_ARMa_CFG_N_RED a) < n then (s.raise (VSQ_ARMa_FLAGS_RED_EXCEEDED a)).tripNow cSubmodule else s

/-! ### The Thresher (R186) -/

/-- One pass over adjacent pairs from the head; whether it swapped. -/
def pairPass : List Nat → List Nat × Bool
  | x :: y :: r =>
    let (r', w) := pairPass r
    if y < x then (y :: x :: r', true) else (x :: y :: r', w)
  | l => (l, false)

/-- Pass `k`: even passes from the first place, odd ones from the second. -/
def threshPass (k : Nat) (l : List Nat) : List Nat × Bool :=
  if k % 2 = 0 then pairPass l
  else match l with
    | [] => ([], false)
    | x :: r => let (r', w) := pairPass r; (x :: r', w)

/-- The 16 passes of a tick over keys; whether the last one swapped. -/
def threshTick (l : List Nat) : List Nat × Bool :=
  (List.range 16).foldl (fun p k => threshPass k p.1) (l, false)

/-- (class, v, j) of a slot as one number. -/
def threshKey (words : List (Nat × Word)) (x : ArmSt) (j : Nat) : Nat :=
  let healthy := match words.find? fun p => p.1 == j with
    | some p => slotType p.2 != 0 && !slotExcl p.2
    | none => false
  (if healthy then 0 else 2 ^ 26) + x.volt j * 2 ^ 10 + j

/-- ORD as slot numbers. -/
def ArmSt.order (x : ArmSt) : List Nat := if x.ord.isEmpty then List.range 768 else x.ord

/-- Step 3 of R183. An arm with no installed slot has nothing to order. -/
def takeOrder (a : Nat) (s : Hw) : Hw :=
  let words := s.installedWords a
  if words.isEmpty then s.raise (VSQ_ARMa_FLAGS_SETTLED a)
  else
    let x := s.armOf a
    let (l, w) := threshTick (x.order.map (threshKey words x))
    let ord := l.map (· % 1024)
    (s.putb (VSQ_ARMa_FLAGS_SETTLED a) (!w)).onArm a fun x => { x with ord := if ord = List.range 768 then [] else ord }

/-! ### Count and direction (R187, R188) -/

/-- What steps 5 and 6 work on: the reference's sign and count, the healthy slots, and the candidates in preference order. -/
structure ArmNow where
  pos : Bool
  ni : Nat
  d : Nat
  sat : Bool
  healthy : List (Nat × Word)
  pref : List Nat
  dir : Bool
deriving DecidableEq, Repr

/-- R187. -/
def slotCount (u : Int) (vdb h hfb sv : Nat) (frac : Bool) : Nat × Nat × Bool :=
  let cap := if 0 ≤ u then h else hfb
  if sv = 0 ∨ cap = 0 then (0, 0, false)
  else
    let num := u.natAbs * vdb * 1000 * h
    let den := 16384 * sv
    let q := (num * 512 + den / 2) / den
    let (ni, d) := if frac then (q / 512, q % 512) else ((q + 256) / 512, 0)
    if cap ≤ ni then (cap, 0, decide (cap * 512 < q)) else (ni, d, false)

/-- The reference of an arm at the Sequencer latch (R180). -/
def Hw.armRef (s : Hw) (a : Nat) : Int := signed 16 (smapGet 0 s.le.seqIn (outArea (2 + a / 2) + a % 2))

/-- Step 4 of R183. -/
def armNow (a : Nat) (s : Hw) : ArmNow :=
  let x := s.armOf a
  let healthy := (s.installedWords a).filter fun p => !slotExcl p.2
  let fb := healthy.filter fun p => slotType p.2 == 2
  let u := s.armRef a
  let pos := decide (0 ≤ u)
  let sv := (healthy.map fun p => x.volt p.1).sum
  let (ni, d, sat) := slotCount u (s.liveGet GFL_BASE1_V_DC_BASE) healthy.length fb.length sv (s.liveFlag (VSQ_ARMa_CFG_FRAC_EN a))
  let i := kQty s s.xram (8 + a)
  let dir := if i.natAbs ≤ s.liveGet (VSQ_ARMa_CFG2_I_DB a) then s.flag (VSQ_ARMa_FLAGS_DIR a)
    else decide (0 < i * (if pos then 1 else -1))
  let cands := if pos then healthy else fb
  let ord := x.order.filter fun j => cands.any fun p => p.1 == j
  { pos := pos, ni := ni, d := d, sat := sat, healthy := healthy, pref := if dir then ord else ord.reverse, dir := dir }

/-! ### Commands by mode (Table VSQ-1) -/

/-- The row of Table VSQ-1 that applies to an arm's healthy slots. -/
def Hw.armWork (s : Hw) : ArmWork :=
  if s.modeIn [mCommission, mTripped] then .block
  else if s.mode = mBlocked then .hold
  else if s.charging then .charge
  else if s.mode = mEnergize ∧ !s.bsStage then .hold
  else .switch

/-- The holding style of an arm: Bypass where HOLD_STYLE asks for it and R37 does not revert it. -/
def Hw.holdCmd (s : Hw) (a : Nat) : Nat :=
  if bitOf (s.liveGet SYS_MODECFG_HOLD_STYLE) a && !bitOf s.ops.revertedNow a then cmdBypass else cmdBlock

/-! ### Selection (R190 to R192) -/

/-- A slot as the selection sees it: its base command and its DWELL_CNT in this tick. -/
structure SlotNow where
  j : Nat
  word : Word
  state : Nat
  cnt : Nat
deriving DecidableEq, Repr

/-- The member of `l` that stands last in the preference order. -/
def lastIn (pref l : List Nat) : Option Nat := (pref.filter l.contains).getLast?

/-- R191, step 3: up to `n` swaps among the slots of `free`. -/
def bandSwaps (x : ArmSt) (dir : Bool) (tol : Nat) (pref free : List Nat) : Nat → List Nat → List Nat
  | 0, l => l
  | n + 1, l =>
    match lastIn pref (l.filter free.contains), pref.find? fun j => free.contains j && !l.contains j with
    | some m, some o =>
      let isOver := if dir then x.volt o + tol < x.volt m else x.volt m + tol < x.volt o
      if isOver then bandSwaps x dir tol pref free n (l.filter (· != m) ++ [o]) else l
    | _, _ => l

/-- R192: the members and the pointer after appending while fewer than `ni`. -/
def rotFill (ring : List Nat) (ni : Nat) : Nat → List Nat → Nat → List Nat × Nat
  | 0, l, p => (l, p)
  | n + 1, l, p =>
    if ni ≤ l.length then (l, p)
    else
      let at_ := fun p => match ring.find? (p ≤ ·) with | some j => j | none => ring.headD 0
      let j := at_ p
      let next := at_ (j + 1)
      if l.contains j then rotFill ring ni n l next else rotFill ring ni n (l ++ [j]) next

/-- The slots that the rule in force inserts, in order of entry, and the ROT pointer. `old` is S as the rule finds it. -/
def selectSlots (a : Nat) (s : Hw) (x : ArmSt) (w : ArmNow) (old free : List Nat) : List Nat × Nat :=
  let rule := if s.flag (VSQ_ARMa_FLAGS_ROT_ACTIVE a) then 2 else s.liveGet (VSQ_ARMa_CFG_SEL_MODE a)
  if rule = 0 then (w.pref.take w.ni, x.ptr)
  else if rule = 1 then
    let l := if old.length ≤ w.ni then old ++ (w.pref.filter fun j => !old.contains j).take (w.ni - old.length)
      else old.filter ((w.pref.filter old.contains).take w.ni).contains
    (bandSwaps x w.dir (10 * s.liveGet (VSQ_ARMa_CFG_BAND_TOL a)) w.pref free (s.liveGet (VSQ_ARMa_CFG_SWAP_MAX a)) l, x.ptr)
  else
    let ring := (List.range 768).filter w.pref.contains
    let (l, p) := rotFill ring w.ni (2 * ring.length) old x.ptr
    (l.drop (l.length - w.ni), p)

/-! ### Dwell and the fractional role (R193 to R195) -/

/-- A switching arm's decision: the inserted set in order of entry, the slots left in the old polarity, whether the count
was short, and the ROT pointer. -/
structure ArmPick where
  ins : List Nat
  short : Bool
  ptr : Nat
deriving DecidableEq, Repr

/-- R193: the selection reconciled with the dwell limit. -/
def armPick (a : Nat) (s : Hw) (x : ArmSt) (w : ArmNow) (slots : List SlotNow) : ArmPick :=
  let dwell := s.liveGet (VSQ_ARMa_CFG_DWELL a)
  let code := if w.pos then cmdPos else cmdNeg
  let anti := if w.pos then cmdNeg else cmdPos
  let has := fun (p : SlotNow → Bool) (j : Nat) => slots.any fun t => t.j == j && p t
  let free := w.pref.filter (has fun t => decide (dwell ≤ t.cnt))
  let stay := w.pref.filter (has fun t => decide (t.cnt < dwell) && t.state == code)
  let opp := (slots.filter fun t => decide (t.cnt < dwell) && t.state == anti).length
  let fresh := x.work != .switch || x.pos != w.pos
  let old := if fresh then [] else x.sel.filter w.pref.contains
  let (want, ptr) := selectSlots a s x w old free
  let need := w.ni + opp - stay.length
  let pick := (free.filter want.contains).take need
  let pick := pick ++ (free.filter fun j => !want.contains j).take (need - pick.length)
  let ins := stay ++ pick
  { ins := want.filter ins.contains ++ w.pref.filter fun j => ins.contains j && !want.contains j,
    short := decide (ins.length ≠ w.ni + opp), ptr := ptr }

/-- R194: the slot that holds the fractional role, and for how many ticks. -/
def armFrac (a : Nat) (s : Hw) (x : ArmSt) (w : ArmNow) (free : List Nat) : Option (Nat × Nat) :=
  if !s.liveFlag (VSQ_ARMa_CFG_FRAC_EN a) || w.d == 0 then none
  else
    let keep := match x.frac with
      | some (j, n) => if free.contains j ∧ n < s.liveGet (VSQ_ARMa_CFG2_FRAC_HOLD a) then some (j, n + 1) else none
      | none => none
    match keep with
    | some f => some f
    | none => free.head?.map fun j => (j, 1)

/-- Steps 4 to 6 of R183 for an arm, with the registers of Tables VSQ-8 to VSQ-12. -/
def armTick (a : Nat) (s : Hw) : Hw :=
  let x := s.armOf a
  let w := armNow a s
  let work := s.armWork
  let cntOf := fun (j : Nat) (v : Word) =>
    if s.vsq.rejoin.contains (a, j) then 0 else min 255 ((VSQ_SLOTa_j_DWELL_CNT a j).of v + 1)
  let slots := w.healthy.map fun p => ({ j := p.1, word := p.2, state := slotState p.2, cnt := cntOf p.1 p.2 } : SlotNow)
  let dwell := s.liveGet (VSQ_ARMa_CFG_DWELL a)
  let pick := if work = .switch then armPick a s x w slots else { ins := [], short := false, ptr := x.ptr }
  let nblk := s.get (chgFld a)
  let blocked := (x.order.filter fun j => w.healthy.any fun p => p.1 == j).take nblk
  let code := if w.pos then cmdPos else cmdNeg
  -- the base command of a healthy slot
  let healthyCmd := fun (t : SlotNow) =>
    match work with
    | .block => cmdBlock
    | .hold => s.holdCmd a
    | .charge =>
      let c := if blocked.contains t.j then cmdBlock else cmdBypass
      if x.work = .charge ∧ t.cnt < dwell then t.state else c
    | .switch =>
      if pick.ins.contains t.j then code else if t.cnt < dwell then t.state else cmdBypass
  let base := slots.map fun t => (t.j, healthyCmd t)
  let free := w.pref.filter fun j => !pick.ins.contains j && base.contains (j, cmdBypass)
  let frac := if work = .switch then armFrac a s x w free else none
  let t1 := (512 - w.d) / 2
  let timed := frac.map fun f => (f.1, t1, code, t1 + w.d)
  let cmdOf := fun (j : Nat) (v : Word) =>
    if slotType (s.inForce a j v) = 0 then cmdBlock
    else if slotExcl (s.inForce a j v) then (if work = .block then cmdBlock else cmdBypass)
    else match base.find? fun b => b.1 == j with | some b => b.2 | none => cmdBlock
  let s := s.mapSlots a fun j v =>
    let c := cmdOf j v
    let v' := (VSQ_SLOTa_j_DWELL_CNT a j).into ((VSQ_SLOTa_j_STATE a j).into v c) (if slotState v = c then cntOf j v else 0)
    (VSQ_SLOTa_j_FRAC a j).into v' (match frac with | some f => if f.1 = j then 1 else 0 | none => 0)
  let n : Int := if w.pos then (w.ni : Int) else -(w.ni : Int)
  let s := s.onArm a fun x =>
    { x with sel := if work = .switch then pick.ins else [], pos := w.pos, ptr := pick.ptr, frac := frac, work := work,
             timed := timed, n := n }
  let s := ((s.put (VSQ_ARMa_STAT_HEALTHY a) w.healthy.length).put (VSQ_ARMa_STAT_HEALTHY_FB a)
    (w.healthy.filter fun p => slotType p.2 == 2).length).put (VSQ_ARMa_STAT2_D a) w.d
  let s := s.putb (VSQ_ARMa_FLAGS_DIR a) w.dir
  let s := if w.sat then s.raise (VSQ_ARMa_FLAGS_CNT_SAT a) else s
  if pick.short then (s.raise (VSQ_ARMa_FLAGS_DWELL_SHORT a)).bump (VSQ_ARMa_CNT_DS_CNT a) else s

/-! ### The Sequencer latch -/

/-- Engine `n` has a FEEDS_SEQ task (R87). -/
def Hw.feedsSeq (s : Hw) (n : Nat) : Bool :=
  (List.range 8).any fun m => match (s.taskOf n m).decl with | some d => d.feedsSeq | none => false

/-- The output words taken at the latch, boundary by boundary 2 (R421): `bad` names the blocks corrupted, 256 * engine +
block. A failed block keeps the words of the previous tick. -/
def seqTake (bad : List Nat) (s : Hw) : Hw :=
  let due := match s.int.inj with | some (2, i) => if s.int.injTick = s.ticks then [i] else [] | _ => []
  let idx := (bad ++ due).eraseDups.filter fun i => s.feedsSeq (i / 256)
  let s := (s.newMasks 2).each idx fun i s => (s.checkBundle 2 i (bad.contains i)).2
  let failed := fun (w : Nat) => idx.any fun i =>
    let b := outArea (i / 256) + 16 * (i % 256)
    decide (b ≤ w) && decide (w < b + 16)
  let now : SMap Nat := s.xram.filter fun p => decide (outArea 0 ≤ p.1) && !failed p.1
  s.onLe fun c =>
    { c with seqIn := (c.seqIn.filter fun p => failed p.1).foldl (fun (m : SMap Nat) p => smapInsert m p.1 p.2) now }

/-- The shadow unit's comparison of the tick (R202, R425). -/
def shadowCheck (bad : Bool) (s : Hw) : Hw :=
  if bad ∧ s.flag VSQ_CTRL_SHADOW_EN then
    ((((s.raise VSQ_THRSTAT_THR_MISMATCH).put VSQ_THRSTAT_MM_ARM (s.time.tickNo % 6)).bump VSQ_THRSTAT_MM_CNT)).raise
      INT_STAT_THR_MM_SEEN
  else s

/-- SEQUENCER_LATCH (R183): at timebase cycle 184. -/
def sequencerLatch (bad : List Nat) (shadowBad : Bool) (s : Hw) : Hw :=
  let s := seqTake bad (s.atCyc 184)
  let s := rampTasks (regionRead s)
  let s := s.each (List.range 6) fun a s => takeOrder a (takeExclusions a (takeSet a s))
  let s := s.causeActive cSubmodule ((List.range 6).any fun a => decide (s.liveGet (VSQ_ARMa_CFG_N_RED a) < s.excluded a))
  let s := s.each (List.range 6) armTick
  let s := { s with vsq := { s.vsq with rejoin := [] } }
  shadowCheck shadowBad s

/-! ### Types and settings (R181) -/

/-- The word that a slot register reads as (Table VSQ-12): an EMPTY slot is commanded Block since the first tick. -/
def Hw.slotView (s : Hw) (a j : Nat) : Word :=
  let w := s.reg (VSQ_SLOTa_j a j)
  if slotType (s.inForce a j w) = 0 ∧ s.time.ticks ≠ 0 then
    let w' := (VSQ_SLOTa_j_FCODE a j).into ((VSQ_SLOTa_j_STATE a j).into w cmdBlock) (repFcode (smapGet 0 (s.armOf a).set j))
    if slotState w = cmdBlock then w' else (VSQ_SLOTa_j_DWELL_CNT a j).into w' (min 255 ((s.time.ticks : Int) - s.vsq.emptyFrom).toNat)
  else w

/-- Slot `j` of arm `a` is written type `ty`; it acts from the next tick (R17, `retype`). One made EMPTY reads without its exclusion at
once, so that one log entry holds both (R196). -/
def setType (a j ty : Nat) (s : Hw) : Hw :=
  let w := s.slotView a j
  if slotType w = ty then s
  else
    let v := (VSQ_SLOTa_j_TYPE a j).into w ty
    let s := s.setReg (VSQ_SLOTa_j a j)
      (if ty = 0 then (VSQ_SLOTa_j_EXCL_CAUSE a j).into ((VSQ_SLOTa_j_EXCL a j).into v 0) 0 else v)
    if s.vsq.retyped.any fun r => r.1 == (a, j) then s
    else { s with vsq := { s.vsq with retyped := ((a, j), w) :: s.vsq.retyped } }

/-- The ranges of Tables VSQ-6 and VSQ-7. -/
def armCfgBad (a : Nat) (t : Hw) : Bool :=
  t.get (VSQ_ARMa_CFG_SEL_MODE a) == 3 || t.get (VSQ_ARMa_CFG_SWAP_MAX a) == 0 || t.get (VSQ_ARMa_CFG_DWELL a) == 0 ||
  t.get (VSQ_ARMa_CFG_BAND_TOL a) == 0 || decide (64 < t.get (VSQ_ARMa_CFG_N_RED a)) ||
  decide (t.get (VSQ_ARMa_CFG2_AGE_MAX a) < 2) || t.get (VSQ_ARMa_CFG2_FRAC_HOLD a) == 0 ||
  decide (0x0CCD < t.get (VSQ_ARMa_CFG2_I_DB a))

/-- N_RED would change in a mode that does not allow it. -/
def redModeBad (s t : Hw) (a : Nat) : Bool :=
  s.get (VSQ_ARMa_CFG_N_RED a) != t.get (VSQ_ARMa_CFG_N_RED a) && !s.cfgMode

/-- Writes in the Sequencer's window. -/
def vsqWrite (s : Hw) (w : Wr) : Judged :=
  let t := s.writeAs w
  let cleared := fun (f : Fld) => w.touches f && w.was f == 1 && w.val f == 0
  if w.addr = VSQ_THRSTAT then .ok (if cleared VSQ_THRSTAT_THR_MISMATCH then t.put VSQ_THRSTAT_MM_CNT 0 else t)
  else if VSQ_SLOTa_j 0 0 ≤ w.addr then
    let a := (w.addr - VSQ_SLOTa_j 0 0) / 0x1000
    let j := (w.addr - VSQ_SLOTa_j 0 0) % 0x1000 / 4
    let t := setType a j (w.val (VSQ_SLOTa_j_TYPE a j)) s
    judge [(w.touches (VSQ_SLOTa_j_TYPE a j) && !s.cfgMode, .modeNotAllowed),
           (w.val (VSQ_SLOTa_j_TYPE a j) == 3 || armBreaks s t, .range)] t
  else if VSQ_ARMa_CFG 0 ≤ w.addr ∧ w.addr < VSQ_ARMa_CFG 6 then
    let a := (w.addr - VSQ_ARMa_CFG 0) / 0x20
    if w.addr = VSQ_ARMa_FLAGS a then
      let t := if cleared (VSQ_ARMa_FLAGS_DWELL_SHORT a) then t.put (VSQ_ARMa_CNT_DS_CNT a) 0 else t
      .ok (if cleared (VSQ_ARMa_FLAGS_STALE_SEEN a) then t.put (VSQ_ARMa_CNT_STALE_CNT a) 0 else t)
    else judge [(redModeBad s t a, .modeNotAllowed), (armCfgBad a t || armBreaks s t, .range)] t
  else .ok t

/-! ### Commands (Table VSQ-2) -/

/-- 0x0700 VSQ_STATUS_GET. -/
def execVsqStatusGet (h : Hdr) (s : State) : Host.Outcome State Fault Refusal :=
  .next (s.onHw (hostCmd (Op.plain 0x0700 .viewer) (.vsqStatusGet h) h fun s =>
    checked s []
      (answer s (regBytes s ([VSQ_CTRL, VSQ_THRSTAT] ++ (List.range 6).flatMap fun a =>
        [VSQ_ARMa_CFG a, VSQ_ARMa_CFG2 a, VSQ_ARMa_STAT a, VSQ_ARMa_STAT2 a, VSQ_ARMa_FLAGS a, VSQ_ARMa_CNT a])))))

/-- 0x0701 VSQ_ARM_CFG_SET. -/
def execVsqArmCfgSet (h : Hdr) (arm cfg cfg2 : Nat) (s : State) : Host.Outcome State Fault Refusal :=
  .next (s.onHw (hostCmd (Op.plain 0x0701 .engineer) (.vsqArmCfgSet h arm cfg cfg2) h fun s =>
    let t := (s.setWord (VSQ_ARMa_CFG arm) cfg).setWord (VSQ_ARMa_CFG2 arm) cfg2
    checked s [(decide (arm < 6) && redModeBad s t arm, .modeNotAllowed),
      (decide (6 ≤ arm) || armCfgBad arm t || armBreaks s t, .range)]
      (change t (regChgs s t [VSQ_ARMa_CFG arm, VSQ_ARMa_CFG2 arm]))))

/-- 0x0702 VSQ_SLOT_TYPE_SET: the type of slot first + i lies in word i / 16 at bits [2(i mod 16) + 1 : 2(i mod 16)]. -/
def execVsqSlotTypeSet (h : Hdr) (arm first count : Nat) (types : List Nat) (s : State) :
    Host.Outcome State Fault Refusal :=
  .next (s.onHw (hostCmd (Op.sized 0x0702 .engineer (5 + 4 * ((count + 15) / 16))) (.vsqSlotTypeSet h arm first count types) h fun s =>
    let ty := fun i => types.getD (i / 16) 0 / 4 ^ (i % 16) % 4
    let is := List.range (min count 768)
    let t := s.each is fun i s => setType arm (first + i) (ty i) s
    checked s [(!s.cfgMode, .modeNotAllowed),
      (decide (6 ≤ arm) || decide (768 < first + count) || is.any (fun i => ty i == 3) || armBreaks s t, .range),
      (decide (types.length ≠ (count + 15) / 16), .length)]
      (change t (regChgs s t ((List.range 768).map (VSQ_SLOTa_j arm))))))

/-- An arm and slot that do not exist. -/
def slotBad (arm slot : Nat) : Bool := decide (6 ≤ arm) || decide (768 ≤ slot)

/-- 0x0703 SLOT_EXCLUDE (R199): replies with the tick to which the command belongs. -/
def execSlotExclude (h : Hdr) (arm slot : Nat) (s : State) : Host.Outcome State Fault Refusal :=
  .next (s.onHw (hostCmd (Op.plain 0x0703 .operator) (.slotExclude h arm slot) h fun s =>
    let isOut := s.flag (VSQ_SLOTa_j_EXCL arm slot) || s.vsq.excl.contains (arm, slot)
    let n := s.excluded arm + (s.vsq.excl.filter fun p => p.1 == arm && !s.flag (VSQ_SLOTa_j_EXCL p.1 p.2)).length
    checked s [(slotBad arm slot, .range), (!isOut && s.switching && decide (s.get (VSQ_ARMa_CFG_N_RED arm) < n + 1) &&
        s.get (VSQ_SLOTa_j_TYPE arm slot) != 0, .redLimit),
      (s.get (VSQ_SLOTa_j_TYPE arm slot) == 0, .slotEmpty)]
      (if isOut then answer s (leBytes 4 s.nextTick)
       else
         { hw := { s with vsq := { s.vsq with excl := s.vsq.excl ++ [(arm, slot)] } },
           data := leBytes 4 s.nextTick, log := cmdChg 0x0703 0 (arm * 2 ^ 16 + slot) })))

/-- 0x0704 SLOT_RESTORE (R199). -/
def execSlotRestore (h : Hdr) (arm slot : Nat) (s : State) : Host.Outcome State Fault Refusal :=
  .next (s.onHw (hostCmd (Op.plain 0x0704 .engineer) (.slotRestore h arm slot) h fun s =>
    let x := s.armOf arm
    checked s [(!s.cfgMode, .modeNotAllowed), (slotBad arm slot, .range),
      (s.get (VSQ_SLOTa_j_TYPE arm slot) != 0 && s.flag (VSQ_SLOTa_j_EXCL arm slot) &&
        (repFcode (smapGet 0 x.set slot) != 0 || smapGet 0 x.stall slot == 7), .slotFaulted),
      (s.get (VSQ_SLOTa_j_TYPE arm slot) != 0 && !s.flag (VSQ_SLOTa_j_EXCL arm slot), .notExcluded),
      (s.get (VSQ_SLOTa_j_TYPE arm slot) == 0, .slotEmpty)]
      (change { s with vsq := { s.vsq with back := s.vsq.back ++ [(arm, slot)] } }
        (cmdChg 0x0704 (s.get (VSQ_SLOTa_j_EXCL_CAUSE arm slot)) (arm * 2 ^ 16 + slot)))))

/-- 0x0705 VSQ_SLOT_READ: the slot registers, then the voltages of the arm set. -/
def execVsqSlotRead (h : Hdr) (arm first count : Nat) (s : State) : Host.Outcome State Fault Refusal :=
  .next (s.onHw (hostCmd (Op.plain 0x0705 .viewer) (.vsqSlotRead h arm first count) h fun s =>
    let js := (List.range count).map (first + ·)
    checked s [(decide (6 ≤ arm) || decide (96 < count) || decide (768 < first + count), .range)]
      (answer s (js.flatMap fun j => leBytes 4 (s.slotView arm j).toNat ++ leBytes 2 ((s.armOf arm).volt j)))))

end Sys2Proof.Machine
end

