-- ==== Sys2Proof/Machine/Wire.lean ====
section
/-! DEFINITION. The coding of Sheaf and Granary lanes: check codes, the marker, scrambling and stuffing (R207 to R211,
R226), as functions between fields and the bits on the line. -/

namespace Sys2Proof.Machine

/-- The low `w` bits of `v`, most significant first. -/
def natBits (w v : Nat) : List Bool := (List.range w).map fun i => bitOf v (w - 1 - i)

/-- The number that bits spell, most significant first. -/
def bitsNat (bs : List Bool) : Nat := bs.foldl (fun n b => 2 * n + if b then 1 else 0) 0

/-- One step of a check register of width `w` with polynomial `poly`. -/
def crcStep (w poly c : Nat) (b : Bool) : Nat :=
  let fb := bitOf c (w - 1) != b
  let c := 2 * c % 2 ^ w
  if fb then c ^^^ poly else c

/-- CRC-8 of R209. -/
def crc8 (bs : List Bool) : Nat := bs.foldl (crcStep 8 0x07) 0xFF

/-- CRC-32 of R226. -/
def crc32 (bs : List Bool) : Nat := (bs.foldl (crcStep 32 0x04C11DB7) 0xFFFFFFFF) ^^^ 0xFFFFFFFF

/-! ### The marker (R208, R209) -/

/-- The fields of a marker's info word (Table SHL-4). -/
structure Marker where
  kind : Nat
  lane : Nat
  tick : Nat
  dir : Bool
  tv : Bool
  aligned : Bool
  path : Bool
  timing : Nat
  echo : Nat
deriving DecidableEq, Repr

/-- Info bits I[97:8]. -/
def Marker.info (m : Marker) : Nat :=
  let b := fun (x : Bool) (k : Nat) => if x then 2 ^ k else 0
  (1 * 2 ^ 94 + m.kind % 4 * 2 ^ 92 + m.lane % 64 * 2 ^ 86 + m.tick % 2 ^ 32 * 2 ^ 54 + b m.dir 53 + b m.tv 51 + b m.aligned 50 +
    b m.path 49 + m.timing % 2 ^ 20 * 2 ^ 28 + m.echo % 256 * 2 ^ 20) / 256

/-- The 128 marker bits as sent, first bit most significant. -/
def Marker.bits (m : Marker) : Nat :=
  let i := m.info * 256 + crc8 (natBits 90 m.info)
  (List.range 14).foldl (fun n g =>
    let d := i / 2 ^ (91 - 7 * g) % 128
    n * 256 + (if d < 64 then 128 else 0) + d) 0x7F80

/-- The marker that 128 received bits hold; `none` for a bad marker. -/
def readMarker (bits : Nat) : Option Marker :=
  let groups := (List.range 14).map fun g => bits / 2 ^ (8 * (13 - g)) % 256
  let i := groups.foldl (fun n g => n * 128 + g % 128) 0
  let ok := decide (bits / 2 ^ 112 = 0x7F80) && groups.all (fun g => bitOf g 7 != bitOf g 6) && decide (i / 2 ^ 94 = 1) &&
    crc8 (natBits 90 (i / 256)) == i % 256
  if ok then
    some { kind := i / 2 ^ 92 % 4, lane := i / 2 ^ 86 % 64, tick := i / 2 ^ 54 % 2 ^ 32, dir := bitOf i 53, tv := bitOf i 51,
           aligned := bitOf i 50, path := bitOf i 49, timing := i / 2 ^ 28 % 2 ^ 20, echo := i / 2 ^ 20 % 256 }
  else none

/-- The length of the run of equal bits that ends a marker. -/
def endRun (bits : Nat) : Nat := ((natBits 128 bits).reverse.takeWhile (· == bitOf bits 0)).length

/-! ### Scrambling and stuffing (R210, R211) -/

/-- The scrambler's seed for a frame. -/
def scrSeed (dir : Bool) (lane tick : Nat) : Nat :=
  let s := (if dir then 2 ^ 30 else 0) + lane % 64 * 2 ^ 24 + tick % 2 ^ 24
  if s = 0 then 1 else s

/-- Bits added to the scrambler's sequence: the same function scrambles and descrambles. -/
def scramble (s : Nat) : List Bool → List Bool
  | [] => []
  | b :: r =>
    let fb := bitOf s 30 != bitOf s 27
    (b != fb) :: scramble ((2 * s + if fb then 1 else 0) % 2 ^ 31) r

/-- Bits with a stuff bit after every 24 identical ones, given the run and the last bit before them. -/
def stuff (run : Nat) (last : Bool) : List Bool → List Bool
  | [] => []
  | b :: r =>
    let run := if b = last then run + 1 else 1
    if run = 24 then b :: (!b) :: stuff 1 (!b) r else b :: stuff run b r

/-- `n` alternating bits starting with `b`. -/
def fillBits (b : Bool) (n : Nat) : List Bool := (List.range n).map fun i => if i % 2 = 0 then b else !b

/-- The 12,288 line bits of a payload frame with this marker, before POL_TX. -/
def lineBits (dir : Bool) (m : Marker) (block : Nat) : List Bool :=
  let mk := natBits 128 m.bits
  let pl := stuff (endRun m.bits) (bitOf m.bits 0) (scramble (scrSeed dir m.lane m.tick) (natBits 11264 block))
  mk ++ pl ++ fillBits (!(pl.getLastD false)) (12288 - 128 - pl.length)

/-- The line bits of a training frame (R222): the burst, four markers, fill. -/
def trainingBits (m : Marker) : List Bool :=
  let mk := natBits 128 m.bits
  fillBits true 1024 ++ mk ++ mk ++ mk ++ mk ++ fillBits (!bitOf m.bits 0) (12288 - 1024 - 512)

/-- `n` payload bits recovered from line bits; `none` where a stuff bit is wrong or missing. -/
def destuff (run : Nat) (last : Bool) : Nat → List Bool → Option (List Bool)
  | n, [] => if n = 0 ∧ run ≠ 24 then some [] else none
  | n, b :: r =>
    if run = 24 then if b = last then none else destuff 1 b n r
    else match n with
      | 0 => some []
      | n + 1 => (destuff (if b = last then run + 1 else 1) b n r).map (b :: ·)

/-- The payload block that the line bits after marker `bits` carry (R211); `none` for a stuff error. -/
def readBlock (bits : Nat) (m : Marker) (line : List Bool) : Option Nat :=
  (destuff (endRun bits) (bitOf bits 0) 11264 line).map fun p => bitsNat (scramble (scrSeed m.dir m.lane m.tick) p)

/-- A field of `w` bits at block bit `b` (R225). -/
def blockField (block b w : Nat) : Nat := block / 2 ^ (11264 - b - w) % 2 ^ w

/-- The block's CRC-32 checks. -/
def blockOk (block : Nat) : Bool := crc32 (natBits 11232 (block / 2 ^ 32)) == block % 2 ^ 32

/-- A block from its first 11,232 bits. -/
def blockOf (body : Nat) : Nat := body * 2 ^ 32 + crc32 (natBits 11232 body)

end Sys2Proof.Machine
end

