-- ==== Sys2Proof/Machine/Bulk.lean ====
section
/-! DEFINITION. The bulk subchannel of a lane, its messages, and hub identity and configuration (R243 to R248). -/

namespace Sys2Proof.Machine

/-- A lane, and a change of it. -/
def Hw.laneOf (s : Hw) (n : Nat) : LaneSt := smapGet {} s.shf.lanes n
def Hw.onLane (s : Hw) (n : Nat) (f : LaneSt → LaneSt) : Hw :=
  { s with shf := { s.shf with lanes := smapSet {} s.shf.lanes n (f (s.laneOf n)) } }
def Hw.onBulk (s : Hw) (n : Nat) (f : BulkSt → BulkSt) : Hw := s.onLane n fun l => { l with bulk := f l.bulk }

/-- The number of Sheaf lanes; lanes 48 and 49 are the Granary's. -/
def numLanes : Nat := 48

/-! ### Cells (R243, R246) -/

/-- A bulk cell: its header flags and its data bytes. -/
structure Cell where
  som : Bool
  eom : Bool
  bytes : List Byte
deriving DecidableEq, Repr

/-- The cells of a message, 60 bytes each. -/
def cellsFrom (som : Bool) (bs : List Byte) : Nat → List Cell
  | 0 => []
  | n + 1 =>
    if bs.length ≤ 60 then [⟨som, true, bs⟩] else ⟨som, false, bs.take 60⟩ :: cellsFrom false (bs.drop 60) n

/-- The cells of a message from SOM to EOM. -/
def cellsOf (bs : List Byte) : List Cell := cellsFrom true bs (bs.length / 60 + 1)

/-- Bytes of a number, most significant first (R246). -/
def beBytes (n v : Nat) : List Byte := (leBytes n v).reverse
def beNat (bs : List Byte) : Nat := leNat bs.reverse

/-- A message: TYPE, TAG, body length, body. -/
def mkMessage (type tag : Nat) (body : List Byte) : List Byte := beBytes 1 type ++ beBytes 1 tag ++ beBytes 2 body.length ++ body

/-- `s` with a message queued on lane `n`. -/
def bulkSend (n : Nat) (msg : List Byte) (s : Hw) : Hw := s.onBulk n fun b => { b with out := b.out ++ [msg] }

/-- Cells sent and not acknowledged. -/
def BulkSt.inFlight (b : BulkSt) : Nat := (b.nxt + 128 - b.una) % 128

/-- A side's bulk state reset (R245): the message interrupted is sent again from its first cell. -/
def BulkSt.cleared (b : BulkSt) : BulkSt :=
  { b with una := 0, nxt := 0, peerNext := 0, peerCredit := 0, stuck := 0, acked := 0, high := 0, next := 0, rx := none }

/-- The reset of this side, which toggles SES. -/
def BulkSt.restart (b : BulkSt) : BulkSt := { b.cleared with ses := !b.ses }

/-- Messages whose cells have all been acknowledged leave the queue. -/
def dropAcked : List (List Byte) → Nat → List (List Byte) × Nat
  | [], _ => ([], 0)
  | m :: ms, k => let c := (cellsOf m).length; if c ≤ k then dropAcked ms (k - c) else (m :: ms, k)

/-- NEXT_p acknowledges the cells before it: those that have been sent, being sent again or not. One that falls back within the message, as a
peer's does that has reset its own state, takes their acknowledgement back. Any other value is from before this side's reset and says
nothing of the cells queued now (R245, log entry 162). -/
def BulkSt.acknowledge (b : BulkSt) : BulkSt :=
  let k := (b.peerNext + 128 - b.una) % 128
  if k ≤ b.high then
    let (out, acked) := dropAcked b.out (b.acked + k)
    { b with una := b.peerNext, out := out, acked := acked, high := b.high - k }
  else if 128 - k ≤ b.acked then { b with una := b.peerNext, acked := b.acked - (128 - k), high := b.high + (128 - k) }
  else b

/-- The sender's part of R244 once per frame: the new state and the cell to send with its CSEQ. -/
def BulkSt.frame (b : BulkSt) : BulkSt × Option (Cell × Nat) :=
  let b := b.acknowledge
  let cells := (b.out.flatMap cellsOf).drop (b.acked + b.inFlight)
  let (b, cell) := match cells with
    | c :: _ => if (b.nxt + 128 - b.peerNext) % 128 < b.peerCredit then
        ({ b with nxt := (b.nxt + 1) % 128, high := max b.high (b.inFlight + 1) }, some (c, b.nxt)) else (b, none)
    | [] => (b, none)
  ({ b with stuck := if b.una = b.nxt then 0 else b.stuck + 1 }, cell)

/-- The 512 bits of the bulk field. Received cells are taken as they arrive, so 32 are always free (log entry 27). -/
def BulkSt.field (b : BulkSt) (cell : Option (Cell × Nat)) : Nat :=
  let h := (if b.ses then 2 ^ 28 else 0) + b.next * 2 ^ 8 + 32 * 4
  match cell with
  | none => h * 2 ^ 480
  | some (c, q) =>
    let h := h + 2 ^ 31 + (if c.som then 2 ^ 30 else 0) + (if c.eom then 2 ^ 29 else 0) + c.bytes.length * 2 ^ 22 + q * 2 ^ 15
    h * 2 ^ 480 + beNat c.bytes * 2 ^ (480 - 8 * c.bytes.length)

/-- The receiver's part of R244 and R245 for the bulk field of a usable frame. -/
def BulkSt.receive (b : BulkSt) (f : Nat) : BulkSt :=
  let h := f / 2 ^ 480
  let ses := bitOf h 28
  let b := if b.peerSes = some !ses then b.cleared else b
  let next := h / 2 ^ 8 % 128
  let b := { b with peerSes := some ses, peerNext := next, peerCredit := min 32 (h / 4 % 64), stuck := if next = b.peerNext then b.stuck else 0 }
  let len := h / 2 ^ 22 % 64
  if bitOf h 31 ∧ h / 2 ^ 15 % 128 = b.next then
    let bs := (beBytes 60 (f % 2 ^ 480)).take len
    let rx := if bitOf h 30 then some bs else b.rx.map (· ++ bs)
    let b := { b with next := (b.next + 1) % 128 }
    if bitOf h 29 then { b with rx := none, msgs := match rx with | some m => b.msgs ++ [m] | none => b.msgs }
    else { b with rx := rx }
  else b

/-- BULK_RESEND of a lane (R244). -/
def bulkResend (n : Nat) (s : Hw) : Hw :=
  let b := (s.laneOf n).bulk
  if n < numLanes ∧ 64 ≤ b.stuck then
    ((s.onBulk n fun b => { b with nxt := b.una, stuck := 0 }).raise (LNn_HUBSTAT_BULK_RETX n)).bump (LNn_ULCNT_BULK_RETX_CNT n)
  else s

/-! ### Hub identity and configuration (R247, R248) -/

/-- The conditions of HUB_OK. -/
def Hw.hubOkNow (s : Hw) (n : Nat) : Bool :=
  let l := s.laneOf n
  let id := ((s.reg (LNn_HUBID0 n)).toNat, (s.reg (LNn_HUBID1 n)).toNat, (s.reg (LNn_HUBID2 n)).toNat)
  decide (l.ident = some id) && decide (id ≠ (0, 0, 0)) && decide (l.ackSeq = some (s.get SHF_CTRL_CFG_SEQ)) &&
    s.get (LNn_HUBSTAT_HUB_CFG_SEQ n) == s.get SHF_CTRL_CFG_SEQ

/-- HUB_OK of a lane as the conditions stand. -/
def hubCheck (n : Nat) (s : Hw) : Hw := s.putb (LNn_HUBSTAT_HUB_OK n) (s.hubOkNow n)

/-- The fallback bitmap of a lane's hub. -/
def Hw.fallback (s : Hw) (n : Nat) : Nat :=
  (s.reg (LNn_FBk n 0)).toNat + (s.reg (LNn_FBk n 1)).toNat * 2 ^ 32 + (s.reg (LNn_FBk n 2)).toNat * 2 ^ 64

/-- A message of this part's own, with a TAG that the spec leaves open. -/
def ownMessage (n type : Nat) (body : List Byte) (s : Hw) : Hw :=
  let (t, s) := s.fresh
  bulkSend n (mkMessage type (t.toNat % 256) body) s

/-- IDENT_REQ and CONFIG sent on a lane (R248). A generation on the wire is at least 1 (Table SHF-2), so the first CONFIG makes it so. -/
def hubConfigure (n : Nat) (s : Hw) : Hw :=
  let s := if s.get SHF_CTRL_CFG_SEQ = 0 then s.put SHF_CTRL_CFG_SEQ 1 else s
  hubCheck n (ownMessage n 0x02
    (beBytes 1 (s.get SHF_CTRL_CFG_SEQ) ++ beBytes 1 (s.get SHF_TOL_HUB_L) ++ beBytes 12 (s.fallback n) ++ beBytes 2 0)
    (ownMessage n 0x01 [] s))

/-- The state code of a lane (Table SHL-6). -/
def Hw.laneState (s : Hw) (n : Nat) : Nat := s.get (LNn_STAT_STATE n)

/-- The codes. -/
def lnOff : Nat := 0
def lnTrain : Nat := 1
def lnMeasure : Nat := 2
def lnAlign : Nat := 3
def lnRun : Nat := 4
def lnIdleEntry : Nat := 5
def lnIdle : Nat := 6
def lnExit : Nat := 7
def lnFail : Nat := 8

/-- Lanes with EN = 1. -/
def Hw.lanesInUse (s : Hw) : List Nat := (List.range numLanes).filter fun n => s.flag (LNn_CFG_EN n)

/-- DMAX (Table SHL-17). -/
def Hw.dmax (s : Hw) : Nat :=
  ((List.range numLanes).map fun n => if s.laneState n = lnRun ∧ s.flag (LNn_DLY_VALID n) then s.get (LNn_DLY_D n) else 0).foldl max 0

/-- APPLY_MIN for a launch offset (R236). -/
def applyMin (launch dmax proc : Nat) : Nat := (((launch + 1938 + proc) * 24576 + 1000 * dmax) * 256 + 24575999) / 24576000

/-- SHL_DSTAT.DMAX and SHF_STAT as the lanes stand. -/
def shfStat (s : Hw) : Hw :=
  let d := s.dmax
  let proc := (s.lanesInUse.map fun n => if (s.laneOf n).ident.isSome then s.get (LNn_HUBINFO_HUB_PROC n) else 0).foldl max 0
  let m := applyMin (s.liveGet SYS_TICKCFG_LAUNCH_OFS) d proc
  let p := applyMin (s.get SYS_TICKCFG_LAUNCH_OFS) d proc
  (((s.put SHL_DSTAT_DMAX d).put SHF_STAT_APPLY_MIN m).put SHF_STAT_HUB_PROC_MAX proc).putb SHF_STAT_APPLY_TIGHT
    (decide (s.get SHF_CTRL_APPLY_OFS < max m p))

/-- The configuration sent to every lane in RUN. -/
def hubsConfigure (s : Hw) : Hw :=
  s.each (List.range numLanes) fun n s => if s.laneState n = 4 then hubConfigure n s else hubCheck n s

/-- A new configuration generation, sent to every lane in RUN. -/
def newGeneration (s : Hw) : Hw :=
  let g := s.get SHF_CTRL_CFG_SEQ
  hubsConfigure (s.put SHF_CTRL_CFG_SEQ (if g = 255 then 1 else g + 1))

/-- Slots whose type and INSTALLED bit disagree (R247). -/
def slotMapBad (s : Hw) (n installed : Nat) : Bool :=
  (List.range 96).any fun k => (s.get (VSQ_SLOTa_j_TYPE (n / 8) (96 * (n % 8) + k)) != 0) != bitOf installed k

/-- The waiting HUB_DISCOVER that has still to hear from a lane. -/
def Hw.discovering (s : Hw) (n : Nat) : Option Hdr :=
  (s.cmd.waiting.find? fun w => match w.kind with | .discover ls got _ => bitOf ls n && !bitOf got n | _ => false).map (·.hdr)

/-- The results of HUB_DISCOVER for a lane: identity and IDENT data. -/
def discoverRegs (n : Nat) : List Nat := [LNn_HUBID0 n, LNn_HUBID1 n, LNn_HUBID2 n, LNn_HUBINFO n, LNn_HUBFW n]

/-- Waiting HUB_DISCOVER commands all of whose lanes have answered reply. -/
def discoverDone (s : Hw) : Hw :=
  s.finish (fun w => match w.kind with | .discover ls got _ => ls == got | _ => false) (fun _ => .ok)
    (fun w => match w.kind with | .discover ls _ _ => regBytes s ((bitsOf numLanes ls).flatMap discoverRegs) | _ => [])

/-- `s` with what the running path tests have counted for lane `n` changed (R299). -/
def Hw.onPath (s : Hw) (n : Nat) (f : PathCount → PathCount) : Hw :=
  let path := s.twin.path.map fun p =>
    if bitOf p.lanes n then { p with counts := smapSet {} p.counts n (f (smapGet {} p.counts n)) } else p
  { s with twin := { s.twin with path := path } }

/-- An IDENT (R247, R248); `body` is its 36 bytes. -/
def takeIdent (n : Nat) (body : List Byte) (s : Hw) : Hw :=
  let f := fun (o k : Nat) => beNat ((body.drop o).take k)
  let id := (f 0 2 * 65536 + f 2 2, f 4 8 % 2 ^ 32, f 4 8 / 2 ^ 32)
  let s := s.setReg (LNn_HUBFW n) (BitVec.ofNat 32 (f 12 4))
  let s := ((s.put (LNn_HUBINFO_HUB_PROC n) (f 17 2)).put (LNn_HUBINFO_UL_OFS n) (f 19 2)).put (LNn_HUBINFO_CREDIT_MAX n) (f 21 1)
  let s := s.onLane n fun l => { l with ident := some id }
  let s : Hw := match s.discovering n with
    | some h =>
      let t := ((s.setReg (LNn_HUBID0 n) (BitVec.ofNat 32 id.1)).setReg (LNn_HUBID1 n) (BitVec.ofNat 32 id.2.1)).setReg
        (LNn_HUBID2 n) (BitVec.ofNat 32 id.2.2)
      let t := if slotMapBad t n (f 22 12) then t.raise (LNn_HUBSTAT_SLOT_MAP n) else t
      let t := (t.logAll s.effectOf (logOrigin h.transport (s.roleOf h) h.port) h.session
        (regChgs s t [LNn_HUBID0 n, LNn_HUBID1 n, LNn_HUBID2 n])).raise STO_STAT_CHK_BUSY
      { t with cmd := { t.cmd with waiting := t.cmd.waiting.map fun w =>
          match w.kind with
          | .discover ls got k => if bitOf ls n then { w with kind := .discover ls (bitSet got n) k } else w
          | _ => w } }
    | none => s
  let sid := ((s.reg (LNn_HUBID0 n)).toNat, (s.reg (LNn_HUBID1 n)).toNat, (s.reg (LNn_HUBID2 n)).toNat)
  let s := if sid = id then s else s.raise (LNn_HUBSTAT_ID_MISMATCH n)
  let s := s.onPath n fun c => { c with idMatch := decide (sid = id ∧ id ≠ (0, 0, 0)) }
  discoverDone (shfStat (hubCheck n s))

/-- The reply to a waiting HUB_MSG: the message as it arrived (log entry 28). -/
def takeReply (n tag : Nat) (msg : List Byte) (s : Hw) : Hw :=
  s.finish (fun w => match w.kind with | .hubMsg l _ t _ => l == n && t == tag | _ => false) (fun _ => .ok) (fun _ => msg)

/-- BULK_MESSAGE_RECEIVE: the oldest complete message of a lane is taken. -/
def takeMessage (n : Nat) (s : Hw) : Hw :=
  if numLanes ≤ n then s
  else match (s.laneOf n).bulk.msgs with
    | [] => s
    | m :: ms =>
      let s := s.onBulk n fun b => { b with msgs := ms }
      let type := beNat (m.take 1)
      let tag := beNat ((m.drop 1).take 1)
      let body := (m.drop 4).take (beNat ((m.drop 2).take 2))
      if type = 0x81 then takeIdent n body s
      else if type = 0x82 then
        if beNat ((body.drop 1).take 1) = 0 then hubCheck n (s.onLane n fun l => { l with ackSeq := some (beNat (body.take 1)) })
        else s.raise (LNn_HUBSTAT_CFG_REFUSED n)
      else if 0x90 ≤ type then takeReply n tag m s
      else s

/-- HUB_REPLY_TIMEOUT: waits of 100 ms end (R246, R247). -/
def hubTimeout (s : Hw) : Hw :=
  s.finish (fun w => match w.kind with
      | .discover _ _ t => decide (t + 100 * ticksPerMs ≤ s.ticks)
      | .hubMsg _ _ _ t => decide (t + 100 * ticksPerMs ≤ s.ticks)
      | _ => false) (fun _ => .hubNoReply) (fun _ => [])

end Sys2Proof.Machine
end

