-- ==== Sys2Proof/Machine/Lanes.lean ====
section
/-! DEFINITION. Sheaf lanes: states, lock, delay measurement, electrical idle, and the lane commands (R203 to R224). -/

namespace Sys2Proof.Machine

/-! ### Lane states (Table SHL-6) -/

def Hw.setLane (s : Hw) (n st : Nat) : Hw := s.put (LNn_STAT_STATE n) st

/-- The lanes of a mask. -/
def lanesOf (mask : Nat) : List Nat := bitsOf numLanes mask

/-- A lane carries installed slots (R242). -/
def Hw.laneCarries (s : Hw) (n : Nat) : Bool :=
  let a := n / 8
  s.regs.any fun r => decide (VSQ_SLOTa_j a (96 * (n % 8)) ≤ r.1) && decide (r.1 ≤ VSQ_SLOTa_j a (96 * (n % 8) + 95)) && slotType r.2 != 0

/-- A lane counts as carrying payload frames for Table MOD-2 (R248). -/
def Hw.lanePays (s : Hw) (n : Nat) : Bool := s.laneState n == lnRun && s.flag (LNn_HUBSTAT_HUB_OK n)

/-- The state of a Granary lane (R279). DESIGN CHOICE (log entry 129): OFF without a twin, TRAIN until its receiver has locked, then RUN. -/
def Hw.granaryState (s : Hw) (n : Nat) : Nat := if !s.hasTwin then lnOff else if (s.laneOf n).grLock then lnRun else lnTrain

/-- The level that pad LN_TXDISn drives, and GR_TXDISn for lanes 48 and 49: `some false` low, `none` high-impedance (R204, R279, R326),
as every field output is while the stored configuration is not valid (R439). -/
def Hw.txDis (s : Hw) (n : Nat) : Option Bool :=
  if s.inReset || !s.ops.cfgValid || !s.shf.clock || s.flag ORY_MON_CORE_LOSS then none
  else if numLanes ≤ n then if s.granaryState n = lnOff then none else some false
  else if [lnTrain, lnMeasure, lnAlign, lnRun, lnIdleEntry, lnExit].contains (s.laneState n) then some false
  else if s.laneState n = lnIdle ∧ !s.flag (LNn_CFG_TXDIS_IDLE n) then some false
  else none

/-- Grid index of the launch point for the offset in force. -/
def Hw.launchGrid (s : Hw) : Nat := (s.liveGet SYS_TICKCFG_LAUNCH_OFS * 6144 + 999) / 1000

/-- A lane's COMP (R215). -/
def Hw.laneComp (s : Hw) (n : Nat) : Nat := match (s.laneOf n).comp with | some d => (4 * s.launchGrid + d) % 2 ^ 20 | none => 0

/-- The launch offset written comes into force on every lane, and COMP with it (R21, R216). -/
def launchTake (s : Hw) : Hw :=
  let s := (s.latch [SYS_TICKCFG]).put SYS_TICKCFG_LO_PEND 0
  s.each ((List.range numLanes).filter fun n => (s.laneOf n).comp.isSome) fun n s => s.put (LNn_COMP_COMP n) (s.laneComp n)

/-! ### Bring-up (R220) -/

/-- A named lane is still in its bring-up. -/
def Hw.inBringup (s : Hw) (n : Nat) : Bool := (s.laneOf n).since.isSome

/-- Waiting LANE_BRINGUP commands none of whose lanes is in bring-up reply. -/
def bringupDone (s : Hw) : Hw :=
  s.finish (fun w => match w.kind with | .bringup ls => (lanesOf ls).all fun n => !s.inBringup n | _ => false)
    (fun w => match w.kind with
      | .bringup ls => if (lanesOf ls).all fun n => s.laneState n == lnRun then .ok else .bringupFailed
      | _ => .ok) (fun _ => [])

/-- A lane starts bring-up at TRAIN. -/
def laneTrain (n : Nat) (s : Hw) : Hw :=
  let s := ((s.setLane n lnTrain).put (LNn_DLY_VALID n) 0).put (LNn_COMP_SLEWING n) 0
  s.onLane n fun l =>
    { l with samples := [], since := some (match l.since with | some t => t | none => s.ticks), retrain := false, exitAt := none,
             txAt := none, burstAt := none, idleSince := none, entryAt := none, idleAfter := false }

/-- A lane fails bring-up. -/
def laneFail (n : Nat) (s : Hw) : Hw :=
  let s := ((s.setLane n lnFail).put (LNn_COMP_SLEWING n) 0).raise (LNn_STAT_BRINGUP_FAIL n)
  bringupDone (shfStat (s.onLane n fun l => { l with since := none, comp := none, sent := .zero, burst := false }))

/-- A lane enters RUN. -/
def laneRun (n : Nat) (s : Hw) : Hw :=
  let s := hubConfigure n (s.setLane n lnRun)
  bringupDone (shfStat (s.onLane n fun l => { l with since := none }))

/-- A lane goes to OFF. -/
def laneOff (n : Nat) (s : Hw) : Hw :=
  let s := (s.setLane n lnOff).put (LNn_COMP_SLEWING n) 0
  bringupDone (shfStat (s.onLane n fun l =>
    { l with since := none, comp := none, sent := .zero, toOff := false, exitPend := false, exitAt := none, entryAt := none, up := false, offDue := false, burst := false }))

/-- R219: admitting lane `n` would spread the D of its arm too far. -/
def skewBad (n : Nat) (s : Hw) : Bool :=
  let ls := (List.range 8).map (8 * (n / 8) + ·)
  let ds := (ls.filter fun l => s.laneCarries l && (l == n || s.laneState l == lnRun)).map fun l => s.get (LNn_DLY_D l)
  s.laneCarries n && decide (147456 < ds.foldl max 0 - ds.foldl min (2 ^ 20))

/-- A lane takes the next state of its bring-up where its condition holds. -/
def laneAdvance (n : Nat) (s : Hw) : Hw :=
  let locked := s.flag (LNn_STAT_RX_LOCK n)
  let s := if s.laneState n = lnTrain ∧ locked then
      (s.setLane n lnMeasure).put (LNn_DLY_VALID n) 0 |>.onLane n fun l => { l with samples := [] }
    else s
  if s.laneState n = lnMeasure ∧ s.flag (LNn_DLY_VALID n) then
    let s := s.onLane n fun l => { l with comp := some (match l.comp with | some d => d | none => s.get (LNn_DLY_D n)) }
    (s.setLane n lnAlign).put (LNn_COMP_COMP n) (s.laneComp n)
  else if s.laneState n = lnAlign ∧ locked ∧ s.flag (LNn_STAT_HUB_ALIGNED n) ∧ s.flag (LNn_DLY_VALID n) then
    if skewBad n s then laneFail n ((s.raise (LNn_STAT_SKEW_FAIL n)).raiseBit SHL_DSTAT_SKEW_EXCEEDED (n / 8)) else laneRun n s
  else s

/-- The wait of LANE_BRINGUP and of R33 in ticks. -/
def Hw.bringupTmo (s : Hw) : Nat := s.get SHL_CTRL_BRINGUP_TMO * ticksPerMs

/-- Lanes whose bring-up has lasted longer than BRINGUP_TMO fail. -/
def bringupExpiry (s : Hw) : Hw :=
  s.each (List.range numLanes) fun n s =>
    match (s.laneOf n).since with
    | some t => if t + s.bringupTmo ≤ s.ticks then laneFail n s else s
    | none => s

/-! ### Lock (R212) -/

/-- A Sheaf lane's receiver loses lock, and a lane in RUN trains again by itself (R220). DESIGN CHOICE (log entry 127): this is no
lane bring-up at which a pending launch offset takes effect (R21). -/
def loseLock (n : Nat) (s : Hw) : Hw :=
  if s.flag (LNn_STAT_RX_LOCK n) then
    let s := (s.put (LNn_STAT_RX_LOCK n) 0).raise (LNn_STAT_LOL_SEEN n)
    let s := s.onLane n fun l => { l with good := 0, bad := 0, lastTick := none, bulk := l.bulk.restart }
    if [lnMeasure, lnAlign, lnRun].contains (s.laneState n) then shfStat (laneTrain n s) else s
  else s

/-- Loss of lock of any receiver: 48 and 49 are the Granary's. -/
def loseLockAny (n : Nat) (s : Hw) : Hw :=
  if n < numLanes then loseLock n s
  else if n < 50 then s.onLane n fun l => { l with grLock := false, good := 0, bad := 0, lastTick := none, bulk := l.bulk }
  else s

/-- LN_LOSn or GR_LOSn through its filter (R443): a level is accepted once it has held for LOS_FLT x 4 cycles. A high one loses lock. -/
def losNow (n : Nat) (s : Hw) : Hw :=
  let l := s.laneOf n
  if l.losRaw = l.los ∨ s.cycles < l.losAt + 4 * s.get SYS_IOCFG_LOS_FLT then s
  else
    let s := s.onLane n fun l => { l with los := l.losRaw }
    let s := if n < numLanes then s.putb (LNn_STAT_LOS n) l.losRaw else s
    if l.losRaw then loseLockAny n s else s

/-- The pin of lane `n` takes a level. -/
def losPin (n : Nat) (high : Bool) (s : Hw) : Hw :=
  let s := losNow n s
  if 50 ≤ n ∨ (s.laneOf n).losRaw = high then s else losNow n (s.onLane n fun l => { l with losRaw := high, losAt := s.cycles })

/-- The LOS pins of all lanes as their filters stand. -/
def losAll (s : Hw) : Hw := s.each ((s.shf.lanes.filter fun p => p.2.losRaw != p.2.los).map (·.1)) losNow

/-! ### Delay (R214, R216) -/

/-- Quarter UI in a timebase cycle. -/
def quartersPerCycle : Nat := 96

/-- The instant `q` quarter UI after the boundary of the tick in progress, on the timebase's count. -/
def Hw.quarters (s : Hw) (q : Int) : Int := (s.time.base * quartersPerCycle : Nat) + q

/-- A round-trip sample of a known round trip, and D where the average is full. -/
def takeRtt (n echo timing : Nat) (rtt : Int) (s : Hw) : Hw :=
  let s := (s.put (LNn_RTT_TAG n) echo).put (LNn_RTT_RTT n) (unsigned 24 rtt)
  let need := 2 ^ s.get SHL_CTRL_AVG_LOG2
  let s := s.onLane n fun l => { l with samples := ((rtt - timing) :: l.samples).take 256 }
  let xs := (s.laneOf n).samples.take need
  if xs.length < need then s
  else
    let sum := xs.foldl (· + ·) 0
    let d := (sum + need * s.geti (LNn_ASYM_ASYM n) + need) / (2 * need)
    if d < 0 ∨ 491520 < d then
      let s := s.raise (LNn_STAT_DLY_RANGE n)
      if s.inBringup n then laneFail n s else s
    else
      let jump := match (s.laneOf n).comp with | some c => decide (196 < (d - c).natAbs) | none => false
      let s := if jump then s.raise (LNn_STAT_DLY_JUMP n) else s
      shfStat ((s.put (LNn_DLY_VALID n) 1).put (LNn_DLY_D n) d.toNat)

/-- A round-trip sample: from the launch of the newest marker with the TICK echoed. `arr` is the arrival of the uplink marker in quarter UI
from the boundary of the tick in progress. -/
def delaySample (n echo timing : Nat) (arr : Int) (s : Hw) : Hw :=
  match (s.laneOf n).launched.find? fun p => p.1 == echo with
  | some (_, at_) => takeRtt n echo timing (s.quarters arr - at_) s
  | none => s

/-- COMP at a frame boundary (R216). -/
def compFrame (n : Nat) (s : Hw) : Hw :=
  match (s.laneOf n).comp with
  | none => s
  | some c =>
    if !s.flag (LNn_DLY_VALID n) then s.put (LNn_COMP_SLEWING n) 0
    else
      let d := s.get (LNn_DLY_D n)
      let c' := if s.cfgMode ∨ c = d then d else if c < d then c + 1 else c - 1
      let s := s.onLane n fun l => { l with comp := some c' }
      (s.put (LNn_COMP_COMP n) (s.laneComp n)).putb (LNn_COMP_SLEWING n) (c' != d)

/-! ### Electrical idle (R221 to R224) -/

/-- SYS_PEND of class LANE as the deferred exits stand. -/
def lanePend (s : Hw) : Hw :=
  let on := (List.range numLanes).any fun n => (s.laneOf n).exitPend
  s.put SYS_PEND_PENDING (if on then bitSet (s.get SYS_PEND_PENDING) 2 else bitClear (s.get SYS_PEND_PENDING) 2)

/-- The pending enable of class LANE is cancelled (R40): no named lane is in bring-up for it any longer. -/
def laneCancel (s : Hw) : Hw :=
  let s := s.each (List.range numLanes) fun n s => s.onLane n fun l =>
    if l.exitPend then { l with exitPend := false, since := none, retrain := false } else l
  bringupDone (lanePend s)

/-- The rest time of 2 ticks after an idle entry has elapsed (Table MOD-6). -/
def Hw.laneRested (s : Hw) (n : Nat) : Bool := match (s.laneOf n).idleSince with | some t => decide (t + 2 ≤ s.ticks) | none => true

/-- Idle exit of a lane (R222, R224): it begins at the launch point of tick count `at_`, or is deferred. -/
def laneExit (at_ n : Nat) (s : Hw) : Hw :=
  let st := s.laneState n
  if st = lnIdleEntry ∨ (st = lnIdle ∧ !s.laneRested n) then lanePend (s.onLane n fun l => { l with exitPend := true })
  else if st = lnIdle then s.onLane n fun l => { l with exitAt := some (l.exitAt.getD at_) }
  else s

/-- Every idle lane exits (R223). -/
def lanesExit (at_ : Nat) (s : Hw) : Hw :=
  s.each ((List.range numLanes).filter fun n => [lnIdle, lnIdleEntry].contains (s.laneState n)) (laneExit at_)

/-- Idle entry of a lane in RUN or EXIT. -/
def laneEnter (n : Nat) (s : Hw) : Hw :=
  if s.laneState n = lnRun then
    shfStat ((s.setLane n lnIdleEntry).onLane n fun l => { l with entryAt := some (s.ticks + 1) })
  else if s.laneState n = lnExit then
    bringupDone (s.onLane n fun l => { l with idleAfter := true, retrain := false, since := none })
  else s

/-- IDLE_ENTRY_COMPLETE of a lane: from the launch point of tick n + 3 it holds differential zero. -/
def entryDone (n : Nat) (s : Hw) : Hw :=
  match (s.laneOf n).entryAt with
  | some t =>
    if s.laneState n = lnIdleEntry ∧ t + 3 ≤ s.ticks then
      let off := (s.laneOf n).toOff
      let s := s.onLane n fun l => { l with entryAt := none, idleSince := some s.ticks, sent := .zero, burst := false }
      if off then lanePend (laneOff n s) else s.setLane n lnIdle
    else s
  | none => s

/-- REST_TIME_END of class LANE: deferred exits of rested lanes in IDLE begin at the next launch point. -/
def laneRestEnd (s : Hw) : Hw :=
  lanePend (s.each (List.range numLanes) fun n s =>
    if (s.laneOf n).exitPend ∧ s.laneState n = lnIdle ∧ s.laneRested n then
      s.onLane n fun l => { l with exitPend := false, exitAt := some s.ticks }
    else s)

/-- The marker that a lane sends. -/
def Hw.marker (s : Hw) (n kind : Nat) : Marker :=
  let st := s.laneState n
  let on := decide ([lnAlign, lnRun, lnIdleEntry, lnExit].contains st) && (s.laneOf n).comp.isSome
  { kind := kind, lane := n, tick := s.time.tickNo, dir := false, tv := on, aligned := on, path := s.strapTwinB,
    timing := if on then s.laneComp n else 0, echo := 0 }

/-- A marker's first sync bit leaves `ui` UI after the launch point. -/
def launchedAt (ui n : Nat) (s : Hw) : Hw :=
  let at_ := (s.quarters (4 * (s.launchGrid + ui) : Nat)).toNat
  s.onLane n fun l => { l with launched := ((s.time.tickNo % 256, at_) :: l.launched).take 256, fillFrom := none }

/-- A lane sends the burst and its four training markers, the last of which is the newest (R222, R224). -/
def sendBurst (n : Nat) (s : Hw) : Hw :=
  launchedAt (1024 + 3 * 128) n
    (s.onLane n fun l => { l with burst := false, burstAt := some s.ticks, sent := .training (s.marker n 1).bits })

/-- EXIT_BURST of a lane: the burst and its training markers (R222). -/
def exitBurst (n : Nat) (s : Hw) : Hw :=
  let l := s.laneOf n
  match l.txAt with
  | some t =>
    if s.laneState n = lnExit ∧ t + s.get (LNn_CFG_TXEN_LEAD n) ≤ s.ticks ∧ l.burstAt = none then sendBurst n s else s
  | none => s

/-! ### Launch (R20, R221, R222, R227, R228) -/

/-- NOAPPLY frames: the first ticks of the role under GAP_MODE = BOUNDED (Table TWN-6). -/
def Hw.noApply (s : Hw) : Bool := s.active && s.hasTwin && s.get TW_STAT_GAP_LEFT != 0

/-- The 64-bit downlink header (Table SHF-2). -/
def Hw.downHeader (s : Hw) : Nat :=
  let b := fun (x : Bool) (k : Nat) => if x then 2 ^ k else 0
  (if s.noApply then 2 else 1) * 2 ^ 60 + s.mode % 8 * 2 ^ 57 + b s.active 56 + b s.strapTwinB 55 + b s.time.tickStep 54 +
    s.liveGet SHF_CTRL_APPLY_OFS * 2 ^ 32 + max 1 (s.liveGet SHF_CTRL_CFG_SEQ) * 2 ^ 24

/-- Fields of `w` bits each, the first most significant. -/
def packFields (w : Nat) (vs : List Nat) : Nat := vs.foldl (fun n v => n * 2 ^ w + v % 2 ^ w) 0

/-- The downlink payload block of a lane (Table SHF-1). -/
def downBlock (s : Hw) (n : Nat) (bulk : Nat) : Nat :=
  let cmds := if s.noApply then 0 else packFields 4 (smapGet (List.replicate 96 cmdBlock) s.shf.cmds n)
  let trans := if s.noApply then 0 else packFields 24 (smapGet [0, 0, 0, 0] s.shf.trans n)
  blockOf ((((s.downHeader * 2 ^ 384 + cmds) * 2 ^ 96 + trans) * 2 ^ 512 + bulk) * 2 ^ 10176)

/-- A lane sends a marker of a kind with its payload block, its bulk sender taking its turn (R244). -/
def sendFrame (n kind : Nat) (s : Hw) : Hw :=
  let (b, cell) := (s.laneOf n).bulk.frame
  let block := downBlock s n (b.field cell)
  launchedAt 0 n (s.onLane n fun l => { l with bulk := b, sent := .payload (s.marker n kind).bits block, sentFirst := true })

/-- A lane at its launch point. A burst that a time step owes comes first (R224). -/
def laneLaunch (n : Nat) (s : Hw) : Hw :=
  let st := s.laneState n
  let l := s.laneOf n
  if st = lnOff ∨ st = lnFail then s
  else if st = lnIdle then
    match l.exitAt with
    | some t =>
      if t ≤ s.ticks then
        (s.setLane n lnExit).onLane n fun l => { l with exitAt := none, txAt := some s.ticks, burstAt := none, sent := .zero }
      else s
    | none => s
  else if l.burst then sendBurst n s
  else if st = lnExit then
    match l.burstAt with
    | some t =>
      if s.ticks ≤ t then s
      else
        let s := s.onLane n fun l => { l with txAt := none, burstAt := none, idleSince := none }
        if l.retrain then sendFrame n 0 (laneTrain n s)
        else
          let s := laneRun n s
          if l.idleAfter then
            sendFrame n 0 (shfStat ((s.setLane n lnIdleEntry).onLane n fun l => { l with idleAfter := false, entryAt := some s.ticks }))
          else sendFrame n 0 s
    | none => s
  else if st = lnIdleEntry then
    match l.entryAt with
    | some t => if s.ticks ≤ t then sendFrame n 0 s else if s.ticks ≤ t + 2 then sendFrame n 2 s
                else s.onLane n fun l => { l with sent := .zero }
    | none => s
  else sendFrame n 0 (if st = lnTrain then laneAdvance n s else s)

/-- A lane leaves electrical idle at the launch point of the tick in progress. -/
def Hw.laneLeavesIdle (s : Hw) (n : Nat) : Bool :=
  s.laneState n == lnIdle && (match (s.laneOf n).exitAt with | some t => decide (t ≤ s.ticks) | none => false)

/-- LAUNCH: every lane at the launch point of the tick. An exit from idle takes a pending launch offset, for all lanes at once (R21). -/
def launch (s : Hw) : Hw :=
  let s := losAll s
  let s := if s.shf.clock && (List.range numLanes).any s.laneLeavesIdle then shfStat (launchTake s) else s
  let s := s.atCyc (max s.time.cyc ((s.launchGrid * 512 + 12287) / 12288))
  if s.shf.clock then s.each (List.range numLanes) laneLaunch else s

/-- The lanes that a time step makes train again (R224). -/
def Hw.lanesStepped (s : Hw) : List Nat := (List.range numLanes).filter fun n => !([lnOff, lnFail, lnIdle].contains (s.laneState n))

/-- A time step ends the frame in progress with fill (R224): its UI at the present instant, from the lane's last launch. -/
def lanesCut (s : Hw) : Hw :=
  s.each s.lanesStepped fun n s =>
    match (s.laneOf n).launched with
    | (_, at_) :: _ => s.onLane n fun l => { l with fillFrom := some ((s.cycles * quartersPerCycle - at_) / 4) }
    | [] => s

/-- At the first launch point under the new time the burst is due (R224); frames that still arrive may bear numbers of the old time (R200). -/
def lanesStep (s : Hw) : Hw :=
  let s := s.each s.lanesStepped fun n s => s.onLane n fun l => { l with burst := true }
  s.each (List.range numLanes) fun n s => s.onLane n fun l => { l with oldNum := true }

/-! ### The line (R207, R208, R210, R222) -/

/-- Line bits from UI `k` on replaced by fill. -/
def cutBits (k : Nat) (bs : List Bool) : List Bool := bs.take k ++ fillBits (!((bs.take k).getLastD false)) (bs.length - k)

/-- The 12,288 bits of a frame before POL_TX; `none`: differential zero. The fill before a burst of training markers is part of
that frame. -/
def LaneFrame.bits : LaneFrame → Option (List Bool)
  | .zero => none
  | .training mk => (readMarker mk).map trainingBits
  | .payload mk block => (readMarker mk).map fun m => lineBits false m block

/-- The bits of a frame on the line, first UI first: cut to fill from UI `cut` on, and all inverted by POL_TX. -/
def LaneFrame.line (inv : Bool) (cut : Option Nat) (f : LaneFrame) : Option (List Bool) :=
  f.bits.map fun bs => ((match cut with | some k => cutBits k bs | none => bs)).map (· != inv)

/-- What lane `n` sends from the last launch point on: 12,288 UI. A Granary lane has no POL_TX. -/
def Hw.txLine (s : Hw) (n : Nat) : Option (List Bool) :=
  let l := s.laneOf n
  if s.inReset || !s.ops.cfgValid || !s.shf.clock then none else l.sent.line (decide (n < numLanes) && s.flag (LNn_CFG_POL_TX n)) l.fillFrom

/-- FRAME_RELEASE: the Sequencer's results reach the Sheaf controller by boundary 3 (R421): `bad` names the bundles
corrupted, 2 * lane + bundle. A failed bundle becomes Hold previous, and its transitions zero. -/
def releaseFrames (bad : List Nat) (s : Hw) : Hw :=
  let idle := fun n => s.laneState n == lnOff && !s.flag (LNn_CFG_EN n)
  let s := ({ s with shf := { s.shf with cmds := [], trans := [] } } : Hw).newMasks 3
  s.each (List.range numLanes) fun n s =>
    let due := s.injDue 3 (2 * n) || s.injDue 3 (2 * n + 1)
    if idle n && !due && !bad.any (fun i => i / 2 == n) then s
    else
      let a := n / 8
      let words := s.slotWords a
      let cmd := fun k => match words.find? fun p => p.1 == 96 * (n % 8) + k with
        | some p => if slotType p.2 = 0 then cmdBlock else slotState p.2
        | none => cmdBlock
      let trans := match (s.armOf a).timed with
        | some (j, t1, c, t2) =>
          if j / 96 = n % 8 then
            let t := fun ofs c => 2 ^ 23 + j % 96 * 2 ^ 16 + ofs * 2 ^ 7 + c * 2 ^ 3
            [t t1 c, t t2 cmdBypass, 0, 0]
          else [0, 0, 0, 0]
        | none => [0, 0, 0, 0]
      let (f0, s) := s.checkBundle 3 (2 * n) (bad.contains (2 * n))
      let (f1, s) := s.checkBundle 3 (2 * n + 1) (bad.contains (2 * n + 1))
      let cmds := (List.range 96).map fun k => if (if k < 64 then f0 else f1) then 4 else cmd k
      let trans := if f1 then [0, 0, 0, 0] else trans
      { s with shf := { s.shf with cmds := smapInsert s.shf.cmds n cmds, trans := smapInsert s.shf.trans n trans } }

/-! ### Register writes -/

/-- EN of a lane cleared (Table SHL-7): it leaves its bring-up, and goes to OFF after its idle entry or with the tick to which the write
belongs (R17, R220). -/
def laneDisable (n : Nat) (s : Hw) : Hw :=
  let st := s.laneState n
  let s := if st = lnRun then laneEnter n s else s
  let entry := st == lnRun || st == lnIdleEntry
  bringupDone (s.onLane n fun l =>
    { l with toOff := l.toOff || entry, offDue := l.offDue || !entry, exitPend := false, since := none, up := false })

/-- The lanes that a write of the tick that ends takes to OFF, before the bring-ups of the coming tick: one named since goes on. -/
def laneOffTick (s : Hw) : Hw :=
  s.each ((s.shf.lanes.filter fun p => p.2.offDue).map (·.1)) fun n s =>
    let l := s.laneOf n
    (laneOff n s).onLane n fun m => { m with since := if l.up then l.since else none, up := l.up }

/-- The ranges of Tables SHL-9 and SHL-10. -/
def laneCfgBad (n : Nat) (t : Hw) : Bool :=
  t.get (LNn_CFG_DEEMPH n) == 3 || t.get (LNn_CFG_SWING n) == 3 || outsideInt (-8192) 8191 (t.geti (LNn_ASYM_ASYM n))

/-- A change of EN or ASYM that the mode and the lane's state do not allow. -/
def laneModeBad (s t : Hw) (n : Nat) : Bool :=
  !s.cfgMode && (s.get (LNn_CFG_EN n) != t.get (LNn_CFG_EN n) ||
    (s.get (LNn_ASYM_ASYM n) != t.get (LNn_ASYM_ASYM n) && s.laneState n != lnOff))

/-- What follows from a change of a lane's configuration. -/
def laneConfigured (s t : Hw) (n : Nat) : Hw :=
  shfStat (if s.flag (LNn_CFG_EN n) && !t.flag (LNn_CFG_EN n) then lanePend (laneDisable n t) else t)

/-- Writes of SHL_CTRL and SHL_DSTAT, and of a lane's own registers (offsets +0x000 to +0x018). -/
def shlWrite (s : Hw) (w : Wr) : Judged :=
  let t := s.writeAs w
  if w.addr = SHL_CTRL then
    judge [(t.get SHL_CTRL_BRINGUP_TMO == 0 || decide (8 < t.get SHL_CTRL_AVG_LOG2), .range)] t
  else if w.addr = SHL_DSTAT then .ok t
  else
    let n := (w.addr - LNn_CFG 0) / 0x1000
    let cleared := fun (f : Fld) => w.touches f && w.was f == 1 && w.val f == 0
    if w.addr = LNn_STAT n then
      let t := if cleared (LNn_STAT_STUFF_ERR n) then t.put (LNn_ERRCNT_STUFF_CNT n) 0 else t
      .ok (if cleared (LNn_STAT_MK_CRC_ERR n) then t.put (LNn_ERRCNT_MK_CRC_CNT n) 0 else t)
    else judge [(laneModeBad s t n, .modeNotAllowed), (laneCfgBad n t, .range)] (laneConfigured s t n)

/-! ### Commands (Table SHL-7) -/

/-- A lane mask that names a lane the part does not have. -/
def maskBad (mask : Nat) : Bool := decide (2 ^ numLanes ≤ mask)

/-- 0x0720 LANE_STATUS_GET. -/
def execLaneStatusGet (h : Hdr) (mask : Nat) (s : State) : Host.Outcome State Fault Refusal :=
  .next (s.onHw (hostCmd (Op.plain 0x0720 .viewer) (.laneStatusGet h mask) h fun s =>
    checked s [(maskBad mask, .range)]
      (answer s (regBytes s (((lanesOf mask).flatMap fun n => [LNn_STAT n, LNn_DLY n, LNn_COMP n, LNn_RTT n, LNn_ERRCNT n]) ++
        [SHL_DSTAT])))))

/-- 0x0721 LANE_CFG_SET. -/
def execLaneCfgSet (h : Hdr) (lane cfg asym : Nat) (s : State) : Host.Outcome State Fault Refusal :=
  .next (s.onHw (hostCmd (Op.plain 0x0721 .engineer) (.laneCfgSet h lane cfg asym) h fun s =>
    let t := (s.setWord (LNn_CFG lane) cfg).setWord (LNn_ASYM lane) asym
    checked s [(decide (lane < numLanes) && laneModeBad s t lane, .modeNotAllowed),
      (decide (numLanes ≤ lane) || laneCfgBad lane t, .range)]
      (change (laneConfigured s t lane) (regChgs s t [LNn_CFG lane, LNn_ASYM lane]))))

/-- The state codes of the lanes of a mask, as the old and new value of a change. -/
def laneCodes (s : Hw) (mask : Nat) : Nat := ((lanesOf mask).map (s.laneState ·)).foldl (fun n c => (n * 16 + c) % 2 ^ 64) 0

/-- The lane is in electrical idle, on its way there or on its way out. -/
def Hw.laneInIdle (s : Hw) (n : Nat) : Bool := [lnIdle, lnIdleEntry, lnExit].contains (s.laneState n)

/-- LANE_BRINGUP names the lane: it is in bring-up from now on, and trains or exits from the coming tick (R17). -/
def bringupName (n : Nat) (s : Hw) : Hw := s.onLane n fun l => { l with since := some s.ticks, up := true }

/-- One named lane begins its bring-up in the tick to which the command belongs (R220, R224). -/
def bringupLane (n : Nat) (s : Hw) : Hw :=
  if s.laneInIdle n then laneExit (s.ticks + 1) n (s.onLane n fun l => { l with retrain := true, up := false })
  else laneTrain n (s.onLane n fun l => { l with up := false })

/-- The ends and the bring-ups that belong to the tick that begins. A pending launch offset comes into force where a lane trains (R21). -/
def bringupTick (s : Hw) : Hw :=
  let s := laneOffTick s
  let ls := (List.range numLanes).filter fun n => (s.laneOf n).up
  if ls.isEmpty then s
  else shfStat ((if ls.all s.laneInIdle then s else launchTake s).each ls bringupLane)

/-- 0x0722 LANE_BRINGUP: replies when every named lane has left its bring-up. -/
def execLaneBringup (h : Hdr) (mask : Nat) (s : State) : Host.Outcome State Fault Refusal :=
  .next (s.onHw (hostCmd (Op.plain 0x0722 .engineer) (.laneBringup h mask) h fun s =>
    checked s [(s.active && s.switching, .modeNotAllowed),
      (maskBad mask || (lanesOf mask).any fun n => !s.flag (LNn_CFG_EN n), .laneDisabled)]
      (let t := s.each (lanesOf mask) bringupName
       let log := cmdChg 0x0722 (laneCodes s mask) mask
       if mask = 0 then change t log else changeWait t log (.bringup mask))))

/-- 0x0723 LANE_IDLE_ENTER. -/
def execLaneIdleEnter (h : Hdr) (mask : Nat) (s : State) : Host.Outcome State Fault Refusal :=
  .next (s.onHw (hostCmd (Op.plain 0x0723 .operator) (.laneIdleEnter h mask) h fun s =>
    checked s [(!s.cfgMode, .modeNotAllowed),
      (maskBad mask || (lanesOf mask).any fun n => !([lnRun, lnExit].contains (s.laneState n)), .laneNotRun)]
      (change ((laneCancel s).each (lanesOf mask) laneEnter) (cmdChg 0x0723 (laneCodes s mask) mask))))

/-- 0x0724 LANE_IDLE_EXIT: deferred for lanes in idle entry or its rest time (R40). -/
def execLaneIdleExit (h : Hdr) (mask : Nat) (s : State) : Host.Outcome State Fault Refusal :=
  .next (s.onHw (hostCmd (Op.plain 0x0724 .operator) (.laneIdleExit h mask) h fun s =>
    let wait := (lanesOf mask).any fun n =>
      s.laneState n == lnIdleEntry || (s.laneState n == lnIdle && !s.laneRested n)
    checked s [(maskBad mask || (lanesOf mask).any fun n => !([lnIdle, lnIdleEntry].contains (s.laneState n)), .laneNotRun)]
      { hw := s.each (lanesOf mask) (laneExit (s.ticks + 2)), status := if wait then .enableDeferred else .ok,
        log := cmdChg 0x0724 (laneCodes s mask) mask }))

/-- 0x0725 SHL_CFG_SET. -/
def execShlCfgSet (h : Hdr) (ctrl : Nat) (s : State) : Host.Outcome State Fault Refusal :=
  .next (s.onHw (hostCmd (Op.plain 0x0725 .engineer) (.shlCfgSet h ctrl) h fun s =>
    let t := s.setWord SHL_CTRL ctrl
    checked s [(t.get SHL_CTRL_BRINGUP_TMO == 0 || decide (8 < t.get SHL_CTRL_AVG_LOG2), .range)]
      (change t (regChgs s t [SHL_CTRL]))))

/-! ### Events -/

/-- LAUNCH. -/
def execLaunch (s : State) : Host.Outcome State Fault Refusal := .next (s.onHw (onTick launch))

/-- LOSS_OF_LOCK of a lane's receiver. -/
def execLossOfLock (lane : Nat) (s : State) : Host.Outcome State Fault Refusal := .next (s.onHw (onRun (loseLockAny lane)))

/-- LOS_ASSERT: LN_LOSn or GR_LOSn changes its level. -/
def execLosAssert (lane : Nat) (high : Bool) (s : State) : Host.Outcome State Fault Refusal :=
  .next (s.onHw (onRun (losPin lane high)))

/-- IDLE_ENTRY_COMPLETE of a lane. -/
def execIdleEntryComplete (lane : Nat) (s : State) : Host.Outcome State Fault Refusal :=
  .next (s.onHw (onRun fun s => if lane < numLanes then entryDone lane s else s))

/-- EXIT_BURST of a lane. -/
def execExitBurst (lane : Nat) (s : State) : Host.Outcome State Fault Refusal :=
  .next (s.onHw (onRun fun s => if lane < numLanes then exitBurst lane s else s))

/-- BULK_RESEND of a lane. -/
def execBulkResend (lane : Nat) (s : State) : Host.Outcome State Fault Refusal := .next (s.onHw (onRun (bulkResend lane)))

/-- BULK_MESSAGE_RECEIVE of a lane. -/
def execBulkMessageReceive (lane : Nat) (s : State) : Host.Outcome State Fault Refusal :=
  .next (s.onHw (onRun (takeMessage lane)))

/-- HUB_REPLY_TIMEOUT. -/
def execHubReplyTimeout (s : State) : Host.Outcome State Fault Refusal := .next (s.onHw (onRun hubTimeout))

end Sys2Proof.Machine
end

