-- ==== Sys2Proof/Machine/Frames.lean ====
section
/-! DEFINITION. Uplink frames, loss of lanes, and the hub commands (R225 to R249, boundary 4 of Table INT-1). -/

namespace Sys2Proof.Machine

/-! ### Receiving (R211, R212, R242) -/

/-- A frame of a lane was not usable (R242). -/
def uplinkBad (n : Nat) (s : Hw) : Hw :=
  let s := (s.raise (LNn_HUBSTAT_UL_BAD n)).bump (LNn_ULCNT_UL_BAD_CNT n)
  s.onPath n fun c => { c with unusable := c.unusable + 1 }

/-- A bad marker: counted, and the fourth in succession loses lock. -/
def badMarker (n : Nat) (s : Hw) : Hw :=
  let s := (s.raise (LNn_STAT_MK_CRC_ERR n)).bump (LNn_ERRCNT_MK_CRC_CNT n)
  if s.flag (LNn_STAT_RX_LOCK n) then
    let s := uplinkBad n (s.onLane n fun l => { l with bad := l.bad + 1 })
    if 4 ≤ (s.laneOf n).bad then loseLock n s else s
  else s.onLane n fun l => { l with good := 0 }

/-- Lock after a good marker: the third at frame spacing, or the second of a training sequence. -/
def lockAfter (n : Nat) (spaced : Bool) (train : Nat) (s : Hw) : Hw :=
  if s.flag (LNn_STAT_RX_LOCK n) then s.onLane n fun l => { l with bad := 0 }
  else
    let s := s.onLane n fun l => { l with good := if spaced then l.good + 1 else 1 }
    if 3 ≤ (s.laneOf n).good ∨ 2 ≤ train then (s.raise (LNn_STAT_RX_LOCK n)).onLane n fun l => { l with good := 0, bad := 0 } else s

/-- Continuity of TICK with the last good marker, checked while locked on PAYLOAD and IDLE_ANNOUNCE markers. -/
def tickCheck (n : Nat) (m : Marker) (s : Hw) : Hw :=
  let jump := match (s.laneOf n).lastTick with | some t => decide (m.tick ≠ (t + 1) % 2 ^ 32) | none => false
  let s := if jump && s.flag (LNn_STAT_RX_LOCK n) && m.kind != 1 && m.kind != 3 then s.raise (LNn_STAT_TICK_JUMP n) else s
  -- frames bear numbers from before a time step until one bears a number of the new time that the old time did not reach, or that breaks
  -- their succession (log entry 146)
  let beyond := decide (0 < signed 32 (m.tick + 2 ^ 32 - s.vsq.lastOld))
  let new := (jump || beyond || (s.laneOf n).lastTick.isNone) && decide (s.ageOf m.tick ≤ s.ticks - s.vsq.stepAt)
  s.onLane n fun l => { l with lastTick := some m.tick, oldNum := l.oldNum && !new }

/-- The 96 slot reports of an uplink block. -/
def reports (block : Nat) : List Nat := (List.range 96).map fun k => blockField block (64 + 48 * k) 48

/-- A usable frame's reports enter the uplink area of Exchange RAM and, where every bundle checks, the arm-set search
(R17, R184, R200, R421). A failed bundle of 5 reports leaves the last good ones in the area. -/
def takeReports (n tick : Nat) (rs : List Nat) (bad : List Nat) (s : Hw) : Hw :=
  let a := n / 8
  let j0 := 96 * (n % 8)
  let (failed, s) := (List.range 20).foldl (fun (p : List Nat × Hw) b =>
    let (f, s) := p.2.checkBundle 4 (20 * n + b) (bad.contains b)
    (if f then b :: p.1 else p.1, s)) (([] : List Nat), s)
  let put := fun (x : SMap Nat) (p : Nat × Nat) =>
    if failed.contains (p.2 / 5) then x
    else
      let w := uplinkWord (768 * a + j0 + p.2)
      smapSet 0 (smapSet 0 (smapSet 0 x w (p.1 % 65536)) (w + 1) (p.1 / 65536 % 65536)) (w + 2) (p.1 / 2 ^ 32)
  let s := { s with xarr := rs.zipIdx.foldl put s.xarr }
  let s := if failed.isEmpty then s else { s with vsq := { s.vsq with subIn := bitSet s.vsq.subIn a } }
  if failed.isEmpty && !(s.laneOf n).oldNum then
    let k : Kept := { tick := tick, arrived := s.ticks, reports := rs }
    -- 8 frames from before the tick in progress stay beside those that came in it (R184)
    let old := smapGet [] s.vsq.kept n
    let now := old.filter fun k => k.arrived == s.ticks
    let ks := k :: now ++ (old.filter fun k => k.arrived != s.ticks).take 8
    { s with vsq := { s.vsq with kept := smapSet [] s.vsq.kept n ks } }
  else s

/-- The uplink header (Table SHF-6) of a usable frame. -/
def takeHeader (n hd : Nat) (s : Hw) : Hw :=
  let f := fun (hi lo : Nat) => hd / 2 ^ lo % 2 ^ (hi + 1 - lo)
  let s := s.onLane n fun l => { l with usable := some s.ticks, header := hd }
  let s := (((s.put (LNn_HUBSTAT_HUB_FALLBACK n) (f 57 57)).put (LNn_HUBSTAT_OBEYED n) (f 59 58)).put
    (LNn_HUBSTAT_HUB_CFG_SEQ n) (f 55 48)).put (LNn_HUBSTAT_HUB_LOSS n) (f 47 40)
  let s := if f 57 57 = 1 then s.raise (LNn_HUBSTAT_FALLBACK_SEEN n) else s
  let s := if f 39 39 = 1 then s.raise (LNn_HUBSTAT_TR_REJ_SEEN n) else s
  let peer := if s.strapTwinB then 1 else 2
  let lock := if s.strapTwinB then f 37 37 else f 38 38
  let s := s.onPath n fun c =>
    { c with usable := c.usable + 1, obeyedBad := c.obeyedBad + (if f 59 58 = peer then 0 else 1),
             lockGaps := c.lockGaps + (if lock = 1 then 0 else 1) }
  hubCheck n s

/-- UPLINK_FRAME_RECEIVE: a frame position of lane `n` ends; a Reeve ignores it (R278). A frame whose marker gives lock is used
(R212). `marker` are the 128 bits received as its marker, `spaced` says that it lies 12,288 UI after the one before, `train` counts
the good training markers that follow one another in it, `line` are the bits after the marker, `arr` is the marker's arrival in
quarter UI from the boundary of the tick in progress, `bad` names the bundles of boundary 4 corrupted after their check code was
formed. -/
def uplinkReceive (n : Nat) (spaced : Bool) (train marker : Nat) (line : List Bool) (arr : Int) (bad : List Nat) (s : Hw) : Hw :=
  let s := losNow n s
  if numLanes ≤ n ∨ s.strapReeve ∨ s.flag (LNn_STAT_LOS n) then s
  else
    let inv := s.flag (LNn_CFG_POL_RX n)
    let bits := if inv then 2 ^ 128 - 1 - marker % 2 ^ 128 else marker % 2 ^ 128
    let line := if inv then line.map (!·) else line
    match readMarker bits with
    | none => badMarker n s
    | some m =>
      let s := lockAfter n spaced (if m.kind = 1 then train else 0) (tickCheck n m s)
      if m.lane ≠ n ∨ m.path ≠ s.strapTwinB then
        let s := s.raise (LNn_STAT_WIRING n)
        if s.flag (LNn_STAT_RX_LOCK n) then uplinkBad n s else s
      else
        let s := (s.putb (LNn_STAT_HUB_TV n) m.tv).putb (LNn_STAT_HUB_ALIGNED n) m.aligned
        let s := if m.tv && s.flag (LNn_STAT_RX_LOCK n) then delaySample n m.echo m.timing arr s else s
        let s := laneAdvance n s
        if !s.flag (LNn_STAT_RX_LOCK n) || m.kind == 1 then s
        else if m.kind == 3 then uplinkBad n s
        else match readBlock bits m line with
          | none => uplinkBad n ((s.raise (LNn_STAT_STUFF_ERR n)).bump (LNn_ERRCNT_STUFF_CNT n))
          | some block =>
            if !blockOk block || blockField block 0 4 != 1 then uplinkBad n s
            else
              let s := takeReports n m.tick (reports block) bad (takeHeader n (blockField block 0 64) s)
              s.onBulk n fun b => b.receive (blockField block 4672 512)

/-! ### Loss of lanes (R242) -/

/-- A lane meets one of the three conditions of R242. -/
def Hw.laneLost (s : Hw) (n : Nat) : Bool :=
  s.flag (LNn_CFG_EN n) && s.laneCarries n &&
    (s.laneState n != lnRun || s.flag (LNn_HUBSTAT_HUB_FALLBACK n) ||
      decide ((s.laneOf n).usable.getD 0 + 1 + s.get SHF_TOL_LANE_TOL ≤ s.ticks))

/-- The lanes that meet it. -/
def Hw.lostLanes (s : Hw) : List Nat := (List.range numLanes).filter s.laneLost

/-- LANE_BAD: the conditions of R242 whatever the role (Table TWN-3). -/
def Hw.laneBad (s : Hw) : Bool := s.switching && !s.lostLanes.isEmpty

/-- The cause LANE and its registers in the tick in progress. -/
def lanesLost (s : Hw) : Hw :=
  let ls := if s.active && s.switching then s.lostLanes else []
  let old := s.get SHF_LOSTL_LOST + 2 ^ 32 * s.get SHF_LOSTH_LOST
  let s := ls.foldl (fun s n =>
    let s := if s.flag (LNn_HUBSTAT_LANE_LOST n) then s else s.trgEvent 5
    s.raise (LNn_HUBSTAT_LANE_LOST n)) s
  let m := maskOf ls
  let s := if m = old then s else (s.put SHF_LOSTL_LOST (m % 2 ^ 32)).put SHF_LOSTH_LOST (m / 2 ^ 32)
  let s := s.causeActive cLane (!ls.isEmpty)
  if ls.isEmpty then s else s.tripNow cLane

/-- Frame boundary: COMP of every lane (R216). -/
def lanesFrame (s : Hw) : Hw := s.each ((List.range numLanes).filter fun n => (s.laneOf n).comp.isSome) compFrame

/-! ### Register writes -/

/-- The ranges of Tables SHF-14 and SHF-15. -/
def shfRangeBad (t : Hw) : Bool :=
  outside 768 12800 (t.get SHF_CTRL_APPLY_OFS) || outside 2 64 (t.get SHF_TOL_LANE_TOL) || outside 2 64 (t.get SHF_TOL_HUB_L)

/-- The checks of SHF_CTRL and SHF_TOL, and what follows from a change; `ofs` says that APPLY_OFS is among what is written. -/
def shfSet (ofs : Bool) (s t : Hw) : List (Bool × Status) × Hw :=
  let lowBad := ofs && decide (t.get SHF_CTRL_APPLY_OFS < t.get SHF_STAT_APPLY_MIN)
  ([(!s.cfgMode, .modeNotAllowed), (shfRangeBad t, .range), (lowBad, .applyLow)],
   shfStat (if s.get SHF_TOL_HUB_L = t.get SHF_TOL_HUB_L then t else newGeneration t))

/-- Writes of the SHF registers and of a lane's hub registers (offsets +0x100 to +0x130). -/
def shfWrite (s : Hw) (w : Wr) : Judged :=
  let t := s.writeAs w
  if w.addr = SHF_CTRL ∨ w.addr = SHF_TOL then let (cs, t) := shfSet (w.touches SHF_CTRL_APPLY_OFS) s t; judge cs t
  else if w.addr < LNn_CFG 0 then .ok t
  else
    let n := (w.addr - LNn_CFG 0) / 0x1000
    let cleared := fun (f : Fld) => w.touches f && w.was f == 1 && w.val f == 0
    if w.addr = LNn_HUBSTAT n then
      let t := if cleared (LNn_HUBSTAT_UL_BAD n) then t.put (LNn_ULCNT_UL_BAD_CNT n) 0 else t
      .ok (if cleared (LNn_HUBSTAT_BULK_RETX n) then t.put (LNn_ULCNT_BULK_RETX_CNT n) 0 else t)
    else if LNn_FBk n 0 ≤ w.addr ∧ w.addr ≤ LNn_FBk n 2 then
      judge [(!s.cfgMode, .modeNotAllowed)] (if w.old = w.new then t else newGeneration t)
    else .ok (hubCheck n t)

/-! ### Commands (Table SHF-12) -/

/-- 0x0740 SHF_STATUS_GET. -/
def execShfStatusGet (h : Hdr) (mask : Nat) (s : State) : Host.Outcome State Fault Refusal :=
  .next (s.onHw (hostCmd (Op.plain 0x0740 .viewer) (.shfStatusGet h mask) h fun s =>
    checked s [(maskBad mask, .range)]
      (answer s (regBytes s ([SHF_CTRL, SHF_TOL, SHF_STAT, SHF_LOSTL, SHF_LOSTH] ++
        (lanesOf mask).flatMap fun n => [LNn_HUBSTAT n, LNn_ULCNT n])))))

/-- 0x0741 SHF_CFG_SET. -/
def execShfCfgSet (h : Hdr) (ctrl tol : Nat) (s : State) : Host.Outcome State Fault Refusal :=
  .next (s.onHw (hostCmd (Op.plain 0x0741 .engineer) (.shfCfgSet h ctrl tol) h fun s =>
    let (cs, t) := shfSet true s ((s.setWord SHF_CTRL ctrl).setWord SHF_TOL tol)
    checked s cs (change t (regChgs s t [SHF_CTRL, SHF_TOL]))))

/-- 0x0742 HUB_DISCOVER: IDENT_REQ on every named lane; replies when all have answered, or after 100 ms. -/
def execHubDiscover (h : Hdr) (mask : Nat) (s : State) : Host.Outcome State Fault Refusal :=
  .next (s.onHw (hostCmd (Op.plain 0x0742 .engineer) (.hubDiscover h mask) h fun s =>
    checked s [(s.mode != mCommission, .modeNotAllowed),
      (maskBad mask || (lanesOf mask).any fun n => s.laneState n != lnRun, .laneNotRun)]
      (if mask = 0 then answer s []
       else changeWait (s.each (lanesOf mask) fun n s => ownMessage n 0x01 [] s) (cmdChg 0x0742 0 mask) (.discover mask 0 s.ticks))))

/-- 0x0743 HUB_FALLBACK_SET. -/
def execHubFallbackSet (h : Hdr) (lane fb0 fb1 fb2 : Nat) (s : State) : Host.Outcome State Fault Refusal :=
  .next (s.onHw (hostCmd (Op.plain 0x0743 .engineer) (.hubFallbackSet h lane fb0 fb1 fb2) h fun s =>
    let as := [LNn_FBk lane 0, LNn_FBk lane 1, LNn_FBk lane 2]
    let t := (as.zip [fb0, fb1, fb2]).foldl (fun s p => s.setWord p.1 p.2) s
    let t := if s.fallback lane = t.fallback lane then t else newGeneration t
    checked s [(!s.cfgMode, .modeNotAllowed), (decide (numLanes ≤ lane), .range)]
      (change t (regChgs s t (as ++ [SHF_CTRL])))))

/-- A HUB_MSG to the lane waits already. -/
def Hw.hubMsgWaits (s : Hw) (lane : Nat) : Bool :=
  s.cmd.waiting.any fun w => match w.kind with | .hubMsg l _ _ _ => l == lane | _ => false

/-- 0x0744 HUB_MSG: replies with the hub's reply of the same TAG, or after 100 ms. -/
def execHubMsg (h : Hdr) (lane mtype tag : Nat) (body : List Byte) (s : State) : Host.Outcome State Fault Refusal :=
  .next (s.onHw (hostCmd (Op.plain 0x0744 .service) (.hubMsg h lane mtype tag body) h fun s =>
    checked s [(decide (numLanes ≤ lane) || outside 0x10 0x7F mtype || decide (4092 < body.length), .range),
      (s.laneState lane != lnRun, .laneNotRun), (s.hubMsgWaits lane, .bulkBusy)]
      (changeWait (bulkSend lane (mkMessage mtype tag body) s) (digestChg 0x0744 [] (mkMessage mtype tag body))
        (.hubMsg lane mtype tag s.ticks))))

/-! ### Events -/

/-- UPLINK_FRAME_RECEIVE. -/
def execUplinkFrameReceive (lane : Nat) (spaced : Bool) (train marker : Nat) (line : List Bool) (arr : Int) (bad : List Nat)
    (s : State) : Host.Outcome State Fault Refusal :=
  .next (s.onHw (onRun (uplinkReceive lane spaced train marker line arr bad)))

/-- UPLINK_LOSS_TOL: the conditions of R242 judged in the tick in progress, as every tick boundary does. -/
def execUplinkLossTol (lane : Nat) (s : State) : Host.Outcome State Fault Refusal :=
  .next (s.onHw (onRun fun s => if s.laneLost lane then lanesLost s else s))

end Sys2Proof.Machine
end

