-- ==== Sys2Proof/Machine/FastCh.lean ====
section
/-! DEFINITION. Fast channels and their spares (03_fast_channels.md, R45 to R58). -/

namespace Sys2Proof.Machine

/-- A change of the fast-channel state. -/
def Hw.onFch (s : Hw) (f : FchSt → FchSt) : Hw := { s with fch := f s.fch }

/-- The spare of a bank. -/
def Hw.spareOf (s : Hw) (n : Nat) : SpareSt := smapGet {} s.fch.spare n

/-- A change of the spare of a bank. -/
def Hw.onSpare (s : Hw) (n : Nat) (f : SpareSt → SpareSt) : Hw :=
  s.onFch fun c => { c with spare := smapSet {} c.spare n (f (smapGet {} c.spare n)) }

/-- Every channel delivers 0x0000 marked substituted (R47, R51). -/
def Hw.fchBlank (s : Hw) : Bool := s.flag FCH_CTRL_CAL_BUSY || s.fch.settle.isSome

/-- R50: the corrected value of a code, and whether it saturated. -/
def correctSample (x ofs gain : Int) : Int × Bool :=
  let p := ((x - ofs) * gain + 8192) / 16384
  (satInt 16 p, decide (satInt 16 p ≠ p))

/-- R53: the new gain and offset of a dwell, or `none` where the step limit rejects them. DESIGN CHOICE (log entry 132): a dwell with
no compared strobe, for which the fit divides by 0, is rejected too. -/
def dwellFit (t : DwellSums) (ofs gain : Int) : Option (Int × Int) :=
  let n : Int := t.n
  let den := n * t.sss - t.ss * t.ss
  let num := n * t.ssm - t.ss * t.sm
  let new : Option (Int × Int) :=
    if t.n = 0 then none
    else if n * n * 65536 ≤ den then
      if num ≤ 0 then none
      else some (roundDiv (t.sm * den - num * t.ss) (n * den), roundDiv (16384 * den) num)
    else if gain = 0 then none
    else some (roundDiv (t.sm * gain - t.ss * 16384) (n * gain), gain)
  new.bind fun p => if (p.1 - ofs).natAbs ≤ 8 ∧ (p.2 - gain).natAbs ≤ 16 then some p else none

/-! ### A strobe -/

/-- Timebase cycles from the base instant to the next strobe: the first at which Almanac time has reached the next multiple of 125 ns
(R48). Between a time step and the boundary after it, these are the multiples under the new time (R49). -/
def Hw.strobeCyc (s : Hw) : Nat :=
  let t := s.time.baseUnits
  let u := 125 * 2 ^ 32
  let target :=
    if s.time.gapTo.isSome then ((t + s.time.cyc * s.inc) / u + 1) * u
    else t / tickUnits * tickUnits + s.fch.strobe * u
  if s.inc = 0 ∨ s.time.clockLost then 32 * s.fch.strobe else (target - t + s.inc - 1) / s.inc

/-- The nominal instant of the strobe at the present instant. -/
def Hw.strobeNow (s : Hw) : Nat := if s.time.gapTo.isSome then s.nowQ / 500 * 500 else s.strobeQ s.fch.strobe

/-- R48, R56: a strobe begins. A substitution requested before it moves its spare. DESIGN CHOICE (log entry 136): strobes of a
lengthened tick after its sixteenth all count as number 15. -/
def fchStrobe (s : Hw) : Hw :=
  let now := s.strobeNow
  let s := s.onFch fun c => { c with strobe := min 16 (c.strobe + 1), at_ := now, strobes := c.strobes + 1, ready := 0, lost := 0, sat := 0, handed := 0, raw := [],
                                     cor := [], spareCor := [] }
  s.each [0, 1] fun n s =>
    let p := s.spareOf n
    match p.req with
    | some (k, _, made) =>
      if made < s.fch.strobes then
        (s.onSpare n fun p => { p with req := none, job := 3, strobes := 0, conv := 0, run := 0, sums := {} }).put
          (FCH_SPAREn_CUR_CH n) k
      else s
    | none => s.onSpare n fun p => { p with strobes := p.strobes + 1 }

/-- The bank channel whose main result a spare is compared with at this strobe (R54, R58), if any: with PLAUS, the one it samples. -/
def Hw.spareChannel (s : Hw) (n : Nat) : Option Nat :=
  let p := s.spareOf n
  if p.job = 1 then some (s.get (FCH_SPAREn_CUR_CH n))
  else if p.job = 2 ∧ 3 ≤ p.seg ∧ 4 < p.strobes then some (p.seg - 3)
  else if p.job = 3 ∧ s.flag (FCH_SPAREn_SUBST_ACTIVE n) then some (s.get (FCH_SPAREn_CUR_CH n))
  else none

/-- R53, R54: main and spare of a bank have both finished the strobe. DESIGN CHOICE (log entry 133): the run of far strobes starts again
after a failure, and a strobe without one of the two results leaves it as it is. -/
def spareCompare (n : Nat) (s : Hw) : Hw :=
  match s.spareChannel n with
  | none => s
  | some k =>
    let c := 16 * n + k
    if bitOf s.fch.ready (32 + n) ∧ bitOf s.fch.ready c ∧ !bitOf s.fch.lost c ∧ !bitOf s.fch.lost (32 + n) then
      let m := smapGet 0 s.fch.cor c
      let r := smapGet 0 s.fch.raw c
      let y := smapGet 0 s.fch.spareCor n
      let far := decide (s.get FCH_PLTHR_PL_THR < (m - y).natAbs)
      let p := s.spareOf n
      let run := if far then p.run + 1 else 0
      let hit := decide (s.get (FCH_SPAREn_PL_COUNT n) ≤ run)
      let sums : DwellSums :=
        if p.job = 2 then ⟨p.sums.n + 1, p.sums.ss + y, p.sums.sm + r, p.sums.sss + y * y, p.sums.ssm + y * r⟩ else p.sums
      let s := s.onSpare n fun p =>
        { p with run := if hit then 0 else run, sums := sums, good := if hit && p.job == 3 then s.ticks else p.good }
      if hit && p.job != 3 then (s.raiseBit FCH_PLFAIL_PLFAIL c).trgEvent 0 else s
    else s

/-- The converters whose results a bank's bundle waits for. -/
def Hw.bankReady (s : Hw) (n : Nat) : Bool :=
  (List.range 16).all (fun k => bitOf s.fch.ready (16 * n + k)) &&
  (!s.flag (FCH_SPAREn_SUBST_ACTIVE n) || bitOf s.fch.ready (32 + n))

/-- The sample that channel `c` delivers for the strobe in progress (R47, R51, R55, R56). -/
def Hw.chanSample (s : Hw) (c : Nat) : Samp :=
  let n := c / 16
  let hold : Samp := ⟨smapGet 0 s.fch.good c, true⟩
  if s.fchBlank then ⟨0, true⟩
  else if s.flag (FCH_SPAREn_SUBST_ACTIVE n) ∧ s.get (FCH_SPAREn_CUR_CH n) = c % 16 then
    if bitOf s.fch.lost (32 + n) then hold else ⟨smapGet 0 s.fch.spareCor n, false⟩
  else if bitOf s.fch.lost c then hold
  else ⟨smapGet 0 s.fch.cor c, false⟩

/-- The converter that delivers channel `c`: its own, or the spare of its bank (32, 33). -/
def Hw.convOf (s : Hw) (c : Nat) : Nat :=
  if s.flag (FCH_SPAREn_SUBST_ACTIVE (c / 16)) ∧ s.get (FCH_SPAREn_CUR_CH (c / 16)) = c % 16 then 32 + c / 16 else c

/-- The newest sample of a channel's history (R67). -/
def Hw.newest (s : Hw) (c : Nat) : Samp := (smapGet [] s.sieve.hist c).headD noSamp

/-- Boundary 0 (Table INT-1): the bundle of bank `n` is handed to its Sieve engine. A failed check replaces it by the
previous strobe's words, all marked (R421). -/
def bankHandOver (n : Nat) (bad : Bool) (s : Hw) : Hw :=
  if !s.bankReady n ∨ bitOf s.fch.handed n then s
  else
    let (fail, s) := if s.fch.strobe = 1 then s.checkBundle 0 n bad
      else (bad, if bad then s.mismatch 0 false true else s)
    let s := s.onFch fun c => { c with handed := bitSet c.handed n }
    let s := { s with sieve := { s.sieve with taken := smapSet 0 s.sieve.taken n (smapGet 0 s.sieve.taken n + 1) } }
    let s := if s.fch.handed = 3 then s.chrNews 0 s.fch.at_ else s
    s.each ((List.range 16).map (16 * n + ·)) fun c s =>
      let v := s.chanSample c
      let out : Samp := if fail then ⟨(s.newest c).val, true⟩ else v
      let sat := if fail || v.sub then bitOf s.fch.outSat c && !s.fchBlank else bitOf s.fch.sat (s.convOf c)
      let s := s.onFch fun f =>
        { f with out := smapSet noSamp f.out c out, good := if v.sub then f.good else smapSet 0 f.good c v.val,
                 outSat := if sat then bitSet f.outSat c else bitClear f.outSat c }
      { s with sieve := { s.sieve with hist := smapSet [] s.sieve.hist c ((out :: smapGet [] s.sieve.hist c).take 144) } }

/-- R45, R50: converter `c` (0 to 31 main, 32 and 33 spares) delivers the code of the strobe. `code` is
V_d * 32768 / V_REF before saturation, whose saturation marks the channel that the converter delivers; `bad` says that the bundle it completes is corrupted on the way (R421). -/
def conversionDone (c : Nat) (code : Int) (bad : Bool) (s : Hw) : Hw :=
  if 34 ≤ c ∨ s.fch.strobes = 0 ∨ bitOf s.fch.ready c then s
  else
    let x := satInt 16 code
    let ready : Bool → FchSt → FchSt := fun sat f => { f with ready := bitSet f.ready c, sat := if sat then bitSet f.sat c else f.sat }
    if c < 32 then
      let (y, sat) := correctSample x (s.liveInt (FCH_CALn_OFS c)) (s.liveGet (FCH_CALn_GAIN c))
      let s := if sat || decide (x ≠ code) then s.raiseBit FCH_OVRNG_OVRNG c else s
      let s := s.onFch fun f => ready (sat || decide (x ≠ code)) { f with raw := smapSet 0 f.raw c x, cor := smapSet 0 f.cor c y }
      bankHandOver (c / 16) bad (spareCompare (c / 16) s)
    else
      let n := c - 32
      let p := s.spareOf n
      let (y, sat) := correctSample x p.ofs p.gain
      let s := if (sat || decide (x ≠ code)) && s.flag (FCH_SPAREn_SUBST_ACTIVE n)
        then s.raiseBit FCH_OVRNG_OVRNG (16 * n + s.get (FCH_SPAREn_CUR_CH n)) else s
      let s := s.onFch fun f => ready (sat || decide (x ≠ code)) { f with spareCor := smapSet 0 f.spareCor n y }
      let s :=
        if p.job = 3 then
          let s := s.onSpare n fun p => { p with conv := min 4 (p.conv + 1) }
          if 3 ≤ p.conv then s.put (FCH_SPAREn_TRACKED n) 1 else s
        else s
      bankHandOver n bad (spareCompare n s)

/-- R57: a conversion fault of bank channel `k` asks for the spare of bank `n`; of several faults at one strobe the lowest
channel gets it. The fault shows 125 ns after its strobe, so that the request is one made at the next (R55, R56). -/
def autoSubst (n k : Nat) (s : Hw) : Hw :=
  let p := s.spareOf n
  let on := if n = 0 then s.flag FCH_CTRL_AUTO_SUB0 else s.flag FCH_CTRL_AUTO_SUB1
  if on && !s.flag (FCH_SPAREn_SPARE_FLT n) && p.job != 3 then
    match p.req with
    | none => s.onSpare n fun p => { p with req := some (k, true, s.fch.strobes + 1) }
    | some (j, true, t) => if t = s.fch.strobes + 1 ∧ k < j then s.onSpare n fun p => { p with req := some (k, true, t) } else s
    | some _ => s
  else s

/-- R55: the corrected result of converter `c` is not ready 125 ns after its strobe. DESIGN CHOICE (log entry 134): a fault of the spare
drops a substitution that still waits for its strobe, and a waiting SPARE_SUBST is answered with CONV_FAILED. -/
def conversionFault (c : Nat) (bad : Bool) (s : Hw) : Hw :=
  if 34 ≤ c ∨ s.fch.strobes = 0 ∨ bitOf s.fch.ready c then s
  else
    let s := s.onFch fun f => { f with ready := bitSet f.ready c, lost := bitSet f.lost c }
    if c < 32 then
      let n := c / 16
      let s := s.raiseBit FCH_CONVFLT_CONV_FAULT c
      let s := if s.get (FCH_SPAREn_CUR_CH n) = c % 16 then s.onSpare n fun p => { p with good := s.ticks } else s
      bankHandOver n bad (autoSubst n (c % 16) s)
    else
      let n := c - 32
      let p := s.spareOf n
      let s :=
        if p.job = 3 then s.onSpare n fun p => { p with conv := 0 }
        else ((s.put (FCH_SPAREn_SPARE_FLT n) 1).onSpare n fun p => { p with job := 0, req := none, sums := {} }).finishKind (.spareSubst n) .convFailed
      bankHandOver n bad s

/-! ### Tick and frame boundaries -/

/-- R56, R58: substitutions and releases that take effect at the control sample of the tick that begins. A waiting
SPARE_SUBST is answered with the tick number. -/
def fchTick (s : Hw) : Hw :=
  let s := s.onFch fun c => { c with strobe := 0 }
  let s := { s with sieve := { s.sieve with taken := [] } }
  s.each [0, 1] fun n s =>
    let p := s.spareOf n
    if p.release then
      let c := 16 * n + s.get (FCH_SPAREn_CUR_CH n)
      let s := ((s.put (FCH_SPAREn_SUBST_ACTIVE n) 0).put (FCH_SPAREn_TRACKED n) 0).clearBit FCH_CONVFLT_CONV_FAULT c
      let job := s.liveGet (FCH_SPAREn_SPARE_MODE n)
      (s.put (FCH_SPAREn_CUR_CH n) (if job = 1 then s.liveGet (FCH_SPAREn_PL_CH n) else 0)).onSpare n fun p =>
        { p with release := false, job := job, seg := 0, frames := 0, strobes := 0, run := 0, sums := {} }
    else if p.job = 3 ∧ s.flag (FCH_SPAREn_TRACKED n) ∧ !s.flag (FCH_SPAREn_SUBST_ACTIVE n) then
      let s := (s.put (FCH_SPAREn_SUBST_ACTIVE n) 1).onSpare n fun p => { p with good := s.ticks, run := 0 }
      s.finish (fun w => decide (w.kind = .spareSubst n)) (fun _ => .ok) (fun _ => leBytes 4 s.time.tickNo)
    else s

/-- R50: a coefficient update that falls due (32 and 33: of a spare), unless a host write of the same channel does. -/
def calApply (c : Nat) (s : Hw) : Hw :=
  match smapGet none s.fch.calDue c with
  | none => s
  | some (ofs, gain) =>
    let s := s.onFch fun f => { f with calDue := smapErase f.calDue c }
    if 32 ≤ c then s.onSpare (c - 32) fun p => { p with ofs := ofs, gain := gain }
    else if bitOf s.fch.calHost c then s
    else (s.puti (FCH_CALn_OFS c) ofs).puti (FCH_CALn_GAIN c) gain

/-- R50: the dwell of channel `c` begins again. -/
def dwellRestart (c : Nat) (s : Hw) : Hw :=
  if (s.spareOf (c / 16)).job = 2 then
    (s.onSpare (c / 16) fun p => { p with seg := 3 + c % 16, frames := 0, strobes := 0, run := 0, sums := {} }).put
      (FCH_SPAREn_CUR_CH (c / 16)) (c % 16)
  else s

/-- R52, R53: a spare at a frame boundary. A written SPARE_MODE comes into force; a rotation goes on. -/
def spareFrame (n : Nat) (s : Hw) : Hw :=
  let p := s.spareOf n
  let cur := fun (k : Nat) (s : Hw) => if (s.spareOf n).job = 3 then s else s.put (FCH_SPAREn_CUR_CH n) k
  if p.modeDue then
    let mode := s.get (FCH_SPAREn_SPARE_MODE n)
    let s := s.onSpare n fun p =>
      { p with modeDue := false, job := if p.job = 3 then 3 else if s.flag (FCH_SPAREn_SPARE_FLT n) then 0 else mode,
               seg := 0, frames := 0, strobes := 0, run := 0, sums := {} }
    cur (if mode = 1 then s.get (FCH_SPAREn_PL_CH n) else 0) s
  else if p.job = 1 then
    let k := s.get (FCH_SPAREn_PL_CH n)
    cur k (if s.get (FCH_SPAREn_CUR_CH n) = k then s else s.onSpare n fun p => { p with run := 0 })
  else if p.job = 2 then
    if p.seg < 2 then s.onSpare n fun p => { p with seg := p.seg + 1 }
    else if p.seg = 2 then
      let (a, s) := s.fresh
      let (b, s) := s.fresh
      cur 0 (s.onSpare n fun p => { p with seg := 3, frames := 0, strobes := 0, run := 0, sums := {},
                                           ofs := signed 10 a.toNat, gain := signed 16 b.toNat })
    else s.onSpare n fun p => { p with frames := p.frames + 1 }
  else s

/-- The fast channels at a frame boundary (R50, R52, R53). -/
def fchFrame (s : Hw) : Hw :=
  let dropped := (s.fch.calDue.map (·.1)).filter fun c => decide (c < 32) && bitOf s.fch.calHost c
  let s := s.each (s.fch.calDue.map (·.1)) calApply
  let s := s.onFch fun f => { f with calHost := 0 }
  let s := s.latchAll fun a => decide (FCH_SPAREn 0 ≤ a) && decide (a < FCH_CALn 32)
  (s.each [0, 1] spareFrame).each dropped dwellRestart

/-- R53: a background calibration dwell ends; its coefficients are scheduled or rejected, and the next begins. -/
def calDwellEnd (n : Nat) (s : Hw) : Hw :=
  let p := s.spareOf n
  if n < 2 ∧ p.job = 2 ∧ 3 ≤ p.seg ∧ s.get (FCH_SPAREn_CAL_DWELL n) ≤ p.frames then
    let c := 16 * n + (p.seg - 3)
    let s :=
      match dwellFit p.sums (s.liveInt (FCH_CALn_OFS c)) (s.liveGet (FCH_CALn_GAIN c)) with
      | some r => s.onFch fun f => { f with calDue := smapSet none f.calDue c (some r) }
      | none => (s.raise FCH_CALSTAT_CAL_REJECT).bump FCH_CALSTAT_REJ_CNT
    let next := if p.seg = 18 then 0 else p.seg + 1
    (s.onSpare n fun p => { p with seg := next, frames := 0, strobes := 0, run := 0, sums := {} }).put
      (FCH_SPAREn_CUR_CH n) (next - 3)
  else s

/-! ### Foreground calibration (R51) -/

/-- The outcome of one converter: its fitted offset and gain, or `none` where its conversions missed their deadline. -/
def calOutcome (s : Hw) (c : Nat) (fit : Option (Int × Int)) : Bool × Hw :=
  match fit with
  | some (ofs, gain) =>
    if outsideInt (-512) 511 ofs || outsideInt 0x3999 0x4666 gain then (false, s)
    else (true, s.onFch fun f => { f with calDue := smapSet none f.calDue c (some (ofs, gain)) })
  | none => (false, s)

/-- One converter's result recorded: CONV_FAULT or SPARE_FLT is set or cleared. -/
def calRecord (c : Nat) (fit : Option (Int × Int)) (s : Hw) : Hw :=
  let (pass, s) := calOutcome s c fit
  if c < 32 then if pass then s.clearBit FCH_CONVFLT_CONV_FAULT c else s.raiseBit FCH_CONVFLT_CONV_FAULT c
  else
    let s := s.putb (FCH_SPAREn_SPARE_FLT (c - 32)) (!pass)
    if (s.spareOf (c - 32)).job = 3 then s
    else s.onSpare (c - 32) fun p => { p with job := if pass then s.liveGet (FCH_SPAREn_SPARE_MODE (c - 32)) else 0 }

/-- Every converter fitted and in range. -/
def calPassed (s : Hw) (fits : List (Option (Int × Int))) : Bool :=
  (List.range 34).all fun c => (calOutcome s c (fits.getD c none)).1

/-- All results of a foreground calibration recorded. -/
def calRecordAll (fits : List (Option (Int × Int))) (s : Hw) : Hw :=
  let ok := calPassed s fits
  let s := s.each (List.range 34) fun c s => calRecord c (fits.getD c none) s
  if ok then s else s.raise FCH_CALSTAT_CAL_FAILED

/-- Foreground calibration ends: `fits` holds for each of the 34 converters what its conversions gave. A waiting
FCH_CALIBRATE is answered. -/
def foregroundCalDone (fits : List (Option (Int × Int))) (s : Hw) : Hw :=
  if !s.flag FCH_CTRL_CAL_BUSY then s
  else
    let ok := calPassed s fits
    let s := (calRecordAll fits s).put FCH_CTRL_CAL_BUSY 0
    s.finishKind .calibrate (if ok then .ok else .calFailed)

/-- R47: 5 ms after a reference change, foreground calibration starts. -/
def refselSettleEnd (s : Hw) : Hw :=
  match s.fch.settle with
  | some t => if t + 5 * ticksPerMs ≤ s.ticks then (s.onFch fun f => { f with settle := none }).put FCH_CTRL_CAL_BUSY 1 else s
  | none => s

/-! ### Register writes -/

/-- FCH_CTRL, FCH_SPAREn, FCH_CALn and the flags that clear counters (R47, R50, R52). -/
def fchWrite (s : Hw) (w : Wr) : Judged :=
  if w.addr = FCH_CTRL then
    let new := if s.mode = mCommission then w.new else FCH_CTRL_REFSEL.into w.new (w.was FCH_CTRL_REFSEL)
    let s := s.setReg w.addr new
    .ok (if FCH_CTRL_REFSEL.of new = w.was FCH_CTRL_REFSEL then s else s.onFch fun f => { f with settle := some s.ticks })
  else if w.addr = FCH_SPAREn 0 ∨ w.addr = FCH_SPAREn 1 then
    let n := (w.addr - FCH_SPAREn 0) / 4
    let lock := s.flag (FCH_SPAREn_SUBST_ACTIVE n)
    let m := FCH_SPAREn_SPARE_MODE n
    let p := FCH_SPAREn_PL_CH n
    let new := if lock then p.into (m.into w.new (w.was m)) (w.was p) else w.new
    let s' := s.setReg w.addr new
    judge [(decide (m.of new = 3) || decide ((FCH_SPAREn_CAL_DWELL n).of new = 0) ||
            decide ((FCH_SPAREn_PL_COUNT n).of new = 0), .range)]
      (if w.touches m && !lock then s'.onSpare n fun p => { p with modeDue := true } else s')
  else if FCH_CALn 0 ≤ w.addr ∧ w.addr < FCH_CALn 32 then
    let c := (w.addr - FCH_CALn 0) / 4
    if outside 0x3999 0x4666 (w.val (FCH_CALn_GAIN c)) ||
       outsideInt (-512) 511 (signed 16 (w.val (FCH_CALn_OFS c))) then .ok s
    else .ok ((s.writeAs w).onFch fun f => { f with calHost := bitSet f.calHost c })
  else if w.addr = FCH_CALSTAT then
    let s := s.writeAs w
    .ok (if s.flag FCH_CALSTAT_CAL_REJECT then s else s.put FCH_CALSTAT_REJ_CNT 0)
  else .ok (s.writeAs w)

/-! ### Commands (Table FCH-3) -/

/-- 0x0400 FCH_STATUS_GET: FCH_CTRL, FCH_OVRNG, FCH_PLFAIL, FCH_CONVFLT, FCH_SPARE0, FCH_SPARE1, FCH_CALSTAT. -/
def execFchStatusGet (h : Hdr) (s : State) : Host.Outcome State Fault Refusal :=
  .next (s.onHw (hostCmd (Op.plain 0x0400 .viewer) (.fchStatusGet h) h fun s =>
    answer s (regBytes s [FCH_CTRL, FCH_OVRNG, FCH_PLFAIL, FCH_CONVFLT, FCH_SPAREn 0, FCH_SPAREn 1, FCH_CALSTAT])))

/-- 0x0401 FCH_CALIBRATE (R51): replies when the calibration ends. -/
def execFchCalibrate (h : Hdr) (s : State) : Host.Outcome State Fault Refusal :=
  .next (s.onHw (hostCmd (Op.plain 0x0401 .engineer) (.fchCalibrate h) h fun s =>
    checked s [(s.mode != mCommission, .modeNotAllowed)]
      (changeWait (s.put FCH_CTRL_CAL_BUSY 1) (cmdChg 0x0401 0 0) .calibrate)))

/-- 0x0402 SPARE_SUBST (R56, R57): replies with the tick of the first substituted control sample. DESIGN CHOICE (log entry 135): for the
channel whose substitution is requested or tracking it answers OK at once, without a tick. -/
def execSpareSubst (h : Hdr) (bank index : Nat) (s : State) : Host.Outcome State Fault Refusal :=
  .next (s.onHw (hostCmd (Op.plain 0x0402 .operator) (.spareSubst h bank index) h fun s =>
    let p := s.spareOf bank
    let busy := p.job = 3 ∨ p.req.isSome
    let own := match p.req with | some (k, _, _) => k | none => s.get (FCH_SPAREn_CUR_CH bank)
    if bank < 2 ∧ index < 16 ∧ busy ∧ own = index then answer s []
    else checked s [(decide (2 ≤ bank) || decide (16 ≤ index), .range), (decide busy, .spareBusy),
      (s.flag (FCH_SPAREn_SPARE_FLT bank), .convFailed)]
      (changeWait (s.onSpare bank fun p => { p with req := some (index, false, s.fch.strobes) })
        (cmdChg 0x0402 0 (bank + 256 * index)) (.spareSubst bank))))

/-- 0x0403 SPARE_RELEASE (R58): the main converter returns at the next tick boundary. -/
def execSpareRelease (h : Hdr) (bank : Nat) (s : State) : Host.Outcome State Fault Refusal :=
  .next (s.onHw (hostCmd (Op.plain 0x0403 .operator) (.spareRelease h bank) h fun s =>
    checked s [(decide (2 ≤ bank), .range), (!s.flag (FCH_SPAREn_SUBST_ACTIVE bank), .notSubstituted),
      (decide (s.ticks < (s.spareOf bank).good + 500), .convFailed)]
      (change (s.onSpare bank fun p => { p with release := true }) (cmdChg 0x0403 0 bank))))

/-! ### Events -/

/-- CONVERSION_DONE. -/
def execConversionDone (conv : Nat) (code : Int) (bad : Bool) (s : State) : Host.Outcome State Fault Refusal :=
  .next (s.onHw (onRun (conversionDone conv code bad)))

/-- CONVERSION_FAULT. -/
def execConversionFault (conv : Nat) (bad : Bool) (s : State) : Host.Outcome State Fault Refusal :=
  .next (s.onHw (onRun (conversionFault conv bad)))

/-- CAL_DWELL_END of a bank. -/
def execCalDwellEnd (bank : Nat) (s : State) : Host.Outcome State Fault Refusal :=
  .next (s.onHw (onRun (calDwellEnd bank)))

/-- FOREGROUND_CAL_DONE. -/
def execForegroundCalDone (fits : List (Option (Int × Int))) (s : State) : Host.Outcome State Fault Refusal :=
  .next (s.onHw (onRun (foregroundCalDone fits)))

/-- REFSEL_SETTLE_END. -/
def execRefselSettleEnd (s : State) : Host.Outcome State Fault Refusal :=
  .next (s.onHw (onRun refselSettleEnd))

end Sys2Proof.Machine
end

