-- ==== Sys2Proof/Machine/Sieve.lean ====
section
/-! DEFINITION. The Sieve engines: filter sets and their selection, user sets, outputs (04_sieve.md, R67 to R75). -/

namespace Sys2Proof.Machine

/-- A change of the Sieve state. -/
def Hw.onSieve (s : Hw) (f : SieveSt → SieveSt) : Hw := { s with sieve := f s.sieve }

/-- A free ROM coefficient as a signed Q1.15 value. -/
def romAt (set i : Nat) : Int := (Config.romCoef set i).toInt

/-- The sum of the free ROM coefficients of ages `from_` to `from_ + n - 1`. -/
def romSum (set from_ n : Nat) : Int := ((List.range n).map fun i => romAt set (from_ + i)).sum

/-- Free coefficients with the one that their sum leaves, where that one is a Q1.15 word; otherwise the flat list `flat`. -/
def romFit (free : List Int) (rest : Int) (flat : List Int) : List Int :=
  if outsideInt (-32768) 32767 rest then flat else rest :: free

/-- The ROM coefficients (R69): Q1.15 words, each set with the sum 32,768, LIN45 and REC24 symmetric; the rest is free. DESIGN CHOICE
(log entry 54): where the free words leave no Q1.15 word for the last, the set is flat. -/
def romCoefs (set : Nat) : List Int :=
  match set with
  | 0 => romFit ((List.range 31).map fun i => romAt 0 (i + 1)) (32768 - romSum 0 1 31) (List.replicate 32 1024)
  | 1 =>
    let half := romFit ((List.range 22).map fun i => romAt 1 i) (32768 - 2 * romSum 1 0 22) (736 :: List.replicate 22 728)
    half.tail.reverse ++ half
  | 5 =>
    let half := romFit ((List.range 11).map fun i => romAt 5 i) (16384 - romSum 5 0 11) (1369 :: List.replicate 11 1365)
    half.reverse ++ half
  | _ => []

/-- The active copy of user set `m`. -/
def Hw.userSet (s : Hw) (m : Nat) : UserSet := smapGet {} s.sieve.user m

/-- The coefficients by which a set code filters; `none` where the newest sample passes through: RAW, and a user set
that has been damaged (R69, R73). -/
def Hw.setCoefs (s : Hw) (code : Nat) : Option (List Int) :=
  if code = 2 ∨ code = 3 then
    let u := s.userSet (code - 2)
    if u.damaged then none else some u.coefs
  else if code = 4 then none
  else some (romCoefs code)

/-- The sum of products of R68. -/
def macc : List Int → List Samp → Int
  | c :: cs, x :: xs => c * x.val + macc cs xs
  | _, _ => 0

/-- R68, R74, R75: the output of a set over the samples of age 0, 1, …, and whether it saturated. DESIGN CHOICE (log entry 139): RAW
passes a sample at full scale on as not saturated. -/
def filterOut (coefs : Option (List Int)) (hist : List Samp) : Samp × Bool :=
  match coefs with
  | none => (hist.headD noSamp, false)
  | some cs =>
    let span := (hist ++ List.replicate (cs.length - hist.length) noSamp).take cs.length
    let y := (macc cs span + 16384) / 32768
    (⟨satInt 16 y, span.any (·.sub)⟩, decide (satInt 16 y ≠ y))

/-- The output of channel `c` under a set, from the samples up to and including strobe `k` of the tick in progress. -/
def Hw.chanOut (s : Hw) (c code k : Nat) : Samp × Bool :=
  let newer := smapGet 0 s.sieve.taken (c / 16) - (k + 1)
  filterOut (s.setCoefs code) ((smapGet [] s.sieve.hist c).drop newer)

/-! ### Tone detectors (R76 to R78) -/

/-- Detector `m` of engine `n`. -/
def Hw.toneOf (s : Hw) (n m : Nat) : ToneSt := smapGet {} s.sieve.tone (16 * n + m)

/-- A change of that detector. -/
def Hw.onTone (s : Hw) (n m : Nat) (f : ToneSt → ToneSt) : Hw :=
  s.onSieve fun v => { v with tone := smapSet {} v.tone (16 * n + m) (f (s.toneOf n m)) }

/-- θ of the sample whose nominal strobe lies at (sec, ns) (R76); the spec states no rounding. -/
def toneTheta (freq sec ns : Nat) : Nat :=
  (roundFree (freq * (sec % 64 * nsPerSec + ns) * 2 ^ 32) (64 * nsPerSec) % (2 ^ 32 : Nat)).toNat

/-- A value within 1 LSB of an exact value in the 100-bit format, as a free value chooses: an entry of the 18-bit table. -/
def near1 (exact : Int) (pick : Int) : Int :=
  satInt 18 (clampInt (-((fxOne - exact) / fxOne)) ((exact + fxOne) / fxOne) pick)

/-- Sine and cosine of a 32-bit angle by the 18-bit table with interpolation, Q1.17 (R76). DESIGN CHOICE (log entry 53): its error stays
within 1 LSB. -/
def tableSin (th : Nat) : Int := near1 (131072 * sinTurn th (2 ^ 32)) (Config.toneSin th)
def tableCos (th : Nat) : Int := near1 (131072 * cosTurn th (2 ^ 32)) (Config.toneCos th)

/-- PHASE of a block (R76). -/
def tonePhase (im re : Int) : Nat :=
  if im = 0 ∧ re = 0 then Config.tonePhaseZero.toNat else (atanTurn im re + 2 ^ 15) / 2 ^ 16 % 65536

/-- MAG2 of a block (R76); the spec states no rounding. -/
def toneMag2 (re im : Int) (len : Nat) : Nat :=
  min (2 ^ 32 - 1) (roundFree (16 * (re * re + im * im)) (len * len * 2 ^ 34)).toNat

/-- One input of a running detector. -/
def toneFeed (n m : Nat) (x : Samp) (sat : Bool) (sec ns : Nat) (s : Hw) : Hw :=
  let t := s.toneOf n m
  if !t.run then s
  else
    let th := toneTheta (s.liveGet (SVn_TDm_FREQ_FREQ n m)) sec ns
    let re := t.re + x.val * tableCos th
    let im := t.im - x.val * tableSin th
    let bad := t.sat || sat || x.sub
    let len := s.liveGet (SVn_TDm_CFG_LEN_M1 n m) + 1
    if t.n + 1 < len then s.onTone n m fun t => { t with n := t.n + 1, re := re, im := im, sat := bad }
    else
      let rep : ToneRep := ⟨toneMag2 re im len, tonePhase im re, bad, s.ticks⟩
      s.onTone n m fun t => { t with n := 0, re := 0, im := 0, sat := false, done := some rep }

/-- The detectors of one path fed from the outputs of strobe `k`. -/
def tonesFed (src k : Nat) (s : Hw) : Hw :=
  let ns := s.time.ns - s.time.ns % 2000 + 125 * k
  (s.sieve.tone.map (·.1)).foldl (fun s d =>
    let n := d / 16
    let m := d % 16
    if s.liveGet (SVn_TDm_CFG_SRC n m) = src then
      let c := 16 * n + s.liveGet (SVn_TDm_CFG_CH n m)
      if src = 0 then toneFeed n m (smapGet noSamp s.sieve.ctl c) (bitOf s.sieve.ctlSat c) s.time.sec ns s
      else toneFeed n m (smapGet noSamp s.sieve.recOut c) (bitOf s.sieve.recSat c) s.time.sec ns s
    else s) s

/-- Byte 0x80 of the Exchange RAM: four words for each detector (Table LPE-3). DESIGN CHOICE (log entry 53): they are the halves of its
MAG2 and of its PH word, low halves first, so that PHASE is the third and the flags and SEQ are the fourth. -/
def toneWord (n m : Nat) : Nat := 0x40 + 4 * (16 * n + m)

/-- TONE_BLOCK_DONE: from the input release of the tick after its last input, at cycle 110, a block is reported (R77). Reported after
the release of its tick, it waits for the next one in the Exchange RAM (Table TCK-3). -/
def toneBlockDone (n m : Nat) (s : Hw) : Hw :=
  match (s.toneOf n m).done with
  | none => s
  | some r =>
    if s.ticks ≤ r.tick then s
    else
      let atRelease := decide (s.time.cyc ≤ 110)
      let s := s.atCyc (max s.time.cyc 110)
      let s := s.onTone n m fun t => { t with done := none }
      let s := s.put (SVn_TDm_MAG2_MAG2 n m) r.mag2
      let s := s.put (SVn_TDm_PH_PHASE n m) r.phase
      let s := s.put (SVn_TDm_PH_SEQ n m) (s.get (SVn_TDm_PH_SEQ n m) + 1)
      let s := (s.putb (SVn_TDm_PH_SAT n m) r.sat).put (SVn_TDm_PH_VALID n m) 1
      let ph := (s.reg (SVn_TDm_PH n m)).toNat
      let ws : List Nat := [r.mag2 % 65536, r.mag2 / 65536, ph % 65536, ph / 65536]
      let s := ws.zipIdx.foldl (fun s p => { s with xarr := smapSet 0 s.xarr (toneWord n m + p.2) p.1
                                                    xin := smapSet 0 s.xin (toneWord n m + p.2) p.1
                                                    xram := if atRelease then smapSet 0 s.xram (toneWord n m + p.2) p.1 else s.xram }) s
      { s with trg := { s.trg with tones := s.trg.tones ++ [(16 * n + m, s.nowQ)] } }

/-- Every block in progress is discarded and ABORT set (R78: a step of Almanac time). -/
def tonesAbort (s : Hw) : Hw :=
  (s.sieve.tone.map (·.1)).foldl (fun s d =>
    if (s.toneOf (d / 16) (d % 16)).run then
      (s.onTone (d / 16) (d % 16) fun t => { t with run := false, n := 0, re := 0, im := 0, sat := false }).raise
        (SVn_TDm_PH_ABORT (d / 16) (d % 16))
    else s) s

/-- A detector at a frame boundary: a written configuration comes into force and discards the block in progress; an idle
detector with EN = 1 starts a block (R77, R78). -/
def toneFrame (d : Nat) (s : Hw) : Hw :=
  let n := d / 16
  let m := d % 16
  let t := s.toneOf n m
  let was := s.liveFlag (SVn_TDm_CFG_EN n m)
  let s := if t.restart then s.latch [SVn_TDm_CFG n m, SVn_TDm_FREQ n m] else s
  let now := s.liveFlag (SVn_TDm_CFG_EN n m)
  let s := if t.restart && t.run then s.raise (SVn_TDm_PH_ABORT n m) else s
  let s := if now && !was then s.put (SVn_TDm_PH_VALID n m) 0 else s
  if t.restart || (now && !t.run) then
    s.onTone n m fun t => { t with restart := false, run := now, n := 0, re := 0, im := 0, sat := false }
  else s

/-! ### Events of the engines -/

/-- A channel's control output entered: its SAT flag, its run of substituted ticks (R424), its word for the input release
(byte 0x40 of the Exchange RAM). -/
def ctlEnter (c : Nat) (o : Samp) (sat : Bool) (s : Hw) : Hw :=
  let n := c / 16
  let s := if sat then s.raiseBit (SVn_STAT_SAT n) (c % 16) else s
  let run := if o.sub then smapGet 0 s.int.subRun c + 1 else 0
  let s := { s with int := { s.int with subRun := smapSet 0 s.int.subRun c run }
                    xin := smapSet 0 s.xin (0x20 + c) (unsigned 16 o.val) }
  s.onSieve fun v => { v with ctl := smapSet noSamp v.ctl c o, ctlSat := if sat then bitSet v.ctlSat c else bitClear v.ctlSat c }

/-- SIEVE_CONTROL_BURST (R67): the control outputs of all channels. `done` is the timebase cycle, rounded up, at which the
last one was complete, no later than 108 (R25); `bad` the banks whose bundle at boundary 1 is corrupted on the way. -/
def controlBurst (done bad : Nat) (s : Hw) : Hw :=
  let s := s.put SYS_TLMAX_SIEVE_DONE_MAX (max (s.get SYS_TLMAX_SIEVE_DONE_MAX) (min done 511))
  let s := if 108 < done then s.clockTol else s
  let s := s.each [0, 1] fun n s =>
    let (fail, s) := s.checkBundle 1 n (bitOf bad n)
    s.each ((List.range 16).map (16 * n + ·)) fun c s =>
      let (o, sat) := s.chanOut c (s.liveGet (SVn_CHk_CTL_SET n (c % 16))) 0
      if fail then ctlEnter c ⟨(smapGet noSamp s.sieve.ctl c).val, true⟩ sat s else ctlEnter c o sat s
  tonesFed 0 0 (s.chrNews 2 (s.strobeQ 0))

/-- SIEVE_RECORDER_EVAL (R70): the recorder outputs with newest input at strobe `k`. -/
def recorderEval (k bad : Nat) (s : Hw) : Hw :=
  if k % 4 ≠ 0 ∨ 16 ≤ k ∨ smapGet 0 s.sieve.taken 0 ≤ k ∨ smapGet 0 s.sieve.taken 1 ≤ k then s
  else
    let s := s.each [0, 1] fun n s =>
      let fail := bitOf bad n
      let s := if fail then s.mismatch 1 false true else s
      s.each ((List.range 16).map (16 * n + ·)) fun c s =>
        let (o, sat) := s.chanOut c (s.liveGet (SVn_CHk_REC_SET n (c % 16))) k
        -- the last good bundle is that of the same evaluation in the previous tick
        let o : Samp := if fail then ⟨(smapGet noSamp s.sieve.recBy (32 * (k / 4) + c)).val, true⟩ else o
        let s := if sat then s.raiseBit (SVn_STAT_SAT n) (c % 16) else s
        s.onSieve fun v => { v with recOut := smapSet noSamp v.recOut c o
                                    recBy := smapSet noSamp v.recBy (32 * (k / 4) + c) o
                                    recSat := if sat then bitSet v.recSat c else bitClear v.recSat c }
    tonesFed 1 k (s.chrNews 1 (s.strobeQ k))

/-- COEF_ECC_ERROR (R73, R425): an uncorrectable error of user set `m`. -/
def coefEccError (m : Nat) (s : Hw) : Hw :=
  if 2 ≤ m then s
  else
    let s := ((s.raise (SVn_STAT_COEF_ERR 0)).raise (SVn_STAT_COEF_ERR 1)).raise INT_STAT_COEF_ERR_SEEN
    s.onSieve fun v => { v with hurt := bitSet v.hurt m }

/-- The next tick: damaged sets act as RAW from it (R73). -/
def sieveTick (s : Hw) : Hw :=
  (bitsOf 2 s.sieve.hurt).foldl (fun s m =>
    s.onSieve fun v => { v with user := smapSet {} v.user m { smapGet {} v.user m with damaged := true }, hurt := 0 }) s

/-! ### User sets (R72) -/

/-- The shadow copy of user set `m`: its first TAPS coefficients. -/
def Hw.shadow (s : Hw) (m : Nat) : List Int :=
  let taps := s.get (if m = 0 then SV_USERCTL_TAPS0 else SV_USERCTL_TAPS1)
  (List.range taps).map fun i =>
    s.geti (if i % 2 = 0 then SV_USERm_COEFj_C_EVEN m (i / 2) else SV_USERm_COEFj_C_ODD m (i / 2))

/-- A commit is pending. -/
def Hw.coefPending (s : Hw) : Bool := s.flag SV_USERCTL_PEND0

/-- All (engine, channel) pairs. -/
def svChannels : List (Nat × Nat) := (List.range 32).map fun c => (c / 16, c % 16)

/-- User set `m` is selected for the control path of some channel; on either path of some channel. -/
def Hw.userInCtl (s : Hw) (m : Nat) : Bool := svChannels.any fun p => s.get (SVn_CHk_CTL_SET p.1 p.2) == m + 2
def Hw.userInAny (s : Hw) (m : Nat) : Bool :=
  s.userInCtl m || svChannels.any fun p => s.get (SVn_CHk_REC_SET p.1 p.2) == m + 2

/-- A commit would change user set `m`. DESIGN CHOICE (log entry 138): of a damaged set it does so whatever the shadow holds. -/
def Hw.commitChanges (s : Hw) (m : Nat) : Bool :=
  (s.userSet m).damaged || decide ((s.userSet m).coefs ≠ s.shadow m) || bitOf s.sieve.hurt m

/-- The checks of a commit (R72). -/
def commitChecks (s : Hw) : List (Bool × Status) :=
  [(s.switching && ([0, 1].any fun m => s.commitChanges m && s.userInCtl m), .coefInUse),
   ([0, 1].any fun m => (s.shadow m).isEmpty && s.userInAny m, .setEmpty)]

/-- Both shadows are marked for transfer. -/
def commitMark (s : Hw) : Hw := (s.put SV_USERCTL_PEND0 1).put SV_USERCTL_PEND1 1

/-- TAPS that user set `m` will have at the coming frame boundary (R71). -/
def Hw.tapsDue (s : Hw) (m : Nat) : Nat := if s.coefPending then (s.shadow m).length else (s.userSet m).coefs.length

/-- A selection of a set code that will be empty. -/
def Hw.selectsEmpty (s : Hw) (code : Nat) : Bool := (code == 2 || code == 3) && s.tapsDue (code - 2) == 0

/-- The Sieve at a frame boundary: commits and selections apply together (R71, R72, R78). -/
def sieveFrame (s : Hw) : Hw :=
  let s :=
    if s.coefPending then
      let s := s.each [0, 1] fun m s =>
        if s.commitChanges m then
          s.onSieve fun v => { v with user := smapSet {} v.user m { coefs := s.shadow m }, hurt := bitClear v.hurt m }
        else s
      (((s.put SV_USERCTL_PEND0 0).put SV_USERCTL_PEND1 0).raise STO_STAT_CHK_BUSY).finishKind .coefCommit .ok
    else s
  let s := svChannels.foldl (fun s p =>
    if s.flag (SVn_CHk_PEND p.1 p.2) then (s.put (SVn_CHk_PEND p.1 p.2) 0).latch [SVn_CHk p.1 p.2] else s) s
  ((List.range 32).filter fun d => (smapGet {} s.sieve.tone d) != {} || s.liveFlag (SVn_TDm_CFG_EN (d / 16) (d % 16))).foldl
    (fun s d => toneFrame d s) s

/-! ### Set selection (R71) -/

/-- A CTL_SET write of channel (n, k) is not allowed in this mode. -/
def ctlModeBad (s : Hw) (n k new : Nat) : Bool :=
  let old := s.get (SVn_CHk_CTL_SET n k)
  s.switching && !(new == 4 || (old == 4 && new == s.get (SVn_CHk_RET_SET n k)))

/-- The selection of channel (n, k) written. DESIGN CHOICE (log entry 137): PEND also follows a write that leaves both as they were. -/
def chSelect (n k : Nat) (ctl rec_ : Option Nat) (s : Hw) : Hw :=
  let old := s.get (SVn_CHk_CTL_SET n k)
  let s := match ctl with
    | some c => (if c = 4 ∧ old ≠ 4 then s.put (SVn_CHk_RET_SET n k) old else s).put (SVn_CHk_CTL_SET n k) c
    | none => s
  let s := match rec_ with | some r => s.put (SVn_CHk_REC_SET n k) r | none => s
  s.put (SVn_CHk_PEND n k) 1

/-- A control code, a recorder code out of range. -/
def ctlCodeBad (c : Nat) : Bool := decide (5 ≤ c)
def recCodeBad (c : Nat) : Bool := decide (6 ≤ c)

/-! ### Register writes -/

/-- Writes of the Sieve window (R71, R72, R77, R78). -/
def sieveWrite (s : Hw) (w : Wr) : Judged :=
  if w.addr < SVn_STAT 1 ∧ (w.addr - SVn_CHk 0 0) % 0x100 < 0x40 then
    let n := (w.addr - SVn_CHk 0 0) / 0x100
    let k := (w.addr - SVn_CHk 0 0) % 0x100 / 4
    let ctl := if w.touches (SVn_CHk_CTL_SET n k) then some (w.val (SVn_CHk_CTL_SET n k)) else none
    let rec_ := if w.touches (SVn_CHk_REC_SET n k) then some (w.val (SVn_CHk_REC_SET n k)) else none
    let onC (f : Nat → Bool) : Bool := match ctl with | some c => f c | none => false
    let onR (f : Nat → Bool) : Bool := match rec_ with | some c => f c | none => false
    if ctl.isNone && rec_.isNone then .ok s
    else judge [(onC (ctlModeBad s n k), .modeNotAllowed), (onC ctlCodeBad || onR recCodeBad, .range),
        (onC s.selectsEmpty || onR s.selectsEmpty, .setEmpty)] (chSelect n k ctl rec_ s)
  else if w.addr = SV_USERCTL then
    let taps := w.touches SV_USERCTL_TAPS0 || w.touches SV_USERCTL_TAPS1
    let t := s.writeAs w
    let commit := bitOf w.acts 31
    judge ([(decide (128 < w.val SV_USERCTL_TAPS0) || decide (128 < w.val SV_USERCTL_TAPS1), .range),
        (taps && s.coefPending, .coefPending)] ++ (if commit then commitChecks t else []))
      (if commit then commitMark t else t)
  else if SV_USERm_COEFj 0 0 ≤ w.addr ∧ w.addr < SVn_TDm_CFG 0 0 then
    judge [(s.coefPending, .coefPending)] (s.writeAs w)
  else if SVn_TDm_CFG 0 0 ≤ w.addr then
    let n := (w.addr - SVn_TDm_CFG 0 0) / 0x200
    let m := (w.addr - SVn_TDm_CFG 0 0) % 0x200 / 0x10
    if w.addr = SVn_TDm_CFG n m ∨ w.addr = SVn_TDm_FREQ n m then
      let t := s.writeAs w
      judge [(decide (t.get (SVn_TDm_CFG_LEN_M1 n m) < 15) ||
          (!t.flag (SVn_TDm_CFG_SRC n m) && decide (16000000 < t.get (SVn_TDm_FREQ_FREQ n m))), .range)]
        (t.onTone n m fun d => { d with restart := true })
    else .ok (s.writeAs w)
  else .ok (s.writeAs w)

/-- A read of SVn_TDm_MAG2 captures PH of the same block; PH then reads as captured (R77). -/
def toneReadMag2 (n m : Nat) (s : Hw) : Word × Hw :=
  (s.reg (SVn_TDm_MAG2 n m), s.onTone n m fun t => { t with cap := some (s.reg (SVn_TDm_PH n m)) })

/-! ### Commands (Table SIV-2) -/

/-- Signed 16-bit values as result bytes. -/
def coefBytes (cs : List Int) : List Byte := cs.flatMap fun c => leBytes 2 (unsigned 16 c)

/-- The optional part of SIEVE_STATUS_GET: a tap count and the coefficients of the set (log entry 15). -/
def setReadOut (s : Hw) (code : Nat) : List Byte :=
  let cs := if code = 2 ∨ code = 3 then (s.userSet (code - 2)).coefs else romCoefs code
  if code = 0xFF then [] else leBytes 1 cs.length ++ coefBytes cs

/-- 0x0420 SIEVE_STATUS_GET. -/
def execSieveStatusGet (h : Hdr) (engine setCode : Nat) (s : State) : Host.Outcome State Fault Refusal :=
  .next (s.onHw (hostCmd (Op.plain 0x0420 .viewer) (.sieveStatusGet h engine setCode) h fun s =>
    checked s [(decide (2 ≤ engine) || (decide (6 ≤ setCode) && decide (setCode ≠ 0xFF)), .range)]
      (answer s (regBytes s ((List.range 16).map (SVn_CHk engine) ++ [SVn_STAT engine, SV_USERCTL]) ++
        setReadOut s setCode))))

/-- 0x0421 SIEVE_SET_SELECT (R71): all channels of the mask, or none. -/
def execSieveSetSelect (h : Hdr) (engine mask ctlSet recSet : Nat) (s : State) : Host.Outcome State Fault Refusal :=
  .next (s.onHw (hostCmd (Op.plain 0x0421 .engineer) (.sieveSetSelect h engine mask ctlSet recSet) h fun s =>
    let ks := bitsOf 16 mask
    let ctl := if ctlSet = 0xFF then none else some ctlSet
    let rec_ := if recSet = 0xFF then none else some recSet
    checked s
      [(ctl.any (fun c => ks.any fun k => ctlModeBad s engine k c), .modeNotAllowed),
       (decide (2 ≤ engine) || decide (65536 ≤ mask) || ctl.any ctlCodeBad || rec_.any recCodeBad, .range),
       (!ks.isEmpty && (ctl.any s.selectsEmpty || rec_.any s.selectsEmpty), .setEmpty)]
      (if ctl.isNone && rec_.isNone then answer s []
       else
         let t := s.each ks fun k s => chSelect engine k ctl rec_ s
         change t (regChgs s t ((List.range 16).map (SVn_CHk engine))))))

/-- The shadow registers of user set `m`. -/
def userRegs (m : Nat) : List Nat := SV_USERCTL :: (List.range 64).map (SV_USERm_COEFj m)

/-- The shadow of user set `m` written. -/
def coefLoaded (m taps : Nat) (coefs : List Int) (s : Hw) : Hw :=
  let s := s.put (if m = 0 then SV_USERCTL_TAPS0 else SV_USERCTL_TAPS1) taps
  coefs.zipIdx.foldl (fun s p =>
    s.puti (if p.2 % 2 = 0 then SV_USERm_COEFj_C_EVEN m (p.2 / 2) else SV_USERm_COEFj_C_ODD m (p.2 / 2)) p.1) s

/-- 0x0422 SIEVE_COEF_LOAD (R72). -/
def execSieveCoefLoad (h : Hdr) (setNo taps : Nat) (coefs : List Int) (s : State) : Host.Outcome State Fault Refusal :=
  .next (s.onHw (hostCmd (Op.sized 0x0422 .engineer (2 + 2 * taps)) (.sieveCoefLoad h setNo taps coefs) h fun s =>
    checked s [(decide (2 ≤ setNo) || decide (128 < taps), .range), (decide (coefs.length ≠ taps), .length),
      (s.coefPending, .coefPending)]
      (let t := coefLoaded setNo taps coefs s
       change t (regChgs s t (userRegs setNo)))))

/-- 0x0423 SIEVE_COEF_COMMIT (R72): replies after the frame boundary. -/
def execSieveCoefCommit (h : Hdr) (s : State) : Host.Outcome State Fault Refusal :=
  .next (s.onHw (hostCmd (Op.plain 0x0423 .engineer) (.sieveCoefCommit h) h fun s =>
    checked s (commitChecks s) (changeWait (commitMark s) (cmdChg 0x0423 0 0) .coefCommit)))

/-- 0x0424 TONE_CONFIG (R76, R78). -/
def execToneConfig (h : Hdr) (engine det cfg freq : Nat) (s : State) : Host.Outcome State Fault Refusal :=
  .next (s.onHw (hostCmd (Op.plain 0x0424 .operator) (.toneConfig h engine det cfg freq) h fun s =>
    checked s
      [(decide (2 ≤ engine) || decide (16 ≤ det) || decide ((SVn_TDm_CFG_LEN_M1 0 0).ofNat cfg < 15) ||
        decide (2 ^ 24 ≤ freq) || (!bitOf cfg 30 && decide (16000000 < freq)), .range)]
      (let t := (s.setWord (SVn_TDm_CFG engine det) cfg).setWord (SVn_TDm_FREQ engine det) freq
       change (t.onTone engine det fun d => { d with restart := true })
         (regChgs s t [SVn_TDm_CFG engine det, SVn_TDm_FREQ engine det]))))

/-- 0x0425 TONE_READ (R77). -/
def execToneRead (h : Hdr) (engine mask : Nat) (s : State) : Host.Outcome State Fault Refusal :=
  .next (s.onHw (hostCmd (Op.plain 0x0425 .viewer) (.toneRead h engine mask) h fun s =>
    checked s [(decide (2 ≤ engine) || decide (65536 ≤ mask), .range)]
      (answer s ((bitsOf 16 mask).flatMap fun m =>
        leBytes 4 (s.reg (SVn_TDm_MAG2 engine m)).toNat ++ leBytes 4 (s.reg (SVn_TDm_PH engine m)).toNat))))

/-! ### Events -/

def execSieveControlBurst (done bad : Nat) (s : State) : Host.Outcome State Fault Refusal :=
  .next (s.onHw (onTick (controlBurst done bad)))

def execSieveRecorderEval (strobe bad : Nat) (s : State) : Host.Outcome State Fault Refusal :=
  .next (s.onHw (onTick (recorderEval strobe bad)))

def execCoefEccError (setNo : Nat) (s : State) : Host.Outcome State Fault Refusal :=
  .next (s.onHw (onRun (coefEccError setNo)))

def execToneBlockDone (engine det : Nat) (s : State) : Host.Outcome State Fault Refusal :=
  .next (s.onHw (onRun fun s => if engine < 2 ∧ det < 16 then toneBlockDone engine det s else s))

end Sys2Proof.Machine
end

