-- ==== Sys2Proof/Machine/LocalStage.lean ====
section
/-! DEFINITION. The Local Stage: legs, reloads, masks, soft turn-off, halts (13_local_stage.md, R250 to R265), with the
latches of switch protection that take a leg to FAULT (14_switch_protection.md, R268 to R273). -/

namespace Sys2Proof.Machine

/-- A leg, and a change of it. -/
def Hw.legOf (s : Hw) (n : Nat) : LegSt := smapGet {} s.lst.legs n
def Hw.onLeg (s : Hw) (n : Nat) (f : LegSt → LegSt) : Hw :=
  { s with lst := { s.lst with legs := smapSet {} s.lst.legs n (f (s.legOf n)) } }

/-- The number of legs. -/
def numLegs : Nat := 12

/-- Leg states (Table LST-1). -/
def lgOff : Nat := 0
def lgRun : Nat := 1
def lgSoft : Nat := 2
def lgRest : Nat := 3
def lgFault : Nat := 4

def Hw.legState (s : Hw) (n : Nat) : Nat := s.get (LEGn_STAT_STATE n)
def Hw.setLeg (s : Hw) (n st : Nat) : Hw := s.put (LEGn_STAT_STATE n) st

/-- The state that a command in the present cycle finds: a leg forced off by protection is in SOFT from the next cycle on (R268). -/
def Hw.legFound (s : Hw) (n : Nat) : Nat := if (s.legOf n).softNext then lgSoft else s.legState n

/-- The legs of a mask. -/
def legsOf (mask : Nat) : List Nat := bitsOf numLegs mask

/-- The part drives its Local Stage pins (R251). -/
def Hw.drivesLegs (s : Hw) : Bool := s.ops.cfgValid && s.active && !s.strapReeve

/-- Either switch of a leg is latched. -/
def Hw.legLatched (s : Hw) (n : Nat) : Bool := s.flag (SWP_SWn_STAT_LATCHED (2 * n)) || s.flag (SWP_SWn_STAT_LATCHED (2 * n + 1))

/-- The levels of GD_CMD(2n), GD_CMD(2n + 1) and GD_SOFTn; `none` while the pins are high-impedance. -/
def Hw.legPins (s : Hw) (n : Nat) : Option LegOut :=
  if s.inReset || !s.drivesLegs then none
  else if s.lst.asyncSafe then some { soft := true }
  else some (s.legOf n).out2

/-! ### One timebase cycle (R254, R255, R257, R258, R260) -/

/-- What a leg's cycle reads besides its own state: mode bits, shadow values, and the pattern codes of its switches. -/
structure LegCfg where
  pwm : Bool
  centre : Bool
  group : Bool
  boot : Bool
  per : Nat
  psc : Nat
  cmp : Nat
  du : Bool
  dl : Bool
  dt : Nat
  bootMin : Nat
  bootN : Nat
  patU : Nat
  patL : Nat
deriving DecidableEq, Repr

/-- Flags that a leg's cycle raises. -/
structure LegFlags where
  shoot : Bool := false
  clamp : Bool := false
  split : Bool := false
deriving DecidableEq, Repr

/-- The refresh clamp of R260 on a compare value. -/
def bootClamp (centre : Bool) (per psc dt bootMin cmp : Nat) : Nat :=
  let need := max dt 26 + bootMin
  let lim := if centre then per - (need + 2 * psc - 1) / (2 * psc) else ((per + 1) * psc - need) / psc
  min cmp lim

/-- A reload (R257, R258). -/
def legReload (g : LegCfg) (now : Nat) (l : LegSt) : LegSt × LegFlags :=
  let all := !g.group || l.cmt == 1
  -- a committed set loads both together (R258)
  let both := g.group && l.cmt == 1
  let cmpToo := all || l.cmt == 2
  let l := { l with period := l.period + 1, reloadAt := some now }
  let l := if all then { l with per := g.per, psc := g.psc, dt := g.dt, bootMin := g.bootMin, bootN := g.bootN } else l
  let l := if cmpToo then { l with cmpB := g.cmp, du := g.du, dl := g.dl, cmt := 0 } else l
  let refresh := g.boot && decide (0 < l.bootN) && l.period % l.bootN == 0
  let cmp := if refresh then bootClamp g.centre l.per l.psc l.dt l.bootMin l.cmpB else l.cmpB
  let nPer := all && (l.wPer || both)
  let nCmp := cmpToo && (l.wCmp || both)
  let split := (nPer && !nCmp && l.lCmp && !l.lPer) || (nCmp && !nPer && l.lPer && !l.lCmp)
  ({ l with cmp := cmp, wPer := if all then false else l.wPer, wCmp := if cmpToo then false else l.wCmp, lPer := nPer, lCmp := nCmp },
   { clamp := decide (cmp ≠ l.cmpB), split := split })

/-- The counter's part of a cycle of a leg in RUN. -/
def legCount (g : LegCfg) (now : Nat) (l : LegSt) : LegSt × LegFlags :=
  let k := l.k + 1
  if k < l.psc then ({ l with k := k }, {})
  else
    let l := if !g.centre then { l with k := 0, c := if l.c = l.per then 0 else l.c + 1 }
      else if l.up then { l with k := 0, c := l.c + 1, up := decide (l.c + 1 ≠ l.per) }
      else { l with k := 0, c := l.c - 1, up := decide (l.c - 1 = 0) }
    if l.c = 0 then legReload g now l else (l, {})

/-- A mask code on a command: FOLLOW, OFF or ON. -/
def maskCmd (cmd : Bool) (code : Nat) : Bool := if code = 1 then false else if code = 2 then true else cmd

/-- Both switches of the leg are commanded on. -/
def legBoth (g : LegCfg) (l : LegSt) : Bool :=
  let cu := if g.pwm then decide (l.c < l.cmp) else l.du
  maskCmd cu g.patU && maskCmd (if g.pwm then !cu else l.dl) g.patL

/-- The output's part of a cycle of a leg in RUN (R254, R255); `reloaded` says that it is a reload, where the lock may be released.
GD_SOFT of a loss of clock lasts its SOFT_T (R264). -/
def legDrive (g : LegCfg) (now : Nat) (reloaded force : Bool) (l : LegSt) : LegSt × Bool :=
  let cu := if g.pwm then decide (l.c < l.cmp) else l.du
  let cl := if g.pwm then !cu else l.dl
  let cu := maskCmd cu g.patU
  let cl := maskCmd cl g.patL
  let both := cu && cl
  let lock := both || (l.lock && !reloaded)
  let off := lock || force
  let dte := max l.dt 26
  let gu := cu && !off && decide (dte ≤ l.ol)
  let gl := cl && !off && decide (dte ≤ l.ou)
  ({ l with lock := lock, ou := if gu then 0 else min (l.ou + 1) 1024, ol := if gl then 0 else min (l.ol + 1) 1024,
            riseU := if gu && !l.out.gu then now else l.riseU, riseL := if gl && !l.out.gl then now else l.riseL,
            out := { gu := gu, gl := gl, soft := l.out.soft && l.due.isSome }, out1 := l.out, out2 := l.out1 }, both)

/-- A cycle of a leg in RUN. -/
def legCycle (g : LegCfg) (force : Bool) (p : LegSt × LegFlags) : LegSt × LegFlags :=
  let now := p.1.at_ + 1
  let (l, f) := legCount g now { p.1 with at_ := now }
  let (l, shoot) := legDrive g now (decide (l.reloadAt = some now)) force l
  (l, { shoot := p.2.shoot || shoot, clamp := p.2.clamp || f.clamp, split := p.2.split || f.split })

/-- `n` cycles of a leg in RUN. -/
def legCycles (g : LegCfg) (force : Bool) : Nat → LegSt × LegFlags → LegSt × LegFlags
  | 0, p => p
  | n + 1, p => legCycles g force n (legCycle g force p)

/-- `n` cycles of a leg in any other state: its outputs keep their value. -/
def legIdle (n : Nat) (l : LegSt) : LegSt :=
  let l := if n = 0 then l else if n = 1 then { l with out2 := l.out1, out1 := l.out } else { l with out2 := l.out, out1 := l.out }
  { l with at_ := l.at_ + n, ou := min (l.ou + n) 1024, ol := min (l.ol + n) 1024 }

/-- `n` cycles of a leg in RUN that a debug halt holds: everything is frozen, but that the lockout acts (R263). -/
def legHeld (g : LegCfg) (n : Nat) (l : LegSt) : LegSt :=
  let hold := fun (n : Nat) (x : LegSt) => { legIdle n x with ou := l.ou, ol := l.ol }
  if n = 0 then l
  else if legBoth g l then hold (n - 1) { hold 1 l with lock := true, out := {} }
  else if l.lock then hold n l
  else { l with at_ := l.at_ + n }

/-- The pattern index in force of a leg's group, and its codes for the leg (Table LST-15). -/
def Hw.legCodes (s : Hw) (n : Nat) : Nat × Nat :=
  let g := n / 3
  let p := s.get (LST_GRPg_PATk_PAT g (s.get (LST_GRPg_CFG_ACT_IDX g)))
  (p / 4 ^ (2 * (n % 3) + 1) % 4, p / 4 ^ (2 * (n % 3)) % 4)

/-- What a leg's cycle reads now. -/
def Hw.legCfg (s : Hw) (n : Nat) : LegCfg :=
  let (pu, pl) := s.legCodes n
  { pwm := !s.flag (LEGn_CFG_MODE n), centre := s.flag (LEGn_CFG_ALIGN n), group := s.flag (LEGn_CFG_COMMIT_MODE n),
    boot := s.flag (LEGn_CFG_BOOT_EN n), per := s.get (LEGn_PER_PER n), psc := s.get (LEGn_PER_PSC_M1 n) + 1,
    cmp := s.get (LEGn_CMP_CMP n), du := s.flag (LEGn_CMP_DU n), dl := s.flag (LEGn_CMP_DL n), dt := s.get (LEGn_DT_DT n),
    bootMin := s.get (LEGn_DT_BOOT_MIN n), bootN := s.get (LEGn_DT_BOOT_N n), patU := pu, patL := pl }

/-- The registers that show a leg's timer. -/
def legRegs (n : Nat) (f : LegFlags) (s : Hw) : Hw :=
  let l := s.legOf n
  let s := (s.put (LEGn_STAT_CMP_ACT n) l.cmp).putb (LEGn_STAT_COMMIT_PEND n) (l.cmt == 1)
  let s := if f.shoot then s.raise (LEGn_STAT_SHOOT_THRU n) else s
  let s := if f.clamp then s.raise (LEGn_STAT_DUTY_CLAMP n) else s
  if f.split then s.raise (LEGn_STAT_SPLIT_UPDATE n) else s

/-- Leg `n` computed up to timebase cycle `t`. -/
def legTo (n t : Nat) (s : Hw) : Hw :=
  let l := s.legOf n
  let d := t - l.at_
  if d = 0 then s
  else if l.softNext then (s.setLeg n lgSoft).onLeg n fun l => legIdle d { l with softNext := false }
  else if s.legState n = lgRun ∧ s.lst.halt.isSome then
    let g := s.legCfg n
    let s := s.onLeg n (legHeld g d)
    if legBoth g l then s.raise (LEGn_STAT_SHOOT_THRU n) else s
  else if s.legState n = lgRun then
    let (l', f) := legCycles (s.legCfg n) (s.legLatched n) d (l, {})
    legRegs n f (s.onLeg n fun _ => l')
  else s.onLeg n fun l => legIdle d l

/-- Every leg that is not at rest since reset, computed up to the present instant. -/
def legsNow (s : Hw) : Hw :=
  s.each ((List.range numLegs).filter fun n => s.legState n != lgOff || decide (s.legOf n ≠ {})) fun n s => legTo n s.cycles s

/-! ### Leaving RUN (R251 to R253) -/

/-- SYS_PEND of class LEG and its record (R40, R450). -/
def legPend (s : Hw) : Hw :=
  let m := maskOf ((List.range numLegs).filter fun n => s.flag (LEGn_STAT_PEND n))
  let s := s.put SYS_PEND_PENDING (if m ≠ 0 then bitSet (s.get SYS_PEND_PENDING) 0 else bitClear (s.get SYS_PEND_PENDING) 0)
  let tick := match smapGet none s.ops.pend 0 with | some p => p.tick | none => s.nextTick
  { s with ops := { s.ops with pend := smapSet none s.ops.pend 0 (if m = 0 then none else some ⟨0x0802, m, [], tick⟩) } }

/-- A soft turn-off of a leg in RUN starts in the present cycle. One that protection has forced is on its way already. -/
def legSoft (n : Nat) (s : Hw) : Hw :=
  if s.legState n = lgRun ∧ !(s.legOf n).softNext then
    let due := s.cycles + 16 * s.get (LEGn_CFG_SOFT_T n)
    (s.setLeg n lgSoft).onLeg n fun l => { l with out := { soft := true }, due := some due, lock := false, disNext := false }
  else s

/-- A leg's pending enable that fails its conditions is dropped: flagged and logged (R40). -/
def legDrop (n : Nat) (s : Hw) : Hw :=
  if s.flag (LEGn_STAT_PEND n) then
    (legPend ((s.put (LEGn_STAT_PEND n) 0).raiseBit SYS_PEND_DROPPED 0)).logInternal (0xF1000000 + 0x0802) (2 ^ n) 0
  else s

/-- A leg comes to FAULT: a pending enable of it can no longer meet its conditions (R253). -/
def legFault (n : Nat) (s : Hw) : Hw :=
  let s := legTo n s.cycles s
  legDrop n ((s.setLeg n lgFault).onLeg n fun l => { l with out := {}, due := none, softNext := false, enNext := false })

/-- The present instant moved on to timebase cycle `t` counted from reset, where that lies ahead within the tick. -/
def Hw.toCycle (s : Hw) (t : Nat) : Hw := if !s.time.clockLost ∧ s.cycles < t then s.atCyc (t - s.time.base) else s

/-- An instant that falls due before the next tick boundary. -/
def Hw.fallsDue (s : Hw) (t : Nat) : Bool := decide (t ≤ s.time.base + s.tickLen)

/-- SOFT_TURNOFF_END of a leg: SOFT_T has elapsed, in SOFT or, whatever its state since, after the return of the timebase clock
(R264). A debug halt holds the pin of a SOFT that it found under way (R263). -/
def softEnd (n : Nat) (s : Hw) : Hw :=
  match (s.legOf n).due with
  | some t =>
    if s.legState n = lgRest ∨ (s.legOf n).held ∨ !s.fallsDue t then s
    else
      let s := legsNow (s.toCycle t)
      if s.legState n = lgSoft then
        if s.legLatched n then legFault n s
        else (s.setLeg n lgRest).onLeg n fun l => { l with out := {}, due := some (t + 256 * s.get LST_CTRL_REST) }
      else s.onLeg n fun l => { l with out := { l.out with soft := false }, due := none }
  | none => s

/-! ### Protection latches (R268 to R274) -/

/-- Cause bits of SWP_SWn_STAT, by the bit's position. -/
def cDesat : Nat := 30
def cUvp : Nat := 29
def cUvn : Nat := 28
def cTest : Nat := 27

/-- The fault code of a first cause (Table SWP-1). -/
def swpCode (n cause : Nat) : Nat := if cause = cDesat then (if n % 2 = 0 then 1 else 2) else if cause = cTest then 15 else 3

/-- The latch of switch `n` records a cause (R271). -/
def swpLatch (n cause : Nat) (s : Hw) : Hw :=
  let s := s.raise ⟨SWP_SWn_STAT n, cause, cause⟩
  if s.flag (SWP_SWn_STAT_LATCHED n) then s
  else
    let s := (((s.raise (SWP_SWn_STAT_LATCHED n)).put (SWP_SWn_STAT_FCODE n) (swpCode n cause)).bump (SWP_SWn_STAT_FLT_CNT n)).put
      (SWP_SWn_TICK_FLT_TICK n) s.nextTick
    let s := s.raiseBit SWP_SUMMARY_LATCHED n
    s.trgCode 0

/-- The force of R268 in the present cycle: both commands low, GD_SOFT high. SOFT follows in the next cycle, and SOFT_T counts from
it. -/
def legForce (n : Nat) (s : Hw) : Hw :=
  let s := legTo n s.cycles s
  let due := s.cycles + 1 + 16 * s.get (LEGn_CFG_SOFT_T n)
  s.onLeg n fun l => { l with out := { soft := true }, due := some due, lock := false, softNext := true, disNext := false, held := false }

/-- A latch through the path of R268: the leg is forced off softly, or comes to FAULT. -/
def swpTrip (n cause : Nat) (s : Hw) : Hw :=
  let s := swpLatch n cause (legsNow s)
  let leg := n / 2
  let st := s.legState leg
  if (s.legOf leg).softNext then s
  else if st = lgRun ∨ (st = lgOff ∧ cause = cTest) then legForce leg s
  else if st = lgOff ∨ st = lgRest then legFault leg s
  else s

/-- A detection in the cycle in which SWP_CLEAR has cleared the switch's latch: the latch stays set, with the new cause, and the leg in
FAULT (R273). -/
def swpKeep (n cause : Nat) (w : Word) (s : Hw) : Hw :=
  let fs := [SWP_SWn_STAT_LATCHED n, SWP_SWn_STAT_FCODE n] ++ [cDesat, cUvp, cUvn, cTest].map fun c => (⟨SWP_SWn_STAT n, c, c⟩ : Fld)
  let s := (fs.foldl (fun s f => s.put f (f.of w)) s).raise ⟨SWP_SWn_STAT n, cause, cause⟩
  let s := s.raiseBit SWP_SUMMARY_LATCHED n
  if s.legState (n / 2) = lgOff then s.setLeg (n / 2) lgFault else s

/-- Desaturation of switch `n` (R266, R267): three counting samples have read high. None counts while the timebase clock is lost (R273). -/
def desatDetect (n : Nat) (s : Hw) : Hw :=
  let s := legsNow s
  let l := s.legOf (n / 2)
  -- the sample precedes a change of the command in its own cycle (R273); a command that a debug halt holds was the same a cycle ago
  let held := s.legState (n / 2) == lgRun && !l.lock && s.lst.halt.any fun t => decide (t < s.cycles)
  let was := if held then l.out else l.out1
  let on := if n % 2 = 0 then l.out.gu || was.gu else l.out.gl || was.gl
  let rise := if n % 2 = 0 then l.riseU else l.riseL
  let s := s.raise (SWP_SWn_STAT_DSAT_NOW n)
  if on ∧ rise + 8 * s.get (SWP_SWn_CFG_BLANK n) + 2 ≤ s.cycles ∧ s.flag (SWP_SWn_CFG_DSAT_EN n) ∧ !s.standby ∧ !s.time.clockLost then
    swpTrip n cDesat s
  else s

/-- The NOW bit of a rail. -/
def uvNow (n : Nat) (neg : Bool) : Fld := if neg then SWP_SWn_STAT_UVN_NOW n else SWP_SWn_STAT_UVP_NOW n

/-- An under-voltage accepted (R269, R270). -/
def uvAccept (n : Nat) (neg : Bool) (s : Hw) : Hw :=
  let s := (legsNow s).raise (uvNow n neg)
  let st := s.legState (n / 2)
  let cause := if neg then cUvn else cUvp
  if !s.flag (SWP_SWn_CFG_UV_EN n) ∨ s.standby then s
  else if (s.lst.cleared.find? fun p => p.1 == n).any fun p => p.2.1 == s.cycles then
    swpKeep n cause (smapGet (0, 0) s.lst.cleared n).2 s
  else if st = lgRun ∨ st = lgSoft then swpTrip n cause s
  else s

/-- An enabled under-voltage is present on a switch. -/
def Hw.uvPresent (s : Hw) (n : Nat) : Bool :=
  s.flag (SWP_SWn_CFG_UV_EN n) && (s.flag (SWP_SWn_STAT_UVP_NOW n) || s.flag (SWP_SWn_STAT_UVN_NOW n))

/-- The causes of a switch's present under-voltages latch at an enable (R270). -/
def swpAtEnable (n : Nat) (s : Hw) : Hw :=
  if s.uvPresent n then
    let s := if s.flag (SWP_SWn_STAT_UVP_NOW n) then swpLatch n cUvp s else s
    if s.flag (SWP_SWn_STAT_UVN_NOW n) then swpLatch n cUvn s else s
  else s

/-- A leg starts from counter 0 with its shadow values loaded, unless its gate supplies bar it. -/
def legStart (n : Nat) (s : Hw) : Hw :=
  let s := s.put (LEGn_STAT_PEND n) 0
  if !s.standby ∧ (s.uvPresent (2 * n) ∨ s.uvPresent (2 * n + 1)) then legFault n (swpAtEnable (2 * n + 1) (swpAtEnable (2 * n) s))
  else
    let g := s.legCfg n
    let now := s.cycles
    let l := s.legOf n
    let l0 : LegSt := { at_ := now, out := l.out, out1 := l.out1, out2 := l.out2, cmt := 1, riseU := l.riseU, riseL := l.riseL, due := l.due }
    let (l1, f) := legReload g now l0
    let (l2, shoot) := legDrive g now true (s.legLatched n) l1
    legRegs n { f with shoot := shoot } ((s.setLeg n lgRun).onLeg n fun _ => l2)

/-- LEG_REST_END of a leg: REST has elapsed; a pending enable is checked again (R253). In a debug halt a REST that it found under way
stands still, and no leg starts, since nothing reloads (R263). -/
def restEnd (n : Nat) (s : Hw) : Hw :=
  match (s.legOf n).due with
  | some t =>
    if s.legState n = lgRest ∧ s.fallsDue t ∧ !(s.legOf n).held ∧ !(s.lst.halt.isSome && s.flag (LEGn_STAT_PEND n)) then
      let s := legsNow (s.toCycle t)
      let s := (s.setLeg n lgOff).onLeg n fun l => { l with due := none }
      if s.flag (LEGn_STAT_PEND n) then
        if s.mode = mTripped ∨ s.standby then legDrop n s else legPend (legStart n s)
      else s
    else s
  | none => s

/-- A leg leaves FAULT for OFF once nothing holds it (R272). -/
def legFree (n : Nat) (s : Hw) : Hw :=
  if s.legState n = lgFault ∧ !s.legLatched n ∧ !s.flag (LEGn_STAT_CLK_LOSS n) then s.setLeg n lgOff else s

/-! ### Tick boundary and Sequencer latch -/

/-- The legs at cycle 0 of a tick: disables and enables of the tick, which wait for the end of a debug halt (R263, R265). `tripped` marks
the first tick in TRIPPED (R262). -/
def legsTick (tripped : Bool) (s : Hw) : Hw :=
  let s := legsNow s
  s.each ((List.range numLegs).filter fun n => decide (s.legOf n ≠ {})) fun n s =>
    let l := s.legOf n
    let s := if l.disNext ∧ s.lst.halt.isNone then legSoft n s else s
    let s := if tripped ∧ !s.flag (LEGn_CFG_TRIP_ACT n) then legSoft n s else s
    if l.enNext ∧ s.lst.halt.isNone then
      let s := s.onLeg n fun l => { l with enNext := false }
      if s.legState n = lgOff ∧ !tripped then legStart n s else s
    else s

/-- The cause PROTECTION in the tick in progress (R271). -/
def swpTick (s : Hw) : Hw :=
  let on := (bitsOf 24 (s.get SWP_SUMMARY_LATCHED)).any fun n => s.flag (LEGn_CFG_TRIP_REL (n / 2))
  let s := s.causeActive cProtection on
  if on then s.tripNow cProtection else s

/-- A shadow write of CMP (and DU, DL) or of PER lands in the present cycle. -/
def legWritten (n : Nat) (per cmp : Bool) (s : Hw) : Hw :=
  let l := s.legOf n
  let late := decide (l.reloadAt = some s.cycles) && s.legState n == lgRun && s.flag (LEGn_CFG_LATE_EN n) && !s.flag (LEGn_CFG_COMMIT_MODE n)
  let s := if late then s.raise (LEGn_STAT_LATE_WRITE n) else s
  s.onLeg n fun l => { l with wPer := l.wPer || per, wCmp := l.wCmp || cmp }

/-- A leg takes its update from its source at the Sequencer latch (R256). -/
def legSource (n : Nat) (s : Hw) : Hw :=
  let src := s.get (LEGn_CFG_DSRC n)
  let eng := s.get (LEGn_SRC_ENG n)
  if src = 0 ∨ (src = 1 ∧ !s.feedsSeq eng) then s
  else
    let w := if src = 1 then smapGet 0 s.le.seqIn (outArea eng + s.get (LEGn_SRC_WORD n)) else smapGet 0 s.le.seqIn (outArea 11 + 6)
    let s := if src = 1 ∧ s.flag (LEGn_CFG_MODE n) then
        (s.putb (LEGn_CMP_DU n) (bitOf w 1)).putb (LEGn_CMP_DL n) (bitOf w 0)
      else
        let p := s.get (LEGn_PER_PER n) + if s.flag (LEGn_CFG_ALIGN n) then 0 else 1
        s.put (LEGn_CMP_CMP n) (min 65535 (((signed 16 w).toNat * p + 2 ^ 14) / 2 ^ 15))
    (legWritten n false (!(src == 1 && s.flag (LEGn_CFG_MODE n))) s).onLeg n fun l => { l with cmt := if l.cmt = 1 then 1 else 2 }

/-- The pattern index that a group's source selects now (Table LST-2). -/
def Hw.groupIdx (s : Hw) (g : Nat) : Nat :=
  let src := s.get (LST_GRPg_CFG_MSRC g)
  let sel := s.get (LST_GRPg_CFG_SEL g)
  let arg := s.get (LST_GRPg_CFG_ARG g)
  if src = 0 then s.get (LST_GRPg_CFG_IDX g)
  else if src = 1 then
    if s.feedsSeq sel then smapGet 0 s.le.seqIn (outArea sel + arg) % 8 else s.get (LST_GRPg_CFG_ACT_IDX g)
  else if src = 2 then if arg ≤ smapGet 0 s.xram (toneWord (sel / 16) (sel % 16) + 1) then 1 else 0
  else if src = 3 then s.lst.evt / 2 ^ sel % 8
  else if smapGet 0 s.le.seqIn (outArea 11 + 6) = 0 then 0 else 1

/-- The pattern of a group as its source stands. -/
def groupNow (g : Nat) (s : Hw) : Hw := s.put (LST_GRPg_CFG_ACT_IDX g) (s.groupIdx g)

/-- A group whose source is immediate takes its pattern index from its settings as they stand. -/
def groupSet (g : Nat) (t : Hw) : Hw := if [0, 3].contains (t.get (LST_GRPg_CFG_MSRC g)) then groupNow g t else t

/-- Settings that boot or STORE_REVERT has loaded (R261). -/
def groupsLoad (s : Hw) : Hw := s.each (List.range 4) groupSet

/-- A leg is forced into the state that its ACTIVE twin has (R251, R274). An own leg in that state goes on. DESIGN CHOICE (log entry
147): a SOFT or a REST that the twin is made to enter lasts its full time from here. -/
def takeLeg (n st : Nat) (s : Hw) : Hw :=
  if s.legState n = st then s
  else
    let s := legTo n s.cycles s
    let now := s.cycles
    let due := if st = lgSoft then some (now + 16 * s.get (LEGn_CFG_SOFT_T n))
      else if st = lgRest then some (now + 256 * s.get LST_CTRL_REST) else none
    (s.setLeg n st).onLeg n fun l => { l with out := { soft := decide (st = lgSoft) }, due := due, softNext := false, lock := false, held := false }

/-- The Local Stage at the Sequencer latch: sources and patterns. Nothing is taken during a debug halt. -/
def legsLatch (s : Hw) : Hw :=
  let s := legsNow s
  if s.lst.halt.isSome then s
  else
    let s := s.each ((List.range numLegs).filter fun n => s.get (LEGn_CFG_DSRC n) != 0) legSource
    s.each ((List.range 4).filter fun g => [1, 2, 4].contains (s.get (LST_GRPg_CFG_MSRC g))) groupNow

/-- LEG_RELOAD of a leg: the present instant moves on to its next reload, where one falls before the next tick boundary. -/
def legNextReload (n : Nat) (s : Hw) : Hw :=
  let s := legsNow s
  if s.legState n ≠ lgRun ∨ s.lst.halt.isSome then s
  else
    let g := s.legCfg n
    let l0 := s.legOf n
    let room := s.time.base + s.tickLen - s.cycles
    let l1 := (List.range room).foldl (fun (l : LegSt) _ => if l.reloadAt = l0.reloadAt then (legCycle g (s.legLatched n) (l, {})).1 else l) l0
    if l1.reloadAt = l0.reloadAt then s
    else match l1.reloadAt with
      | some t => legsNow (s.toCycle t)
      | none => s

/-! ### Halts and clocks (R263, R264, R326) -/

/-- What a debug halt has held in SOFT or REST for `d` cycles goes on from where it stood. -/
def legsGoOn (d : Nat) (s : Hw) : Hw :=
  s.each ((List.range numLegs).filter fun n => (s.legOf n).held) fun n s =>
    s.onLeg n fun l => { l with held := false, due := l.due.map (· + d) }

/-- A debug halt of the Local Stage begins. DEDUCED (log entry 163): the times of SOFT and REST count too, and stand still. -/
def lstHalt (s : Hw) : Hw :=
  let s := legsNow s
  let s := { s with lst := { s.lst with halt := some s.cycles } }
  let s := if s.get LST_CTRL_HALT_HOLD = 0 then s
    else s.each ((List.range numLegs).filter fun n => (s.legOf n).due.isSome) fun n s => s.onLeg n fun l => { l with held := true }
  if s.get LST_CTRL_HALT_HOLD = 0 then
    s.each (List.range numLegs) fun n s => if s.legState n = lgRun then (legSoft n s).raise (LEGn_STAT_HALT_SAFE n) else s
  else s

/-- HALT_HOLD_EXPIRY: the halt has lasted HALT_HOLD cycles, and counting goes on for what is no longer frozen. -/
def haltExpiry (s : Hw) : Hw :=
  match s.lst.halt with
  | some t =>
    let t := t + s.get LST_CTRL_HALT_HOLD
    if s.fallsDue t then
      let s := legsGoOn (s.get LST_CTRL_HALT_HOLD) (legsNow (s.toCycle t))
      s.each (List.range numLegs) fun n s => if s.legState n = lgRun then (legSoft n s).raise (LEGn_STAT_HALT_SAFE n) else s
    else s
  | none => s

/-- The halt of the Local Stage ends. -/
def lstHaltEnd (s : Hw) : Hw :=
  let s := legsNow s
  let s := legsGoOn (s.cycles - s.lst.halt.getD s.cycles) s
  let s := { s with lst := { s.lst with halt := none } }
  let s := s.each ((List.range 4).filter fun g => s.get (LST_GRPg_CFG_MSRC g) == 3) groupNow
  s.each (List.range numLegs) fun n s => if (s.legOf n).disNext then legSoft n s else s

/-- Loss of the timebase clock (R264). -/
def lstClockLoss (s : Hw) : Hw :=
  let s := legsNow s
  let s := { s with lst := { s.lst with asyncSafe := true } }
  s.each (List.range numLegs) fun n s =>
    legFault n (s.raise (LEGn_STAT_CLK_LOSS n))

/-- Its return: the GD_SOFT pins stay high for SOFT_T. -/
def lstClockReturn (s : Hw) : Hw :=
  let s := { s with lst := { s.lst with asyncSafe := false } }
  s.each ((List.range numLegs).filter fun n => s.flag (LEGn_STAT_CLK_LOSS n)) fun n s =>
    let due := s.cycles + 16 * s.get (LEGn_CFG_SOFT_T n)
    s.onLeg n fun l => { l with out := { soft := true }, out1 := { soft := true }, out2 := { soft := true }, due := some due }

/-- Loss of the core clock (R326): a soft turn-off of every leg in RUN. -/
def lstCoreLoss (s : Hw) : Hw := let s := legsNow s; s.each (List.range numLegs) legSoft

end Sys2Proof.Machine
end

