-- ==== Sys2Proof/Machine/Protection.lean ====
section
/-! DEFINITION. Commands, register writes and events of the Local Stage and of switch protection (13_local_stage.md,
14_switch_protection.md). -/

namespace Sys2Proof.Machine

/-! ### What the registers may hold -/

/-- A leg is in OFF or FAULT. -/
def Hw.legAtRest (s : Hw) (n : Nat) : Bool := [lgOff, lgFault].contains (s.legFound n)

/-- Fields of R259 would change while the leg is in another state. -/
def legRunningBad (s t : Hw) (n : Nat) : Bool :=
  !s.legAtRest n && ([LEGn_CFG_MODE n, LEGn_CFG_ALIGN n, LEGn_CFG_DSRC n, LEGn_CFG_TRIP_ACT n, LEGn_CFG_SOFT_T n, LEGn_SRC_ENG n,
    LEGn_SRC_WORD n].any fun f => s.get f != t.get f)

/-- The ranges of Tables LST-5 to LST-9. -/
def legRangeBad (n : Nat) (t : Hw) : Bool :=
  t.get (LEGn_CFG_DSRC n) == 3 || t.get (LEGn_CFG_SOFT_T n) == 0 || t.get (LEGn_PER_PER n) == 0 || t.get (LEGn_DT_BOOT_N n) == 0 ||
  outside 52 1280 (t.get (LEGn_DT_BOOT_MIN n)) || decide (1024 < t.get (LEGn_DT_DT n)) || decide (23 < t.get (LEGn_SRC_ENG n))

/-- A pattern word may stand (R261). -/
def patOk (v : Nat) : Bool :=
  (List.range 3).all fun l =>
    let u := v / 4 ^ (2 * l + 1) % 4
    let w := v / 4 ^ (2 * l) % 4
    u != 3 && w != 3 && !(u == 2 && w == 2)

/-- A group's configuration word may stand (Tables LST-2 and LST-14). -/
def groupOk (t : Hw) (g : Nat) : Bool :=
  let sel := t.get (LST_GRPg_CFG_SEL g)
  match t.get (LST_GRPg_CFG_MSRC g) with
  | 0 => true
  | 1 => decide (sel ≤ 23)
  | 2 => true
  | 3 => decide (sel ≤ 5)
  | 4 => true
  | _ => false

/-- The ranges of Tables LST-11 and LST-13. -/
def lstCtrlBad (t : Hw) : Bool :=
  outside 2 1000 (t.get LST_CTRL_REST) ||
    ([0, 1].any fun j => [LST_EVTFLTj_FLT0 j, LST_EVTFLTj_FLT1 j, LST_EVTFLTj_FLT2 j, LST_EVTFLTj_FLT3 j].any fun f =>
      decide (64 < t.get f))

/-- A leg's bit in LST_COMMIT written (R258). -/
def legCommit (n : Nat) (s : Hw) : Hw :=
  if s.flag (LEGn_CFG_COMMIT_MODE n) then (s.onLeg n fun l => { l with cmt := 1 }).raise (LEGn_STAT_COMMIT_PEND n) else s

/-- Writes in the Local Stage's window. -/
def lstWrite (s : Hw) (w : Wr) : Judged :=
  let s := legsNow s
  let t := s.writeAs w
  if w.addr < LST_CTRL then
    let n := (w.addr - LEGn_CFG 0) / 0x20
    let t := if w.addr = LEGn_PER n ∨ w.addr = LEGn_CMP n then legWritten n (w.touches (LEGn_PER_PER n)) (w.touches (LEGn_CMP_CMP n)) t
      else t
    judge [(legRangeBad n t, .range), (legRunningBad s t n, .legRunning), (w.addr == LEGn_CMP n && s.get (LEGn_CFG_DSRC n) != 0, .legSrc)] t
  else if w.addr = LST_CTRL ∨ w.addr = LST_EVTFLTj 0 ∨ w.addr = LST_EVTFLTj 1 then judge [(lstCtrlBad t, .range)] t
  else if w.addr = LST_COMMIT then .ok (s.each (legsOf w.acts) legCommit)
  else if w.addr ≤ LST_GRPg_CFG 3 then
    let g := (w.addr - LST_GRPg_CFG 0) / 4
    judge [(!groupOk t g, .range)] (groupSet g t)
  else judge [(!patOk w.new.toNat, .range)] t

/-- Writes in the protection window. -/
def swpWrite (s : Hw) (w : Wr) : Judged :=
  let s := legsNow s
  let t := s.writeAs w
  if w.addr = SWP_CTRL then judge [(decide (64 < t.get SWP_CTRL_UV_FLT), .range)] t
  else if w.addr < SWP_CTRL then
    let n := (w.addr - SWP_SWn_CFG 0) / 0x10
    judge [(outside 8 256 (t.get (SWP_SWn_CFG_BLANK n)), .range), (!s.legAtRest (n / 2), .legRunning)] t
  else .ok t

/-! ### Local Stage commands (Table LST-3) -/

/-- 0x0800 LST_STATUS_GET. -/
def execLstStatusGet (h : Hdr) (s : State) : Host.Outcome State Fault Refusal :=
  .next (s.onHw (hostCmd (Op.plain 0x0800 .viewer) (.lstStatusGet h) h fun s =>
    let s := legsNow s
    checked s [] (answer s (regBytes s ([LST_CTRL] ++ (List.range numLegs).map LEGn_STAT ++ (List.range 4).map LST_GRPg_CFG)))))

/-- 0x0801 LST_LEG_CFG_SET. -/
def execLstLegCfgSet (h : Hdr) (leg cfg per dt src : Nat) (s : State) : Host.Outcome State Fault Refusal :=
  .next (s.onHw (hostCmd (Op.plain 0x0801 .engineer) (.lstLegCfgSet h leg cfg per dt src) h fun s =>
    let as := [LEGn_CFG leg, LEGn_PER leg, LEGn_DT leg, LEGn_SRC leg]
    let u := legsNow s
    let t := (as.zip [cfg, per, dt, src]).foldl (fun s p => s.setWord p.1 p.2) u
    checked s [(decide (numLegs ≤ leg) || legRangeBad leg t, .range), (legRunningBad u t leg, .legRunning)]
      (change (legWritten leg true false t) (regChgs s t as))))

/-- 0x0802 LST_LEG_ENABLE (R253). -/
def execLstLegEnable (h : Hdr) (mask : Nat) (s : State) : Host.Outcome State Fault Refusal :=
  .next (s.onHw (hostCmd (Op.plain 0x0802 .operator) (.lstLegEnable h mask) h fun s =>
    let ls := legsOf mask
    let u := legsNow s
    let wait := ls.filter fun n => [lgSoft, lgRest].contains (u.legFound n)
    checked s [(s.standby, .twinStandby), (s.mode == mTripped || !s.ops.cfgValid, .modeNotAllowed),
      (ls.any fun n => u.legFound n == lgFault, .legFault)]
      (let t := u.each ls fun n s =>
         if s.legFound n = lgOff then s.onLeg n fun l => { l with enNext := true, disNext := false }
         else if [lgSoft, lgRest].contains (s.legFound n) then s.raise (LEGn_STAT_PEND n)
         else s.onLeg n fun l => { l with disNext := false }
       { hw := legPend t, status := if wait.isEmpty then .ok else .enableDeferred, log := cmdChg 0x0802 0 mask })))

/-- 0x0803 LST_LEG_DISABLE: a soft turn-off from the next tick, and the end of a pending enable. -/
def execLstLegDisable (h : Hdr) (mask : Nat) (s : State) : Host.Outcome State Fault Refusal :=
  .next (s.onHw (hostCmd (Op.plain 0x0803 .operator) (.lstLegDisable h mask) h fun s =>
    checked s []
      (let t := (legsNow s).each (legsOf mask) fun n s =>
         if s.legFound n = lgRun then s.onLeg n fun l => { l with disNext := true }
         else (s.put (LEGn_STAT_PEND n) 0).onLeg n fun l => { l with enNext := false }
       change (legPend t) (cmdChg 0x0803 0 mask))))

/-- 0x0804 LST_UPDATE: both shadow values in one cycle. -/
def execLstUpdate (h : Hdr) (leg : Nat) (perValid cmpValid commit : Bool) (per cmp : Nat) (s : State) :
    Host.Outcome State Fault Refusal :=
  .next (s.onHw (hostCmd (Op.plain 0x0804 .operator) (.lstUpdate h leg perValid cmpValid commit per cmp) h fun s =>
    let u := legsNow s
    let t := if perValid then u.setWord (LEGn_PER leg) per else u
    let t := if cmpValid then t.setWord (LEGn_CMP leg) cmp else t
    checked s [(decide (numLegs ≤ leg) || t.get (LEGn_PER_PER leg) == 0, .range),
      (cmpValid && s.get (LEGn_CFG_DSRC leg) != 0, .legSrc)]
      (let log := regChgs s t [LEGn_PER leg, LEGn_CMP leg]
       let t := legWritten leg perValid cmpValid t
       if commit then change (legCommit leg t) (log ++ cmdChg 0x0804 0 leg) else change t log)))

/-- 0x0805 LST_GROUP_SET. -/
def execLstGroupSet (h : Hdr) (group cfg : Nat) (pats : List Nat) (s : State) : Host.Outcome State Fault Refusal :=
  .next (s.onHw (hostCmd (Op.plain 0x0805 .engineer) (.lstGroupSet h group cfg pats) h fun s =>
    let as := LST_GRPg_CFG group :: (List.range 8).map (LST_GRPg_PATk group)
    let u := legsNow s
    let t := groupSet group ((as.zip (cfg :: pats)).foldl (fun s p => s.setWord p.1 p.2) u)
    checked s [(decide (4 ≤ group) || !groupOk t group || !(pats.all patOk), .range), (decide (pats.length ≠ 8), .length)]
      (change t (regChgs s t as))))

/-- 0x0807 LST_CTRL_SET. -/
def execLstCtrlSet (h : Hdr) (ctrl evt0 evt1 : Nat) (s : State) : Host.Outcome State Fault Refusal :=
  .next (s.onHw (hostCmd (Op.plain 0x0807 .engineer) (.lstCtrlSet h ctrl evt0 evt1) h fun s =>
    let as := [LST_CTRL, LST_EVTFLTj 0, LST_EVTFLTj 1]
    let t := (as.zip [ctrl, evt0, evt1]).foldl (fun s p => s.setWord p.1 p.2) s
    checked s [(lstCtrlBad t, .range)] (change t (regChgs s t as))))

/-! ### Protection commands (Table SWP-2) -/

/-- The switches of a mask. -/
def switchesOf (mask : Nat) : List Nat := bitsOf 24 mask

/-- 0x0820 SWP_STATUS_GET. -/
def execSwpStatusGet (h : Hdr) (s : State) : Host.Outcome State Fault Refusal :=
  .next (s.onHw (hostCmd (Op.plain 0x0820 .viewer) (.swpStatusGet h) h fun s =>
    checked s []
      (answer s (regBytes s ([SWP_CTRL, SWP_SUMMARY] ++ (List.range 24).flatMap fun n => [SWP_SWn_STAT n, SWP_SWn_TICK n])))))

/-- 0x0821 SWP_CFG_SET. -/
def execSwpCfgSet (h : Hdr) (sw cfg uv : Nat) (s : State) : Host.Outcome State Fault Refusal :=
  .next (s.onHw (hostCmd (Op.plain 0x0821 .engineer) (.swpCfgSet h sw cfg uv) h fun s =>
    let u := legsNow s
    let t := (u.setWord (SWP_SWn_CFG sw) cfg).setWord (SWP_SWn_UV sw) uv
    checked s [(decide (24 ≤ sw) || outside 8 256 (t.get (SWP_SWn_CFG_BLANK sw)), .range), (!u.legAtRest (sw / 2), .legRunning)]
      (change t (regChgs s t [SWP_SWn_CFG sw, SWP_SWn_UV sw]))))

/-- The latch of a switch cleared (R272). -/
def swpUnlatch (n : Nat) (s : Hw) : Hw :=
  let a := SWP_SWn_STAT n
  let w := s.reg a
  let s := ([SWP_SWn_STAT_LATCHED n, SWP_SWn_STAT_FCODE n] ++ [cDesat, cUvp, cUvn, cTest].map fun c => (⟨a, c, c⟩ : Fld)).foldl
    (fun s f => s.put f 0) s
  let s := s.clearBit SWP_SUMMARY_LATCHED n
  { s with lst := { s.lst with cleared := smapSet (0, 0) s.lst.cleared n (s.cycles, w) } }

/-- 0x0822 SWP_CLEAR. -/
def execSwpClear (h : Hdr) (mask : Nat) (s : State) : Host.Outcome State Fault Refusal :=
  .next (s.onHw (hostCmd (Op.plain 0x0822 .operator) (.swpClear h mask) h fun s =>
    let ns := switchesOf mask
    let u := legsNow s
    checked s [(ns.any s.uvPresent, .causePresent), (ns.any fun n => !s.flag (SWP_SWn_STAT_LATCHED n), .notLatched),
      (ns.any fun n => u.legFound (n / 2) == lgSoft, .legBusy)]
      (change ((u.each ns swpUnlatch).each (List.range numLegs) legFree) (cmdChg 0x0822 (s.get SWP_SUMMARY_LATCHED) mask))))

/-- 0x0823 SWP_TEST (R277). -/
def execSwpTest (h : Hdr) (mask : Nat) (s : State) : Host.Outcome State Fault Refusal :=
  .next (s.onHw (hostCmd (Op.plain 0x0823 .engineer) (.swpTest h mask) h fun s =>
    let ns := switchesOf mask
    let u := legsNow s
    checked s [(!s.cfgMode, .modeNotAllowed), (ns.any fun n => u.legFound (n / 2) != lgOff, .legRunning)]
      (change (u.each ns fun n s => swpTrip n cTest s) (cmdChg 0x0823 (s.get SWP_SUMMARY_LATCHED) mask))))

/-- 0x0824 SWP_CTRL_SET. -/
def execSwpCtrlSet (h : Hdr) (ctrl : Nat) (s : State) : Host.Outcome State Fault Refusal :=
  .next (s.onHw (hostCmd (Op.plain 0x0824 .engineer) (.swpCtrlSet h ctrl) h fun s =>
    let t := s.setWord SWP_CTRL ctrl
    checked s [(decide (64 < t.get SWP_CTRL_UV_FLT), .range)] (change t (regChgs s t [SWP_CTRL]))))

/-! ### Events -/

/-- An event at timebase cycle `cyc` of the tick: the present instant moves on to it where it lies ahead within the tick. No cycle is counted
while the timebase is lost (R317). -/
def Hw.atEvent (s : Hw) (cyc : Nat) : Hw :=
  if !s.time.clockLost ∧ s.time.cyc < cyc ∧ cyc < s.tickLen then s.atCyc cyc else s

/-- LEG_RELOAD of a leg. -/
def execLegReload (leg : Nat) (s : State) : Host.Outcome State Fault Refusal :=
  .next (s.onHw (onRun fun s => if leg < numLegs then legNextReload leg s else s))

/-- SOFT_TURNOFF_END of a leg. -/
def execSoftTurnoffEnd (leg : Nat) (s : State) : Host.Outcome State Fault Refusal :=
  .next (s.onHw (onRun fun s => if leg < numLegs then softEnd leg s else s))

/-- LEG_REST_END of a leg. -/
def execLegRestEnd (leg : Nat) (s : State) : Host.Outcome State Fault Refusal :=
  .next (s.onHw (onRun fun s => if leg < numLegs then restEnd leg s else s))

/-- EVT_PIN_CHANGE: the filtered level of an EVT pin (R261). -/
def execEvtPinChange (pin cyc : Nat) (high : Bool) (s : State) : Host.Outcome State Fault Refusal :=
  .next (s.onHw (onRun fun s =>
    if 8 ≤ pin then s
    else
      let s := legsNow (s.atEvent cyc)
      let s := { s with lst := { s.lst with evt := if high then bitSet s.lst.evt pin else bitClear s.lst.evt pin } }
      if s.lst.halt.isSome then s
      else s.each ((List.range 4).filter fun g => s.get (LST_GRPg_CFG_MSRC g) == 3) groupNow))

/-- DESAT_DETECT: the comparator of a switch has read high in three consecutive cycles up to `cyc`, or (`high` false) reads low
again. -/
def execDesatDetect (sw cyc : Nat) (high : Bool) (s : State) : Host.Outcome State Fault Refusal :=
  .next (s.onHw (onRun fun s =>
    if 24 ≤ sw then s
    else
      let s := s.atEvent cyc
      if high then desatDetect sw s else s.put (SWP_SWn_STAT_DSAT_NOW sw) 0))

/-- UV_ACCEPT: an asserted under-voltage of a rail has held for UV_FLT. -/
def execUvAccept (sw cyc : Nat) (neg : Bool) (s : State) : Host.Outcome State Fault Refusal :=
  .next (s.onHw (onRun fun s => if 24 ≤ sw then s else uvAccept sw neg (s.atEvent cyc)))

/-- UV_RELEASE: the rail has risen above its threshold plus hysteresis. -/
def execUvRelease (sw : Nat) (neg : Bool) (s : State) : Host.Outcome State Fault Refusal :=
  .next (s.onHw (onRun fun s => if 24 ≤ sw then s else s.put (uvNow sw neg) 0))

/-- HALT_HOLD_EXPIRY. -/
def execHaltHoldExpiry (s : State) : Host.Outcome State Fault Refusal := .next (s.onHw (onRun haltExpiry))

end Sys2Proof.Machine
end

