-- ==== Sys2Proof/Machine/Modes.lean ====
section
/-! DEFINITION. Operating modes: what belongs to a tick changes the mode from the next (R29 to R44, R449, R450). -/

namespace Sys2Proof.Machine

/-! ### Requests (Table MOD-2) -/

/-- The opcode that makes a request. -/
def ModeReq.opcode : ModeReq → Nat
  | .enterCommission => 0x0101
  | .leaveCommission => 0x0102
  | .energize _ => 0x0103
  | .deblock => 0x0104
  | .block => 0x0105
  | .tripReset _ => 0x0107

/-- The parameter that a log entry of a request names: the method of ENERGIZE. -/
def ModeReq.param : ModeReq → Nat
  | .energize m => m
  | _ => 0

/-- The modes from which a request may be granted. -/
def ModeReq.from_ : ModeReq → List Nat
  | .enterCommission => [mBlocked]
  | .leaveCommission => [mCommission]
  | .energize _ => [mBlocked]
  | .deblock => [mBlocked, mEnergize]
  | .block => [mEnergize, mForm, mRide]
  | .tripReset _ => [mTripped]

/-- The mode to which it leads. -/
def ModeReq.to : ModeReq → Nat
  | .enterCommission => mCommission
  | .leaveCommission => mBlocked
  | .energize _ => mEnergize
  | .deblock => mForm
  | .block => mBlocked
  | .tripReset _ => mBlocked

/-- The trip causes asserted now, and those latched. -/
def Hw.causes (s : Hw) : Nat := s.get SYS_TRIPCAUSE_ACTIVE
def Hw.latched (s : Hw) : Nat := s.get SYS_TRIPCAUSE_LATCHED

/-- The measured pole-to-pole DC voltage: the quantities v_dcp and v_dcn as released last. -/
def Hw.vdcMeas (s : Hw) : Int := kQty s s.xram 6 - kQty s s.xram 7

/-- The levels that TRIP_OUT0 and TRIP_OUT1 drive: `some true` high, `none` high-impedance (R38, R39, R41). DESIGN CHOICE (log
entry 125): a part that only DEVID_MISMATCH keeps on the ROM's server drives them where its stored configuration is valid. -/
def Hw.tripOut (s : Hw) : Option Bool :=
  if s.inReset || s.strapReeve || !s.ops.cfgValid || s.flag SYS_MODE_FW_UNVERIFIED then none
  else some (!(s.mode == mTripped || (s.mode == mCommission && s.latched != 0)))

/-! ### Conditions (R449, Table MOD-14) -/

/-- Lanes with EN = 1 that are not in RUN with HUB_OK. -/
def Hw.lanesUnready (s : Hw) : List Nat := s.lanesInUse.filter fun n => !s.lanePays n

/-- A lane from which R33 brings electrical idle to an end. -/
def Hw.laneIdles (s : Hw) (n : Nat) : Bool := [lnIdleEntry, lnIdle, lnExit].contains (s.laneState n)

/-- The conditions of a start out of BLOCKED, as bits 4 to 10 of the condition word (Tables MOD-2 and MOD-14): `lanes` says that the
lanes fail, `eng` that a criterion of ENG_CRIT does. -/
def Hw.startBits (s : Hw) (lanes eng : Bool) : Nat :=
  let b := fun (bad : Bool) (k : Nat) => if bad then 2 ^ k else 0
  b (s.causes != 0) 4 + b (!s.ops.safPerm) 5 + b lanes 6 + b (!s.flag ALM_STAT_SET) 7 + b (s.flag ALM_STAT_TIME_INVALID) 8 +
    b (s.flag SHF_STAT_APPLY_TIGHT) 9 + b eng 10

/-- A criterion of R150 or of a hot deblock fails. -/
def Hw.startEngBad (s : Hw) : ModeReq → Bool
  | .energize m => !engMayStart s m
  | _ => !hotDeblock s

/-- The condition word of ENERGIZE and DEBLOCK_FORM (R150, R159, R160, R236, R303). In ENERGIZE a DEBLOCK_FORM needs the
completion criteria, valid time (R303) and APPLY_TIGHT = 0. -/
def Hw.startWord (s : Hw) (req : ModeReq) : Nat :=
  if s.mode = mEnergize then
    let done := s.get ENG_STAT_STAGE == 5 && (if s.flag ENG_STAT_METHOD then bsComplete s else hotDeblock s)
    let b := fun (bad : Bool) (k : Nat) => if bad then 2 ^ k else 0
    b (!s.flag ALM_STAT_SET) 7 + b (s.flag ALM_STAT_TIME_INVALID) 8 + b (s.flag SHF_STAT_APPLY_TIGHT) 9 + b (!done) 10
  else s.startBits (s.lanesUnready.any fun n => !s.laneIdles n) (s.startEngBad req)

/-- The condition word of LEAVE_COMMISSION. -/
def Hw.leaveWord (s : Hw) : Nat :=
  s.get SYS_MODE_FW_UNVERIFIED + 2 * s.get SYS_MODE_DEVID_MISMATCH + 4 * s.get SYS_MODE_CFG_INVALID + 8 * s.get SYS_MODE_SAFETY_UNCONF

/-- The 20 bytes of a condition report (R449). -/
def conditionReport (causes word crit lanes : Nat) : List Byte :=
  leBytes 2 causes ++ leBytes 2 0 ++ leBytes 4 word ++ leBytes 4 crit ++ leBytes 8 lanes

/-- The report of ENERGIZE and DEBLOCK_FORM. -/
def Hw.startReport (s : Hw) (word : Nat) : List Byte :=
  conditionReport s.causes word (engCrit s) (maskOf s.lanesUnready)

/-- The report of LEAVE_COMMISSION, a cause included. -/
def Hw.leaveReport (s : Hw) : List Byte :=
  conditionReport s.causes (s.leaveWord + if s.causes ||| s.latched ≠ 0 then 2 ^ 4 else 0) 0 0

/-- The causes that bar a TRIP_RESET: on a STANDBY its own (R44). -/
def Hw.resetBars (s : Hw) : Nat := if s.standby then s.causes &&& s.ops.ownLatched else s.causes

/-- A request's own conditions: the status, with its results, where one fails. -/
def Hw.unmet (s : Hw) (req : ModeReq) : Option (Status × List Byte) :=
  match req with
  | .energize _ | .deblock =>
    let w := s.startWord req
    if w = 0 then none else some (.conditionUnmet, s.startReport w)
  | .leaveCommission =>
    if s.leaveWord ≠ 0 then some (.conditionUnmet, s.leaveReport)
    else if s.causes ||| s.latched ≠ 0 then some (.causeActive, []) else none
  | .tripReset w =>
    if s.resetBars ≠ 0 then some (.causeActive, []) else if w ≠ s.latched then some (.causeMismatch, []) else none
  | .enterCommission | .block => none

/-! ### Pending enables of class VALVE (R40, R450) -/

/-- The pending enable of a class. -/
def Hw.pendOf (s : Hw) (cls : Nat) : Option PendEnable := smapGet none s.ops.pend cls

/-- `s` with the pending enable of a class, and its bit of SYS_PEND. -/
def Hw.setPend (s : Hw) (cls : Nat) (p : Option PendEnable) : Hw :=
  let s := { s with ops := { s.ops with pend := smapSet none s.ops.pend cls p } }
  s.put SYS_PEND_PENDING (if p.isSome then bitSet (s.get SYS_PEND_PENDING) cls else bitClear (s.get SYS_PEND_PENDING) cls)

/-- A pending enable that its recheck drops: flagged and logged. -/
def dropPend (cls : Nat) (s : Hw) : Hw :=
  match s.pendOf cls with
  | some p => ((s.setPend cls none).raiseBit SYS_PEND_DROPPED cls).logInternal (0xF1000000 + p.opcode) p.param 0
  | none => s

/-- The request that a pending enable of class VALVE makes. -/
def PendEnable.req (p : PendEnable) : ModeReq := if p.opcode = 0x0103 then .energize p.param else .deblock

/-! ### Requests accepted, answered and waiting (R31, R33) -/

/-- The answer to a request's command, if one waits for it. -/
def reqAnswer (c : ModeCmd) (st : Status) (data : List Byte) (s : Hw) : Hw :=
  match c.hdr with
  | some h => s.finish (fun w => decide (w.kind = .mode) && decide (w.hdr = h)) (fun _ => st) (fun _ => data)
  | none => s

/-- A request enters the coming tick, or waits for its lanes (R33), which leave idle from the tick after it. -/
def reqEnter (c : ModeCmd) (s : Hw) : Hw :=
  let idle := s.lanesInUse.filter s.laneIdles
  match c.req with
  | .energize _ | .deblock =>
    if idle.isEmpty then { s with ops := { s.ops with reqNext := s.ops.reqNext ++ [c] } }
    else
      let s := s.each idle fun n s => s.onLane n fun l => { l with sentFirst := false }
      lanesExit (s.ticks + 2) { s with ops := { s.ops with laneWait := s.ops.laneWait ++ [⟨c, s.ticks⟩] } }
  | _ => { s with ops := { s.ops with reqNext := s.ops.reqNext ++ [c] } }

/-- A waiting request is dropped: its command learns why, with every condition that fails now (R449), and the drop is logged (R33). -/
def waitDrop (bit : Nat) (w : LaneWait) (s : Hw) : Hw :=
  let word := 2 ^ bit + s.startBits (s.lanesUnready != []) (s.startEngBad w.cmd.req)
  let s := { s with ops := { s.ops with laneWait := s.ops.laneWait.filter fun x => decide (x ≠ w) } }
  let report := s.startReport word
  reqAnswer w.cmd .conditionUnmet report (s.logInternal (0xF1000000 + w.cmd.req.opcode) w.cmd.req.param 0)

/-- Every lane in use has sent its first payload frame, in RUN with HUB_OK. -/
def Hw.lanesReady (s : Hw) : Bool := s.lanesInUse.all fun n => s.lanePays n && (s.laneOf n).sentFirst

/-- BRINGUP_TMO_EXPIRY: the lanes and the waits of R33 that have lasted BRINGUP_TMO. -/
def waitExpiry (s : Hw) : Hw :=
  (s.ops.laneWait.filter fun w => decide (w.since + s.bringupTmo ≤ s.ticks)).foldl (fun s w => waitDrop 12 w s) (bringupExpiry s)

/-! ### Changing the mode -/

/-- DEGRADED clears (R90); DEG_ENGINE keeps its value. -/
def clearDegraded (s : Hw) : Hw := s.put LE_CLSTAT_DEGRADED 0

/-- The registers and the log take a new mode; MSI-X vector 3 is raised. -/
def setMode (new : Nat) (s : Hw) : Hw :=
  let old := s.mode
  let s := (s.put SYS_MODE_MODE new).put SYS_MODE_HOST_COMMISSION 0
  let s := { s with ops := { s.ops with modeTick := s.ticks, rtTicks := 0, recovered := false }
                    trg := { s.trg with mode := some (new, s.nowQ) } }
  ((if new = mBlocked then clearDegraded s else s).logInternal 0xF2000020 old new).msixRaise 3

/-- The blocking sequence as a change to `new` leaves it: VALVE_REST runs from the entry to BLOCKED out of a switching
mode; a trip abandons all of it (R35, R38). -/
def blkEnter (old new : Nat) (s : Hw) : Hw :=
  let b : BlkSeq :=
    if new = mTripped then .none
    else if new = mBlocked ∧ [mEnergize, mForm, mRide].contains old then .rest (s.liveGet SYS_BLKCFG_VALVE_REST * ticksPerMs)
    else s.ops.blk
  let s := { s with ops := { s.ops with blk := b, rampEnd := s.ops.rampEnd && new != mTripped && new != mBlocked } }
  if new = mTripped then dropPend 1 s else s

/-- The mode of the tick that begins is `new`, and every block learns of it. -/
def enterMode (new : Nat) (s : Hw) : Hw :=
  let old := s.mode
  let s := blkEnter old new (setMode new s)
  let s := rotMode (rampMode old new (kernelMode old new s))
  let s := if new = mTripped then lanesExit (s.ticks + 1) s else s
  s.ops.laneWait.foldl (fun s w => waitDrop 13 w s) s

/-- What a granted TRIP_RESET clears (R39, R44, R90, Table LFT-26). -/
def resetCauses (s : Hw) : Hw :=
  let left := if s.standby then s.latched - (s.latched &&& s.ops.ownLatched) else 0
  let s := { s with ops := { s.ops with ownLatched := 0 } }
  clearDegraded ((s.put SYS_TRIPCAUSE_LATCHED left).setReg LFT_KCAUSE (regReset LFT_KCAUSE))

/-- A granted request. -/
def grant (c : ModeCmd) (s : Hw) : Hw :=
  let s := match c.req with
    | .tripReset _ => enterMode mBlocked (resetCauses s)
    | .enterCommission => (enterMode mCommission s).put SYS_MODE_HOST_COMMISSION 1
    | .energize m => engEnter m (enterMode mEnergize s)
    | r => enterMode r.to s
  reqAnswer c .ok [] s

/-- BLOCK is granted: its ramp starts, or the mode is BLOCKED at once; a pending enable of class VALVE ends (R35, R40). -/
def grantBlock (c : ModeCmd) (s : Hw) : Hw :=
  let n := s.liveGet SYS_BLKCFG_BLK_RAMP * ticksPerMs
  let s := s.setPend 1 none
  if n = 0 then grant c s
  else reqAnswer c .ok [] { s with ops := { s.ops with blk := .ramp 0 n } }

/-- An enable of class VALVE is pending: a new record, or one that merges into the record that is there (R40, R450). DESIGN CHOICE
(log entry 126): the record's tick of acceptance is the number of the tick to which the command belongs. -/
def pendValve (opcode param tick : Nat) (s : Hw) : Hw :=
  s.setPend 1 (some (match s.pendOf 1 with | some p => p | none => ⟨opcode, param, [], tick⟩))

/-- A request for an enable that comes to its turn in a blocking sequence or its rest is deferred (R40). -/
def deferReq (c : ModeCmd) (s : Hw) : Hw :=
  reqAnswer c .enableDeferred [] (pendValve c.req.opcode c.req.param ((s.time.tickNo + 2 ^ 32 - 1) % 2 ^ 32) s)

/-- A request that fails at its turn: its command is answered; a pending enable, for which none waits, is dropped as by its
recheck: flagged and logged (R40). DESIGN CHOICE (log entry 160): so too where it loses to another mode change of the tick. -/
def reqFail (c : ModeCmd) (st : Status) (data : List Byte) (s : Hw) : Hw :=
  if c.hdr.isSome then reqAnswer c st data s
  else (s.raiseBit SYS_PEND_DROPPED 1).logInternal (0xF1000000 + c.req.opcode) c.req.param 0

/-- The request is an enable of class VALVE. -/
def ModeReq.enables : ModeReq → Bool
  | .energize _ | .deblock => true
  | _ => false

/-- The host requests of the tick that ended, in order of acceptance (R31): `done` says that its mode has changed already.
The result holds the requests to be judged again. -/
def hostTurn : Bool → List ModeCmd → Hw → Hw × List ModeCmd × Bool
  | done, [], s => (s, [], done)
  | done, c :: cs, s =>
    if c.req.enables && decide (s.ops.blk ≠ .none) then hostTurn done cs (deferReq c s)
    else if !c.req.from_.contains s.mode then hostTurn done cs (reqFail c .modeNotAllowed [] s)
    else if done then
      let (s, keep, d) := hostTurn done cs s
      (s, c :: keep, d)
    else match s.unmet c.req, c.req, s.ops.blk with
      | some (st, data), _, _ => hostTurn false cs (reqFail c st data s)
      | none, .block, .ramp _ _ => hostTurn false cs (reqAnswer c .ok [] (s.setPend 1 none))
      | none, .block, _ =>
        let s := grantBlock c s
        hostTurn (s.mode == mBlocked) cs s
      | none, _, _ => hostTurn true cs (grant c s)

/-- The blocking ramp runs (R35). -/
def Hw.ramping (s : Hw) : Bool := match s.ops.blk with | .ramp _ _ => true | _ => false

/-- The causes of the tick that ended change the mode of the tick that begins (R31); while the ramp runs, from its first tick on, no
completion and no recovery does (R35, R162; log entry 31). -/
def modeDecide (s : Hw) : Hw :=
  let old := s.mode
  let o := s.ops
  let ramping := s.ramping
  let s :=
    if o.tripTick ≠ 0 ∧ [mBlocked, mEnergize, mForm, mRide].contains old then enterMode mTripped s
    else if o.faultEntry ∧ old = mForm then enterMode mRide s
    else if o.rampEnd ∧ s.switching then enterMode mBlocked s
    else s
  let s := match s.ops.blk, ramping with
    | .ramp k n, true => { s with ops := { s.ops with blk := .ramp (min (k + 1) (n - 1)) n } }
    | .rest left, _ => if s.mode = mBlocked ∧ old ≠ mBlocked then s else { s with ops := { s.ops with blk := .rest (left - 1) } }
    | _, _ => s
  let changed := s.mode != old
  let (s, keep, changed) := hostTurn changed o.reqTick s
  let s :=
    if changed || ramping || s.ramping then s
    else if o.energizeDone && old == mEnergize && s.liveFlag SYS_MODECFG_AUTO_FORM then enterMode mForm s
    else if o.recovered && old == mRide then enterMode mForm s
    else s
  { s with ops := { s.ops with reqTick := keep } }

/-- BYPASS_REVERT: both arms of a pair held in BYPASS above BYPASS_VDC_MAX (R37). -/
def bypassRevert (s : Hw) : Hw :=
  let hold := s.liveGet SYS_MODECFG_HOLD_STYLE
  let ps := (List.range 3).filter fun p => bitOf hold (2 * p) && bitOf hold (2 * p + 1) && !bitOf s.ops.revertedNow (2 * p)
  if s.armWork = .hold ∧ ps ≠ [] ∧ s.liveInt SYS_BLKCFG_BYPASS_VDC_MAX < s.vdcMeas then
    let arms := maskOf (ps.flatMap fun p => [2 * p, 2 * p + 1])
    let s := { s with ops := { s.ops with revertedNow := s.ops.revertedNow ||| arms } }
    (s.raise SYS_MODE_BYPASS_REVERT).logInternal 0xF2000023 hold arms
  else s

/-- Mode settings come into force with the tick after their write (R5, R17); HOLD_STYLE keeps its value in force (R36). -/
def modeLatch (s : Hw) : Hw :=
  (s.latch [SYS_BLKCFG]).setLive SYS_MODECFG
    (SYS_MODECFG_HOLD_STYLE.into (s.reg SYS_MODECFG) (s.liveGet SYS_MODECFG_HOLD_STYLE))

/-- HOLD_STYLE comes into force at a frame boundary; written again after a revert, it ends the revert (R36, R37). -/
def modeFrame (s : Hw) : Hw :=
  let s := s.latch [SYS_MODECFG]
  { s with ops := { s.ops with revertedNow := s.ops.revertedNow - (s.ops.revertedNow &&& s.ops.holdEnds), holdEnds := 0 } }

/-- The waits of R33 at a tick boundary, after the mode has been decided. -/
def waitTick (s : Hw) : Hw :=
  if s.causes ≠ 0 then s.ops.laneWait.foldl (fun s w => waitDrop 13 w s) s
  else if s.lanesReady then
    { s with ops := { s.ops with reqTick := s.ops.reqTick ++ s.ops.laneWait.map (·.cmd), laneWait := [] } }
  else s

/-- The causes and requests that belong to the tick that begins. -/
def modeShift (s : Hw) : Hw :=
  let o := s.ops
  let pulsed := bitsOf 16 o.pulse
  let s := s.each pulsed fun k s => s.causeActive k false
  let manual := bitOf o.tripNext cManual
  let s := if manual then s.causeActive cManual true else s
  { s with ops := { s.ops with
      tripTick := o.tripNext, tripNext := 0, pulse := if manual then 1 else 0, faultEntry := false, energizeDone := false,
      reqTick := o.reqTick ++ o.reqNext, reqNext := [],
      rtTicks := if s.mode = mRide then o.rtTicks + 1 else 0 } }

/-- Modes at a tick boundary. -/
def modeBoundary (s : Hw) : Hw :=
  if s.strapReeve then s
  else
    let old := s.mode
    let s := modeShift (modeDecide (modeLatch (bypassRevert s)))
    let s := if s.mode = mRide ∧ old ≠ mRide then { s with ops := { s.ops with rtTicks := 0 } } else s
    let s := waitTick s
    s.putb SYS_MODE_BLK_SEQ (decide (s.ops.blk ≠ .none))

/-! ### Timers -/

/-- RT_MAX_EXPIRY: the tick in progress is the last that RT_MAX allows in RIDE-THROUGH (R34). -/
def rtExpiry (s : Hw) : Hw :=
  if s.mode = mRide ∧ s.liveGet SYS_MODECFG_RT_MAX * ticksPerMs ≤ s.ops.rtTicks + 1 then s.tripPulse cRtTimeout else s

/-- BLOCKING_RAMP_END: the ramp's last tick is in progress (R35). -/
def rampEnds (s : Hw) : Hw :=
  match s.ops.blk with
  | .ramp k n => if n ≤ k + 1 then { s with ops := { s.ops with rampEnd := true } } else s
  | _ => s

/-- REST_TIME_END of class VALVE: the valve rest has ended, and a pending enable is checked again and executed (R40, R450). -/
def valveRestEnd (s : Hw) : Hw :=
  let isOver := match s.ops.blk with | .rest 0 | .none => true | _ => false
  if !isOver then s
  else
    let s := ({ s with ops := { s.ops with blk := .none } }).put SYS_MODE_BLK_SEQ 0
    match s.pendOf 1 with
    | none => s
    | some p =>
      if s.standby then s
      else if !p.req.from_.contains s.mode || (s.unmet p.req).isSome then dropPend 1 s
      else
        let n := s.ops.reqNext
        let s := reqEnter ⟨p.req, none⟩ ({ s with ops := { s.ops with reqNext := [] } }.setPend 1 none)
        { s with ops := { s.ops with reqTick := s.ops.reqTick ++ s.ops.reqNext, reqNext := n } }

/-! ### Mode commands (Table MOD-7) -/

/-- 0x0100 MODE_GET. -/
def execModeGet (h : Hdr) (s : State) : Host.Outcome State Fault Refusal :=
  .next (s.onHw (hostCmd (Op.plain 0x0100 .viewer) (.modeGet h) h fun s =>
    checked s [(s.twohandBars h, .twohandReq)] (answer s (regBytes s [SYS_MODE, SYS_TRIPCAUSE, SYS_PEND]))))

/-- A request that has passed its first checks: refused with its report, or accepted for the coming tick. -/
def requestMode (h : Hdr) (req : ModeReq) (param : Nat) (s : Hw) : Done :=
  match s.unmet req with
  | some (st, data) => refuseWith s st data
  | none => changeWait (reqEnter ⟨req, some h⟩ s) (cmdChg req.opcode s.mode param) .mode

/-- 0x0101 ENTER_COMMISSION (R32, R44). -/
def execEnterCommission (h : Hdr) (s : State) : Host.Outcome State Fault Refusal :=
  .next (s.onHw (hostCmd (Op.plain 0x0101 .engineer) (.enterCommission h) h fun s =>
    checked s [(s.mode != mBlocked, .modeNotAllowed), (s.twohandBars h, .twohandReq)] (requestMode h .enterCommission 0 s)))

/-- 0x0102 LEAVE_COMMISSION (R39). -/
def execLeaveCommission (h : Hdr) (s : State) : Host.Outcome State Fault Refusal :=
  .next (s.onHw (hostCmd (Op.plain 0x0102 .engineer) (.leaveCommission h) h fun s =>
    checked s [(s.mode != mCommission, .modeNotAllowed), (s.twohandBars h, .twohandReq)] (requestMode h .leaveCommission 0 s)))

/-- A blocking sequence or its rest is in progress (R40). -/
def Hw.blocking (s : Hw) : Bool := decide (s.ops.blk ≠ .none)

/-- An enable of class VALVE in a blocking sequence is deferred, or merges into the one pending (R40, R450). -/
def deferValve (opcode param : Nat) (s : Hw) : Done :=
  { hw := pendValve opcode param s.nextTick s, status := .enableDeferred, log := cmdChg opcode s.mode param }

/-- 0x0103 ENERGIZE (R150). -/
def execEnergize (h : Hdr) (method : Nat) (s : State) : Host.Outcome State Fault Refusal :=
  .next (s.onHw (hostCmd (Op.plain 0x0103 .operator) (.energize h method) h fun s =>
    checked s [(s.standby, .twinStandby), (!s.blocking && s.mode != mBlocked, .modeNotAllowed), (decide (1 < method), .range),
      (s.twohandBars h, .twohandReq)]
      (if s.blocking then deferValve 0x0103 method s else requestMode h (.energize method) method s)))

/-- 0x0104 DEBLOCK_FORM (R159, R160). -/
def execDeblockForm (h : Hdr) (s : State) : Host.Outcome State Fault Refusal :=
  .next (s.onHw (hostCmd (Op.plain 0x0104 .operator) (.deblockForm h) h fun s =>
    checked s [(s.standby, .twinStandby), (!s.blocking && !s.modeIn [mBlocked, mEnergize], .modeNotAllowed),
      (s.twohandBars h, .twohandReq)]
      (if s.blocking then deferValve 0x0104 0 s else requestMode h .deblock 0 s)))

/-- 0x0105 BLOCK (R35). -/
def execBlock (h : Hdr) (s : State) : Host.Outcome State Fault Refusal :=
  .next (s.onHw (hostCmd (Op.plain 0x0105 .operator) (.block h) h fun s =>
    checked s [(s.standby, .twinStandby), (!s.switching, .modeNotAllowed), (s.twohandBars h, .twohandReq)]
      (if s.blocking then change (s.setPend 1 none) (cmdChg 0x0105 s.mode 0) else requestMode h .block 0 s)))

/-- A TRIP starts TRIP_FWD anew: 16 ticks from the next header on (R290); 17 is a start whose first header is yet to come, 18 one
during a run, whose header of the tick in progress still carries the bit. -/
def tripFwdNext (n : Nat) : Nat := if n = 0 ∨ n = 17 then 17 else 18

/-- The header of the tick in progress carries TRIP_FWD. -/
def Hw.sendsTripFwd (s : Hw) : Bool := s.twin.tripFwd != 0 && s.twin.tripFwd != 17

/-- 0x0106 TRIP: MANUAL latches here, and in the twin by TRIP_FWD for 16 ticks (R44, R290). -/
def execTrip (h : Hdr) (s : State) : Host.Outcome State Fault Refusal :=
  .next (s.onHw (hostCmd (Op.plain 0x0106 .operator) (.trip h) h fun s =>
    checked s [(s.twohandBars h, .twohandReq)]
      (let t := s.tripInput cManual
       change { t with twin := { t.twin with tripFwd := tripFwdNext t.twin.tripFwd } } (cmdChg 0x0106 s.latched (bitSet s.latched cManual)))))

/-- 0x0107 TRIP_RESET (R39, R44). In COMMISSION it changes no mode. -/
def execTripReset (h : Hdr) (causes : Nat) (s : State) : Host.Outcome State Fault Refusal :=
  .next (s.onHw (hostCmd (Op.plain 0x0107 .operator) (.tripReset h causes) h fun s =>
    checked s [(s.standby && s.ops.ownLatched == 0, .twinStandby), (!s.modeIn [mTripped, mCommission], .modeNotAllowed),
      (s.twohandBars h, .twohandReq), (s.resetBars != 0, .causeActive), (causes != s.latched, .causeMismatch)]
      (if s.mode = mCommission then change (resetCauses s) (cmdChg 0x0107 s.latched 0)
       else requestMode h (.tripReset causes) 0 s)))

/-- A field of the two words lies outside its range. -/
def modecfgRangeBad (t : Hw) : Bool :=
  outside 100 10000 (t.get SYS_MODECFG_RT_MAX) || outside 1 100 (t.get SYS_BLKCFG_VALVE_REST) || decide (100 < t.get SYS_BLKCFG_BLK_RAMP)

/-- HOLD_STYLE holds a phase pair in BYPASS and the DC voltage does not lie below `lim` (R36). -/
def holdRefused (s : Hw) (hold : Nat) (lim : Int) : Bool :=
  (List.range 3).any (fun p => bitOf hold (2 * p) && bitOf hold (2 * p + 1)) && !decide (s.vdcMeas < lim)

/-- HOLD_STYLE has been written: from the frame boundary on, the reverts that came before the write are over (R37). -/
def holdWritten (s : Hw) : Hw := { s with ops := { s.ops with holdEnds := s.ops.revertedNow } }

/-- 0x0109 MODECFG_SET: both words or neither (R36). -/
def execModecfgSet (h : Hdr) (modecfg blkcfg : Nat) (s : State) : Host.Outcome State Fault Refusal :=
  .next (s.onHw (hostCmd (Op.plain 0x0109 .engineer) (.modecfgSet h modecfg blkcfg) h fun s =>
    let t := (s.setWord SYS_MODECFG modecfg).setWord SYS_BLKCFG blkcfg
    checked s [(!s.cfgMode, .modeNotAllowed), (modecfgRangeBad t, .range), (s.twohandBars h, .twohandReq)]
      (if holdRefused s (t.get SYS_MODECFG_HOLD_STYLE) (t.geti SYS_BLKCFG_BYPASS_VDC_MAX) then
         refuseWith s .conditionUnmet (conditionReport 0 (2 ^ 11) 0 0)
       else change (holdWritten t) (regChgs s t [SYS_MODECFG, SYS_BLKCFG]))))

/-! ### Events -/

/-- RT_MAX_EXPIRY. -/
def execRtMaxExpiry (s : State) : Host.Outcome State Fault Refusal := .next (s.onHw (onRun rtExpiry))

/-- BLOCKING_RAMP_END. -/
def execBlockingRampEnd (s : State) : Host.Outcome State Fault Refusal := .next (s.onHw (onRun rampEnds))

/-- BRINGUP_TMO_EXPIRY. -/
def execBringupTmoExpiry (s : State) : Host.Outcome State Fault Refusal := .next (s.onHw (onRun waitExpiry))

end Sys2Proof.Machine
end

