-- ==== Sys2Proof/Machine/Twin.lean ====
section
/-! DEFINITION. Twins: the role from ACTIVE_IN, the health word, the Granary link, the mirror, path testing (R278 to R292,
R297 to R300). -/

namespace Sys2Proof.Machine

/-! ### Role (R280, R281) -/

/-- The codes of ACTIVE_IN (Table TWN-10). -/
def codeNone : Nat := 0
def codeStandby : Nat := 1
def codeActive : Nat := 2

/-- A half-period of `c` timebase cycles lies within [lo, hi] ns. -/
def halfIn (lo hi c : Nat) : Bool := decide (lo * 256 ≤ c * 1000) && decide (c * 1000 ≤ hi * 256)

/-- `s` with the code recognised and the role that it gives. -/
def takeCode (code : Nat) (s : Hw) : Hw :=
  let s := s.put TW_STAT_CODE code
  { s with twin := { s.twin with roleNext := decide (code = codeActive) } }

/-- ACTIVE_IN_EDGE in cycle `cyc` of the tick in progress. -/
def activeEdge (cyc : Nat) (s : Hw) : Hw :=
  let s := s.atEvent cyc
  if !s.hasTwin then s
  else
    let now := s.cycles
    let last := s.twin.edge
    let s := { s with twin := { s.twin with edge := some now } }
    match last with
    | none => s
    | some t =>
      let h := now - t
      if halfIn 400 600 h then takeCode codeActive s
      else if halfIn 1600 2400 h then
        let off := if s.time.cyc < 256 then 256 - s.time.cyc else s.time.cyc - 256
        takeCode codeStandby (if 300 * 256 < off * 1000 then s.raise TW_STAT_CODE_SKEW else s)
      else s.raise TW_STAT_CODE_ERR

/-- ACTIVE_IN_TIMEOUT: 3,000 ns (768 cycles) without an edge. -/
def activeTimeout (s : Hw) : Hw :=
  let due := s.twin.edge.getD 0 + 768
  if s.hasTwin && s.fallsDue due then ((s.toCycle due).put TW_STAT_CODE codeNone).raise TW_STAT_REEVE_LOST else s

/-! ### Digests (R289) -/

/-- DIGEST of the running firmware image (Table STO-3). -/
def Hw.fwDigest (s : Hw) : Nat :=
  if s.flag SEC_BOOT_ROM_SERVER then 0 else leNat (memReadList s.nv.flash (s.get SEC_BOOT_RUN_SLOT * 0x800000 + 0x10) 32)

/-- CFG_CHECK as it was last completed (R406). -/
def Hw.cfgCheck (s : Hw) : Nat := ((List.range 4).map fun j => s.get (STO_CFGCHKj_CHK j) * 2 ^ (32 * j)).sum

/-! ### Health word (R282 to R284) -/

/-- Both receivers locked and GR_SLOW clear. -/
def Hw.granaryOk (s : Hw) : Bool := s.granaryLocked && !s.flag TW_STAT_GR_SLOW

/-- HEALTHY of the tick in progress (R284, R43). -/
def Hw.healthyNow (s : Hw) : Bool :=
  !s.flag LE_CLSTAT_DEGRADED && !s.laneBad && !s.int.clkFail && s.mode != mCommission &&
    !(s.mode == mTripped && (s.twin.tripOwn || (s.standby && s.ops.ownLatched != 0))) &&
    (!s.standby || (s.flag TW_STAT_TRACKED && !s.flag SYS_TISTAT_CFG_DIFF))

/-- The health word that describes the tick in progress (Table TWN-3). -/
def Hw.healthWord (s : Hw) : Nat :=
  let b := fun (x : Bool) (k : Nat) => if x then 2 ^ k else 0
  let both := s.hasTwin && s.active && (match s.twin.peer with | some p => p.act && s.twin.gotHdr | none => false)
  let w := 0xE2 * 2 ^ 40 + s.time.tickNo % 65536 * 2 ^ 24 + b s.strapTwinB 23 + b s.active 22 + s.mode % 8 * 2 ^ 19 +
    b s.healthyNow 18 + b (s.flag LE_CLSTAT_DEGRADED) 17 + b (s.flag TW_STAT_TRACKED) 16 + b s.laneBad 15 +
    b (s.causes != 0) 14 + b (s.flag SYS_TISTAT_CFG_DIFF) 13 + b (s.hasTwin && s.get TW_STAT_CODE == codeNone) 12 + b both 11 +
    b (s.flag TW_STAT_SW_REQ) 10 + b s.granaryOk 9
  w + crc8 ((List.range 40).map fun i => bitOf w (47 - i))

/-- Whether the outputs of role CONTROL are driven (R278, R439): HB_OUT, HEALTH_OUT and the gate drives of the Local Stage. -/
def Hw.drivesControl (s : Hw) : Bool := !s.inReset && s.ops.cfgValid && !s.strapReeve

/-- Cycles of the tick in progress at which HB_OUT toggles (R282). -/
def Hw.hbEdges (s : Hw) : List Nat := if s.twin.hbRun && s.drivesControl then [0, 128, 256, 384] else []

/-- HEALTH_OUT in the tick in progress (R283): its level in each half bit of 4 cycles from cycle 0, low after the last; `none`:
high-impedance. The first half of a bit is its complement. -/
def Hw.healthLine (s : Hw) : Option (List Bool) :=
  if s.drivesControl then some ((natBits 48 s.twin.health).flatMap fun b => [!b, b]) else none

/-! ### Mirror items (Table TWN-5) -/

/-- How an item is corrected: as arithmetic that saturates (signed, or unsigned from 0), wraps, or is taken modulo by its own
place; or as discrete. -/
inductive MClass where
  | sat (w : Nat)
  | satU (w : Nat)
  | wrap (w : Nat)
  | plain
  | disc
deriving DecidableEq, Repr

/-- A mirror item: its number, its class, how it is read and replaced. -/
structure MItem where
  num : Nat
  cls : MClass
  get : Hw → List Int
  put : List Int → Hw → Hw

/-- An arithmetic item of one number. -/
def MItem.arith (num : Nat) (cls : MClass) (get : Hw → Int) (put : Int → Hw → Hw) : MItem :=
  ⟨num, cls, fun s => [get s], fun v s => put (v.headD 0) s⟩

/-- A register field as an arithmetic item. -/
def MItem.field (num : Nat) (f : Fld) : MItem :=
  .arith num (.satU f.width) (fun s => (s.get f : Int)) (fun v s => s.put f v.toNat)

/-- A kernel state variable: δ and n_idx wrap, every other saturates at its width. -/
def kernItem (v : Nat) : MItem :=
  .arith v (if v = kDlt then .wrap 48 else if v = kNidx then .wrap 32 else if v = kW ∨ v = kWf then .sat 40 else .sat 32)
    (fun s => s.k v) (fun x s => s.setK v x)

/-- The words that activated customer images declare, with or without the mark TICK (R92). -/
def customItems (tick : Bool) (s : Hw) : List MItem :=
  s.le.engines.flatMap fun e =>
    match e.2.part with
    | none => []
    | some p => ((partMirror p).filter fun r => r.tick == tick).flatMap fun r =>
      let step := if r.wide then 2 else 1
      (List.range (r.words / step)).map fun i =>
        let a := r.addr / 2 + step * i
        let n := e.1
        let get := fun (s : Hw) =>
          let m := (s.engOf n).dmem
          if r.wide then (smapGet 0 m a + 65536 * smapGet 0 m (a + 1) : Nat) else smapGet 0 m a
        let put := fun (v : Int) (s : Hw) => s.onEng n fun e =>
          let u := unsigned (16 * step) v
          { e with dmem := if r.wide then smapSet 0 (smapSet 0 e.dmem a (u % 65536)) (a + 1) (u / 65536) else smapSet 0 e.dmem a u }
        .arith (0x100000 + n * 0x10000 + a) (if r.wrap then .wrap (16 * step) else .sat (16 * step))
          (fun s => if r.wrap then (get s : Int) else signed (16 * step) (get s)) put

/-- Loop Engine words marked FRAME (Table GFL-5). -/
def leFrameItems (s : Hw) : List MItem :=
  [kXi, kXdc, kXt].map kernItem ++ ((List.range 19).map (80 + ·) ++ (List.range 12).map (100 + ·)).map kernItem ++
    [.field 0x201 ENG_STAT_STAGE, .field 0x202 ENG_STAT_METHOD] ++ (List.range 6).map (fun a => .field (0x210 + a) (chgFld a)) ++
    (List.range 4).flatMap (fun i =>
      let onRamp := fun (f : KRamp → KRamp) (s : Hw) => s.onLe fun c =>
        { c with kpar := { c.kpar with ramps := c.kpar.ramps.zipIdx.map fun r => if r.2 = i then f r.1 else r.1 } }
      let of := fun (s : Hw) => s.le.kpar.ramps.getD i {}
      [.arith (0x220 + 4 * i) (.sat 32) (fun s => (of s).old) (fun v s => onRamp (fun r => { r with old := v }) s),
       .arith (0x221 + 4 * i) (.sat 32) (fun s => (of s).target) (fun v s => onRamp (fun r => { r with target := v }) s),
       .arith (0x222 + 4 * i) (.satU 5) (fun s => ((of s).step : Int)) (fun v s => onRamp (fun r => { r with step := v.toNat }) s)]) ++
    customItems false s

/-- The entries to RIDE-THROUGH that LE11 counts (R147), as tick numbers. -/
def entriesItem : MItem :=
  ⟨0x244, .plain, fun s => s.le.entries.map fun t => (((s.time.tickNo + 2 ^ 32 - (s.ticks - t)) % 2 ^ 32 : Nat) : Int),
    fun v s => s.onLe fun c => { c with entries := v.map fun x => s.ticks - (s.time.tickNo + 2 ^ 32 - x.toNat) % 2 ^ 32 }⟩

/-- Loop Engine words marked TICK (Table GFL-5). -/
def leTickItems (s : Hw) : List MItem :=
  ([kW, kWf, kDlt, kNidx, kNrem, kSp, kSq, kXd, kXq, kSv, kGz, kSpx] ++ (List.range 9).map (kXc 0 + ·) ++
    (List.range 30).map (50 + ·)).map kernItem ++
    [entriesItem, .field 0x240 LFT_STAT_ACF, .field 0x241 LFT_STAT_DCF, .field 0x242 LFT_STAT_DCF_STAGE, .field 0x243 LFT_STAT_RECOVERING] ++
    customItems true s

/-- A queue of moves as numbers. -/
def movesOut (ms : List RampMove) : List Int :=
  ms.flatMap fun m => [m.target, (m.vcap : Int), if m.stop then 1 else 0, if m.isOver then 1 else 0]
def movesIn : List Int → List RampMove
  | t :: v :: a :: b :: r => { target := t, vcap := v.toNat, stop := decide (a = 1), isOver := decide (b = 1) } :: movesIn r
  | _ => []

/-- Ramp channel `c` (R175). -/
def rampItems (c : Nat) : List MItem :=
  let n := 0x400 + 8 * c
  let put := fun (f : RampSt → RampSt) (s : Hw) => rampRegs c (s.onRamp c f)
  [.arith n (.sat 16) (fun s => (s.rampOf c).p) (fun v s => put (fun r => { r with p := v }) s),
   .arith (n + 1) (.sat 56) (fun s => (s.rampOf c).v) (fun v s => put (fun r => { r with v := v }) s),
   .arith (n + 2) (.sat 64) (fun s => (s.rampOf c).a) (fun v s => put (fun r => { r with a := v }) s),
   -- the step-timer count: timebase cycles until the next step
   ⟨n + 3, .plain, fun s => match (s.rampOf c).due with | some t => [(t : Int) - s.cycles] | none => [],
     fun v s => put (fun r => { r with due := match v with | [] => none | x :: _ => some ((s.cycles : Int) + x).toNat }) s⟩,
   ⟨n + 4, .disc, fun s => [((s.rampOf c).phase : Int)], fun v s => put (fun r => { r with phase := (v.headD 0).toNat }) s⟩,
   -- the DMAX in force and, where there is one, the pending one
   ⟨n + 5, .disc, fun s => ((s.rampOf c).dmax : Int) :: (if s.flag (RMPc_STAT_PEND_D c) then [(s.get (RMPc_DMAX_DMAX c) : Int)] else []),
     fun v s =>
       let s := (put (fun r => { r with dmax := (v.headD 0).toNat }) s).putb (RMPc_STAT_PEND_D c) (v.length == 2)
       match v with | [_, d] => s.puti (RMPc_DMAX_DMAX c) d | _ => s⟩,
   ⟨n + 6, .disc, fun s => movesOut (s.rampOf c).queue, fun v s => put (fun r => { r with queue := movesIn v }) s⟩]

/-- Arm `a` (R201). -/
def armItems (a : Nat) (s : Hw) : List MItem :=
  let n := 0x1000000 + 0x10000 * a
  [⟨n, .disc, fun s => (s.armOf a).order.map Int.ofNat, fun v s => s.onArm a fun x => { x with ord := v.map Int.toNat }⟩,
   ⟨n + 1, .disc, fun s => [((s.armOf a).ptr : Int)], fun v s => s.onArm a fun x => { x with ptr := (v.headD 0).toNat }⟩,
   ⟨n + 2, .disc, fun s => (s.armOf a).frac.toList.map fun f => (f.1 : Int),
     fun v s => s.onArm a fun x => { x with frac := v.head?.map fun j => (j.toNat, (x.frac.getD (0, 0)).2) }⟩,
   .arith (n + 3) (.satU 8) (fun s => (((s.armOf a).frac.getD (0, 0)).2 : Int))
     (fun v s => s.onArm a fun x => { x with frac := x.frac.map fun f => (f.1, v.toNat) }),
   -- S in its order of entry (R192)
   ⟨n + 4, .disc, fun s => (s.armOf a).sel.map Int.ofNat, fun v s => s.onArm a fun x => { x with sel := v.map Int.toNat }⟩,
   -- DWELL_CNT of the slots that never had a type: Block since `emptyFrom`, with no exclusion
   .arith (n + 5) (.satU 8) (fun s => min 255 ((s.time.ticks : Int) - s.vsq.emptyFrom))
     (fun v s => { s with vsq := { s.vsq with emptyFrom := s.time.ticks - v } })] ++
  (s.slotWords a).flatMap fun p =>
    let j := p.1
    let m := n + 0x1000 + 4 * j
    [⟨m, .disc, fun s => [(s.get (VSQ_SLOTa_j_STATE a j) : Int)], fun v s => s.put (VSQ_SLOTa_j_STATE a j) (v.headD 0).toNat⟩,
     ⟨m + 1, .disc, fun s => [(s.get (VSQ_SLOTa_j_EXCL a j) : Int), (s.get (VSQ_SLOTa_j_EXCL_CAUSE a j) : Int)],
       fun v s => (s.put (VSQ_SLOTa_j_EXCL a j) (v.headD 0).toNat).put (VSQ_SLOTa_j_EXCL_CAUSE a j) (v.getD 1 0).toNat⟩,
     .field (m + 3) (VSQ_SLOTa_j_DWELL_CNT a j)]

/-- Cycles of a leg since its last reload, and its period. -/
def legPhase (centre : Bool) (l : LegSt) : Nat :=
  if centre && !l.up then (2 * l.per - l.c) * l.psc + l.k else l.c * l.psc + l.k
def legPeriod (centre : Bool) (l : LegSt) : Nat := if centre then 2 * l.per * l.psc else (l.per + 1) * l.psc

/-- A leg at a phase, taken modulo its period. -/
def legAtPhase (centre : Bool) (x : Int) (l : LegSt) : LegSt :=
  let p := legPeriod centre l
  let ph := if p = 0 then 0 else (x % p).toNat
  let c := if l.psc = 0 then 0 else ph / l.psc
  let k := if l.psc = 0 then 0 else ph % l.psc
  if centre ∧ l.per ≤ c then { l with c := 2 * l.per - c, k := k, up := false } else { l with c := c, k := k, up := true }

/-- Leg `n` (R251). -/
def legItems (n : Nat) : List MItem :=
  let m := 0x2000000 + 16 * n
  let b := fun (x : Bool) => if x then (1 : Int) else 0
  [⟨m + 1, .disc, fun s => [((s.reg (LEGn_PER n)).toNat : Int), ((s.reg (LEGn_CMP n)).toNat : Int)],
     fun v s => (s.setReg (LEGn_PER n) (BitVec.ofInt 32 (v.headD 0))).setReg (LEGn_CMP n) (BitVec.ofInt 32 (v.getD 1 0))⟩,
   -- the active values, under which the phase keeps its count of cycles
   ⟨m + 2, .disc, fun s => let l := s.legOf n; [(l.per : Int), l.psc, l.cmpB, l.cmp, b l.du, b l.dl, l.dt, l.bootMin, l.bootN],
     fun v s => s.onLeg n fun l =>
       let g := fun i => (v.getD i 0).toNat
       let centre := s.flag (LEGn_CFG_ALIGN n)
       legAtPhase centre (legPhase centre l)
         { l with per := g 0, psc := g 1, cmpB := g 2, cmp := g 3, du := g 4 == 1, dl := g 5 == 1, dt := g 6, bootMin := g 7, bootN := g 8 }⟩,
   .arith m .plain (fun s => (legPhase (s.flag (LEGn_CFG_ALIGN n)) (s.legOf n) : Int))
     (fun v s => s.onLeg n (legAtPhase (s.flag (LEGn_CFG_ALIGN n)) v)),
   ⟨m + 3, .disc, fun s => [(s.legState n : Int)], fun v s => takeLeg n (v.headD 0).toNat s⟩]

/-- Switch `n` (R274). -/
def swItems (n : Nat) : List MItem :=
  let m := 0x3000000 + 4 * n
  let fs := [SWP_SWn_STAT_LATCHED n, SWP_SWn_STAT_C_DESAT n, SWP_SWn_STAT_C_UVP n, SWP_SWn_STAT_C_UVN n, SWP_SWn_STAT_C_TEST n,
    SWP_SWn_STAT_FCODE n]
  [⟨m, .disc, fun s => fs.map fun f => (s.get f : Int),
     fun v s =>
       let s := (fs.zip v).foldl (fun s p => s.put p.1 p.2.toNat) s
       if v.headD 0 = 1 then s.raiseBit SWP_SUMMARY_LATCHED n else s.clearBit SWP_SUMMARY_LATCHED n⟩,
   ⟨m + 1, .disc, fun s => [(s.get (SWP_SWn_TICK_FLT_TICK n) : Int)], fun v s => s.put (SWP_SWn_TICK_FLT_TICK n) (v.headD 0).toNat⟩,
   .field (m + 2) (SWP_SWn_STAT_FLT_CNT n)]

/-- FRAME items taken at cycle 221. -/
def hwFrameItems (s : Hw) : List MItem :=
  (List.range 8).flatMap rampItems ++ ((List.range 6).flatMap fun a => armItems a s) ++ (List.range numLegs).flatMap legItems ++
    (List.range 24).flatMap swItems

/-- A STANDBY whose discrete mode items are not corrected (R43, R286). -/
def Hw.keepsMode (s : Hw) : Bool := s.mode == mCommission || (s.mode == mTripped && s.ops.ownLatched != 0)

/-- A pending enable as numbers. -/
def pendOut : Option PendEnable → List Int
  | some p => [(p.opcode : Int), p.param, p.tick]
  | none => []
def pendIn : List Int → Option PendEnable
  | o :: p :: t :: _ => some ⟨o.toNat, p.toNat, [], t.toNat⟩
  | _ => none

/-- The blocking sequence as phase and total. -/
def blkOut : BlkSeq → List Int
  | .none => [0, 0]
  | .ramp _ n => [1, (n : Int)]
  | .rest _ => [2, 0]
def blkIn (b : BlkSeq) (v : List Int) : BlkSeq :=
  let k := match b with | .ramp k _ => k | _ => 0
  let l := match b with | .rest l => l | _ => 0
  if v.headD 0 = 1 then .ramp k (v.getD 1 0).toNat else if v.headD 0 = 2 then .rest l else .none

/-- The mirrored mode comes into force on a STANDBY. What the twin mirrors comes with its own items; what each part keeps for itself
takes the new mode here (R33, R100, R223). -/
def mirrorMode (m : Nat) (s : Hw) : Hw :=
  if m = s.mode then s
  else
    let s := rotMode (setMode m s)
    let s := (s.putb GFL_STAT_RUN s.switching).putb GFL_STAT_TRACK (decide (m = mBlocked))
    let s := if m = mTripped then lanesExit (s.ticks + 1) s else s
    s.ops.laneWait.foldl (fun s w => waitDrop 13 w s) s

/-- A pending-enable class of SYS_PEND with its record: the bit of DROPPED, then the record. -/
def pendItem (num cls : Nat) (put : Option PendEnable → Hw → Hw) : MItem :=
  ⟨num, .disc, fun s => (if bitOf (s.get SYS_PEND_DROPPED) cls then 1 else 0) :: pendOut (s.pendOf cls),
    fun v s =>
      let s := if v.headD 0 = 1 then s.raiseBit SYS_PEND_DROPPED cls else s.clearBit SYS_PEND_DROPPED cls
      put (pendIn v.tail) s⟩

/-- The number of the first item of the mode. -/
def modeItem0 : Nat := 0x4000000

/-- Mode items (R43, R450). -/
def modeItems : List MItem :=
  let m := modeItem0
  let setBlk := fun (b : BlkSeq) (s : Hw) => { s with ops := { s.ops with blk := b } }
  [⟨m, .disc, fun s => [(s.mode : Int)], fun v s => mirrorMode (v.headD 0).toNat s⟩,
   pendItem (m + 1) 1 fun p s => s.setPend 1 p,
   pendItem (m + 2) 0 fun p s =>
      let mask := match p with | some p => p.param | none => 0
      let s := s.each (List.range numLegs) fun n s => s.putb (LEGn_STAT_PEND n) (bitOf mask n)
      s.setPend 0 p,
   ⟨m + 3, .disc, fun s => blkOut s.ops.blk, fun v s => setBlk (blkIn s.ops.blk v) s⟩,
   .arith (m + 4) (.satU 23) (fun s => (s.ops.rtTicks : Int)) (fun v s => { s with ops := { s.ops with rtTicks := v.toNat } }),
   .arith (m + 5) (.satU 16) (fun s => match s.ops.blk with | .ramp k _ => (k : Int) | _ => 0)
     (fun v s => match s.ops.blk with | .ramp _ n => setBlk (.ramp v.toNat n) s | _ => s),
   .arith (m + 6) (.satU 16) (fun s => match s.ops.blk with | .rest l => (l : Int) | _ => 0)
     (fun v s => match s.ops.blk with | .rest _ => setBlk (.rest v.toNat) s | _ => s)]

/-- The number of the item LATCHED, which is combined with the own causes (R43). -/
def latchedItem : Nat := modeItem0 + 7

/-- Every TICK item but LATCHED. -/
def tickItems (s : Hw) : List MItem := leTickItems s ++ modeItems

/-- The values of a list of items. -/
def itemsOf (is : List MItem) (s : Hw) : List (Nat × List Int) := is.map fun i => (i.num, i.get s)

/-! ### Snapshots (R285) -/

/-- Cycle 110 of the first tick of a frame. -/
def snapLe (s : Hw) : Hw :=
  if s.hasTwin && s.frameStart then
    { s with twin := { s.twin with snapF := some ⟨s.time.tickNo, itemsOf (leFrameItems s) s⟩ } }
  else s

/-- Cycle 221: of the first tick of a frame, and of its tick 14. -/
def snapRelease (s : Hw) : Hw :=
  if !s.hasTwin then s
  else if s.frameStart then
    let s := legsNow s
    let le : List (Nat × List Int) := match s.twin.snapF with | some f => if f.tick = s.time.tickNo then f.items else [] | none => []
    { s with twin := { s.twin with snapF := some ⟨s.time.tickNo, le ++ itemsOf (hwFrameItems s) s⟩ } }
  else if s.time.tickNo % 16 = 14 then
    { s with twin := { s.twin with
        snapT := some ⟨s.time.tickNo, itemsOf (tickItems s) s ++ [(latchedItem, [(s.latched : Int)])]⟩ } }
  else s

/-! ### Sending (R285, R290, R300) -/

/-- What segment `k` carries: the items of its fourteenth of the FRAME snapshot, or the TICK snapshot, with its tick. -/
def Hw.segment (s : Hw) (k : Nat) : Option Snap :=
  if k = 14 then s.twin.snapT
  else s.twin.snapF.map fun f =>
    let n := (f.items.length + 13) / 14
    { f with items := (f.items.drop (n * k)).take n }

/-- The marker of a Granary frame (R279): PATH is the sender's TWIN_ID. DESIGN CHOICE (log entry 129): DIR, TV, ALIGNED and the timing
fields are 0, since no rule gives them a use here. -/
def Hw.granaryMarker (s : Hw) (lane : Nat) : Marker :=
  { kind := 0, lane := lane, tick := s.time.tickNo, dir := false, tv := false, aligned := false, path := s.strapTwinB, timing := 0, echo := 0 }

/-- The payload block of a Granary lane: header, 698 data words, CRC-32. -/
def granaryBlock (head : Nat) (words : List Nat) : Nat :=
  blockOf (head * 2 ^ 11168 + packFields 16 (words ++ List.replicate (698 - words.length) 0))

/-- A Granary lane carries a frame from the launch point of the tick on. -/
def granarySend (lane block : Nat) (s : Hw) : Hw :=
  s.onLane lane fun l => { l with sent := .payload (s.granaryMarker lane).bits block }

/-- GRANARY_LAUNCH: the headers and the data of the tick (Table TWN-4), lane 48 with the first 698 words. -/
def granaryLaunch (s : Hw) : Hw :=
  let s := s.atCyc (max s.time.cyc 232)
  if !s.hasTwin || !s.shf.clock then
    { [48, 49].foldl (fun s n => s.onLane n fun l => { l with sent := .zero }) s with twin := { s.twin with sent := none } }
  else
    let k := s.time.tickNo % 16
    let sends := s.active && decide (s.twin.roleSince + k ≤ s.ticks)
    let seg := if sends && decide (k < 15) then s.segment k else none
    let data : GrData := { items := match seg with | some x => x.items | none => [],
                           fwDigest := if k = 15 then s.fwDigest else 0, cfgCheck := if k = 15 then s.cfgCheck else 0,
                           snaps := if k = 15 then [s.twin.snapF, s.twin.snapT].map (fun x => (x.map (·.tick)).getD 0) else [] }
    let carries := seg.isSome || decide (k = 15)
    let words := if carries then min 1396 (Config.granaryWords data) else 0
    let word := fun (i n : Nat) => (List.range (min 698 n)).map fun j => (Config.granaryWord data (i + j)).toNat
    let b := fun (x : Bool) (i : Nat) => if x then 2 ^ i else 0
    let head := fun (w : Nat) => 3 * 2 ^ 60 + k * 2 ^ 56 + s.mode % 8 * 2 ^ 53 + b s.active 52 + b s.strapTwinB 51 +
      b (bitOf s.twin.health 18) 50 + b (s.flag LE_CLSTAT_DEGRADED) 49 + b s.sendsTripFwd 48 +
      b (s.flag TW_STAT_SW_REQ) 47 + b carries 46 + min 698 w * 2 ^ 32 + (match seg with | some x => x.tick | none => 0)
    let s := granarySend 49 (granaryBlock (head (words - 698)) (word 698 (words - 698))) (granarySend 48 (granaryBlock (head words) (word 0 words)) s)
    { s with twin := { s.twin with sent := some (head words, head (words - 698), data) } }

/-! ### Receiving (R212, R279, R286, R289, R290, R292) -/

/-- A Granary header's fields. -/
def grHeader (h : Nat) : GrHeader :=
  let f := fun (hi lo : Nat) => h / 2 ^ lo % 2 ^ (hi + 1 - lo)
  { seg := f 59 56, mode := f 55 53, act := bitOf h 52, twin := f 51 51, healthy := bitOf h 50, degraded := bitOf h 49,
    tripFwd := bitOf h 48, swReq := bitOf h 47, data := bitOf h 46, words := f 41 32, snapTick := f 31 0 }

/-- Lock of a Granary receiver (R212). -/
def grLockAfter (n : Nat) (spaced : Bool) (train : Nat) (s : Hw) : Hw :=
  if (s.laneOf n).grLock then s.onLane n fun l => { l with bad := 0 }
  else s.onLane n fun l =>
    let g := if spaced then l.good + 1 else 1
    if 3 ≤ g ∨ 2 ≤ train then { l with grLock := true, good := 0, bad := 0 } else { l with good := g }

/-- A bad marker of a Granary lane. -/
def grBadMarker (n : Nat) (s : Hw) : Hw :=
  if (s.laneOf n).grLock then
    s.onLane n fun l => if 4 ≤ l.bad + 1 then { l with grLock := false, good := 0, bad := 0, lastTick := none } else { l with bad := l.bad + 1 }
  else s.onLane n fun l => { l with good := 0 }

/-- GR_DLY from the marker's tick and its arrival in quarter UI; the launch point is grid index 5,568. -/
def grDelay (tick : Nat) (arr : Int) (s : Hw) : Hw :=
  let u := signed 32 (s.time.tickNo + 2 ^ 32 - tick) * 49152 + arr - 22272
  let s := s.put TW_MIRROR_GR_DLY (clampInt 0 4095 (u * 125 / 3072)).toNat
  if 900 * 3072 < u * 125 then s.raise TW_STAT_GR_SLOW else s

/-- A header that belongs to the coming tick. -/
def takePeer (h : GrHeader) (s : Hw) : Hw :=
  let old := s.twin.peer
  let acted := match old with | some p => p.act | none => h.act
  let fwd := match old with | some p => p.tripFwd | none => false
  let s := if h.tripFwd && !fwd then s.tripInput cManual else s
  let s := if s.active && h.act then s.raise TW_STAT_BOTH_ACTIVE else s
  let s := if acted = h.act then s
    else s.finishKind .pathTest .roleChanged
  { s with twin := { s.twin with peer := some h, gotHdr := true, grace := s.twin.grace || (acted != h.act),
                                 path := if acted = h.act then s.twin.path else [] } }

/-- The data of a segment, staged. -/
def takeSegment (n : Nat) (h : GrHeader) (d : GrData) (s : Hw) : Hw :=
  if !h.data then s
  else if h.seg = 15 then
    let bad := d.fwDigest ≠ s.fwDigest ∨ d.cfgCheck ≠ s.cfgCheck
    let s := if bad then s.raise SYS_TISTAT_CFG_DIFF else s
    { s with twin := { s.twin with cfgDiffer := decide bad } }
  else
    { s with twin := { s.twin with segs := (2 * h.seg + (n - 48), h.snapTick) :: s.twin.segs,
                                   staged := s.twin.staged ++ d.items } }

/-- The data words of a block enter the Granary receive area of Exchange RAM (R84). DESIGN CHOICE (log entry 129): segment k of lane
48 + i lies at word 0x5010 + 1396 k + 698 i. -/
def granaryStage (n : Nat) (h : GrHeader) (block : Nat) (s : Hw) : Hw :=
  let base := 0x5010 + 1396 * h.seg + 698 * (n - 48)
  { s with xram := (List.range (min 698 h.words)).foldl (fun x j => smapSet 0 x (base + j) (blockField block (64 + 16 * j) 16)) s.xram }

/-- GRANARY_FRAME_RECEIVE on lane `n` (48 or 49): its marker, the bits `line` that follow it, and the items `d` that its data words
spell (their packing is not in the spec). -/
def granaryReceive (n : Nat) (spaced : Bool) (train marker : Nat) (line : List Bool) (arr : Int) (d : GrData) (s : Hw) : Hw :=
  let s := losNow n s
  if n < 48 ∨ 50 ≤ n ∨ !s.hasTwin ∨ (s.laneOf n).los then s
  else match readMarker (marker % 2 ^ 128) with
    | none => grBadMarker n s
    | some m =>
      -- any good marker counts for lock (R203, R209, R212)
      let s := grLockAfter n spaced (if m.kind = 1 then train else 0) s
      if m.lane ≠ n then s
      else if m.path = s.strapTwinB then s.raise TW_STAT_TWIN_ID_CLASH
      else
        let s := grDelay m.tick arr (s.put TW_STAT_TWIN_ID_CLASH 0)
        if !(s.laneOf n).grLock || m.kind == 1 || m.kind == 3 then s
        else match readBlock (marker % 2 ^ 128) m line with
          | none => s
          | some block =>
            if !blockOk block || blockField block 0 4 != 3 then s
            else
              let h := grHeader (blockField block 0 64)
              takeSegment n h d (takePeer h (if h.data then granaryStage n h block s else s))

/-! ### Correction (R286, R287) -/

/-- An arithmetic item corrected by the difference of the snapshots. -/
def MClass.correct (c : MClass) (x : Int) : Int :=
  match c with
  | .sat w => satInt w x
  | .satU w => clampInt 0 (2 ^ w - 1) x
  | .wrap w => (unsigned w x : Int)
  | .plain | .disc => x

/-- The value of an item in a snapshot. -/
def itemIn (xs : List (Nat × List Int)) (n : Nat) : Option (List Int) := (xs.find? fun p => p.1 == n).map (·.2)

/-- One item corrected; the count of discrete items replaced and whether every item was equal go along. `keep`: no discrete mode item
is corrected (R286). -/
def correctItem (keep : Bool) (xa xs : List (Nat × List Int)) (p : Nat × Bool × Hw) (i : MItem) : Nat × Bool × Hw :=
  match itemIn xa i.num, itemIn xs i.num with
  | some a, some o =>
    if a = o then p
    else match i.cls with
      | .disc => if keep && decide (modeItem0 ≤ i.num) then (p.1, false, p.2.2) else (p.1 + 1, false, i.put a p.2.2)
      | c =>
        match i.get p.2.2, a, o with
        | [x], [a], [o] => (p.1, false, i.put [c.correct (x + (a - o))] p.2.2)
        | _, _, _ => (p.1, false, i.put a p.2.2)
  | _, _ => p

/-- The peer's latched causes with the own ones (R43). -/
def mirrorLatched (xa : List (Nat × List Int)) (s : Hw) : Hw :=
  match itemIn xa latchedItem with
  | some (v :: _) => s.put SYS_TRIPCAUSE_LATCHED (v.toNat ||| (s.latched &&& s.ops.ownLatched))
  | _ => s

/-- A saturating counter field raised by `n`. -/
def bumpBy (f : Fld) (n : Nat) (s : Hw) : Hw := s.put f (min (2 ^ f.width - 1) (s.get f + n))

/-- A boundary without a whole and matching set of segments; an exempt one is not counted (R287). -/
def mirrorMissed (s : Hw) : Hw :=
  let s := s.raise TW_STAT_MIRROR_MISS
  if s.twin.grace then s
  else
    let s := bumpBy TW_MIRROR_MISS_CNT 1 s
    let run := s.twin.missRun + 1
    let s := { s with twin := { s.twin with missRun := run } }
    if s.get TW_CFG_MISS_MAX ≤ run then s.put TW_STAT_TRACKED 0 else s

/-- The own snapshots stand for the ending frame: taken in it, or the newest ones where a time step came within it, so that corrections
resume at the first frame boundary after the step (R429). DESIGN CHOICE (log entry 161). -/
def Hw.ownSnaps (s : Hw) (f k : Snap) : Bool :=
  (f.tick == (s.time.tickNo + 2 ^ 32 - 16) % 2 ^ 32 && k.tick == (s.time.tickNo + 2 ^ 32 - 2) % 2 ^ 32) ||
    (s.vsq.stepAt != 0 && decide (s.ticks < s.vsq.stepAt + 16))

/-- The correction of a STANDBY at the first tick of a frame. -/
def mirrorCorrect (s : Hw) : Hw :=
  let t := s.twin
  let f0 := (s.time.tickNo + 2 ^ 32 - 16) % 2 ^ 32
  let f14 := (s.time.tickNo + 2 ^ 32 - 2) % 2 ^ 32
  let whole := (List.range 30).all fun k => t.segs.contains (k, if k < 28 then f0 else f14)
  match t.snapF, t.snapT with
  | some f, some k =>
    if whole && s.ownSnaps f k then
      let own := f.items ++ k.items
      let s := legsNow s
      let items := leFrameItems s ++ hwFrameItems s ++ tickItems s
      let keep := s.keepsMode
      let (n, eq, s) := items.foldl (correctItem keep t.staged own) (0, true, s)
      let eqL := itemIn t.staged latchedItem == itemIn own latchedItem
      let s := if keep then s else mirrorLatched t.staged s
      let s := bumpBy TW_MIRROR_RESYNC_CNT (n + if eqL || keep then 0 else 1) s
      let s := (s.putb TW_STAT_MIRROR_EQ (eq && eqL)).put TW_STAT_TRACKED 1
      { s with twin := { s.twin with missRun := 0 } }
    else mirrorMissed s
  | _, _ => mirrorMissed s

/-- The mirror at the first tick of a frame, after the role of the tick (R286, R300). -/
def mirrorFrame (s : Hw) : Hw :=
  let s := if s.hasTwin && s.standby then mirrorCorrect s else s
  { s with twin := { s.twin with segs := [], staged := [], grace := false } }

/-! ### Tick boundary -/

/-- The tick that ends, as its health word describes it; the heartbeat of the coming tick (R282 to R284). DESIGN CHOICE (log entry 130):
the management core serves its watchdog in every tick in which its clock keeps its tolerance. -/
def twinEnd (s : Hw) : Hw :=
  let w := s.healthWord
  let s := (s.putb TW_STAT_HEALTHY (bitOf w 18)).putb TW_STAT_GRANARY_OK s.granaryOk
  let served := if s.twin.watchdog then s.ticks else s.twin.served
  { s with twin := { s.twin with health := w, hbRun := s.twin.released && decide (s.ticks ≤ served + ticksPerMs), released := false,
                                 served := served,
                                 tripFwd := min 16 (s.twin.tripFwd - 1),
                                 peerActRun := if s.twin.gotHdr then (match s.twin.peer with | some p => if p.act then s.twin.peerActRun + 1 else 0 | none => 0) else 0,
                                 gotHdr := false } }

/-- The role of the tick that begins, where it differs from the last tick's. -/
def roleChange (act : Bool) (s : Hw) : Hw :=
  let s := ((s.putb SYS_MODE_ACTIVE act).putb TW_STAT_ROLE act).put TW_ROLETICK_ROLE_TICK s.time.tickNo
  let s := { s with twin := { s.twin with roleSince := s.ticks, grace := true, path := [] } }
  let s := s.finishKind .pathTest .roleChanged
  if act then
    s.put TW_STAT_GAP_LEFT (if s.hasTwin && s.flag TW_CFG_GAP_MODE then s.get TW_CFG_GAP_N else 0)
  else
    let s := clearDegraded ((s.put TW_STAT_GAP_LEFT 0).put TW_STAT_SW_REQ 0)
    { s with twin := { s.twin with swReqTick := none } }.finishKind .handover .ok

/-- The role at cycle 0 (R281); `step` says that a step of time began the tick. -/
def twinRole (step : Bool) (s : Hw) : Hw :=
  if s.strapReeve then s
  else
    let s := if step then { s with twin := { s.twin with grace := true } } else s
    let yields := s.hasTwin && s.active && s.get TW_STAT_CODE == codeNone && decide (2 ≤ s.twin.peerActRun)
    let s := if yields then s.raise TW_STAT_YIELDED else s
    let act := if !s.hasTwin then true else if yields then false else s.twin.roleNext
    let s := { s with twin := { s.twin with roleNext := act } }
    let own := s.mode == mTripped && (s.twin.tripOwn || (s.standby && decide (s.ops.modeTick = s.ticks) && s.ops.ownLatched != 0))
    let s := { s with twin := { s.twin with tripOwn := own } }
    let s := if act ≠ s.active ∨ s.twin.roleSince = 0 then roleChange act s
      else s.put TW_STAT_GAP_LEFT (s.get TW_STAT_GAP_LEFT - 1)
    let s := if s.twin.cfgDiffer && s.hasTwin then { s.raise SYS_TISTAT_CFG_DIFF with int := { s.int with tiFail := true } } else s
    if s.flag LE_CLSTAT_DEGRADED && s.active && s.hasTwin && s.peerUnhealthy && !bitOf s.latched cDlmissK then s.tripPulse cDlmissK else s

/-! ### Timers -/

/-- HANDOVER_TMO: SW_REQ has stood for 100 ms (R300). -/
def handoverTmo (s : Hw) : Hw :=
  match s.twin.swReqTick with
  | some t =>
    if t + 100 * ticksPerMs ≤ s.ticks then
      { s with twin := { s.twin with swReqTick := none } }.put TW_STAT_SW_REQ 0 |>.finishKind .handover .handoverTmo
    else s
  | none => s

/-- The result of a path test: for each named lane four counts of 32 bits, the identity match and PASS, 8 bits each. -/
def PathTest.result (p : PathTest) : List Byte :=
  (bitsOf numLanes p.lanes).flatMap fun n =>
    let c := smapGet {} p.counts n
    let pass := decide (c.unusable = 0) && decide (c.obeyedBad = 0) && decide (c.lockGaps = 0) && c.idMatch
    leBytes 4 c.usable ++ leBytes 4 c.unusable ++ leBytes 4 c.obeyedBad ++ leBytes 4 c.lockGaps ++
      leBytes 1 (if c.idMatch then 1 else 0) ++ leBytes 1 (if pass then 1 else 0)

/-- PATH_TEST_END: the tests whose duration has elapsed are answered. -/
def pathEnd (s : Hw) : Hw :=
  let (isOver, rest) := s.twin.path.partition fun p => decide (p.endTick ≤ s.ticks)
  isOver.foldl (fun s p => s.finish (fun w => decide (w.kind = .pathTest) && decide (w.hdr = p.hdr)) (fun _ => .ok) (fun _ => p.result))
    { s with twin := { s.twin with path := rest } }

/-! ### Register writes and commands (Table TWN-7) -/

/-- The ranges of Table TWN-9. -/
def twCfgBad (t : Hw) : Bool := outside 1 8 (t.get TW_CFG_GAP_N) || outside 1 15 (t.get TW_CFG_MISS_MAX)

/-- A Granary header as its 64 bits (Table TWN-4). -/
def GrHeader.word (p : GrHeader) : Nat :=
  let b := fun (x : Bool) (k : Nat) => if x then 2 ^ k else 0
  3 * 2 ^ 60 + p.seg * 2 ^ 56 + p.mode * 2 ^ 53 + b p.act 52 + p.twin * 2 ^ 51 + b p.healthy 50 + b p.degraded 49 + b p.tripFwd 48 +
    b p.swReq 47 + b p.data 46 + p.words * 2 ^ 32 + p.snapTick

/-- The peer's last header as it was received. -/
def Hw.peerWord (s : Hw) : Nat := match s.twin.peer with | some p => p.word | none => 0

/-- 0x0900 TWIN_STATUS_GET: the last header as it was received, 0 before any. -/
def execTwinStatusGet (h : Hdr) (s : State) : Host.Outcome State Fault Refusal :=
  .next (s.onHw (hostCmd (Op.plain 0x0900 .viewer) (.twinStatusGet h) h fun s =>
    checked s [] (answer s (regBytes s [TW_CFG, TW_STAT, TW_ROLETICK, TW_MIRROR] ++ leBytes 8 s.peerWord))))

/-- 0x0901 TWIN_CFG_SET. -/
def execTwinCfgSet (h : Hdr) (cfg : Nat) (s : State) : Host.Outcome State Fault Refusal :=
  .next (s.onHw (hostCmd (Op.plain 0x0901 .engineer) (.twinCfgSet h cfg) h fun s =>
    let t := s.setWord TW_CFG cfg
    checked s [(s.mode != mCommission, .modeNotAllowed), (twCfgBad t, .range)] (change t (regChgs s t [TW_CFG]))))

/-- 0x0902 TWIN_HANDOVER. -/
def execTwinHandover (h : Hdr) (s : State) : Host.Outcome State Fault Refusal :=
  .next (s.onHw (hostCmd (Op.plain 0x0902 .operator) (.twinHandover h) h fun s =>
    checked s [(!s.active, .notActive)]
      (let t := s.raise TW_STAT_SW_REQ
       changeWait { t with twin := { t.twin with swReqTick := some (t.twin.swReqTick.getD t.ticks) } } (cmdChg 0x0902 0 1) .handover)))

/-- 0x0903 TWIN_PATH_TEST: an IDENT is asked of every named hub as the test begins (R299). -/
def execTwinPathTest (h : Hdr) (mask durationMs : Nat) (s : State) : Host.Outcome State Fault Refusal :=
  .next (s.onHw (hostCmd (Op.plain 0x0903 .engineer) (.twinPathTest h mask durationMs) h fun s =>
    checked s [(!s.hasTwin || !s.standby, .notStandby), (outside 1 10000 durationMs, .range),
        (decide (2 ^ numLanes ≤ mask) || (lanesOf mask).any (fun n => s.laneState n != lnRun), .laneNotRun)]
      (let t := s.each (lanesOf mask) fun n s => ownMessage n 1 [] s
       let p : PathTest := { hdr := h, lanes := mask, endTick := s.ticks + durationMs * ticksPerMs }
       changeWait { t with twin := { t.twin with path := t.twin.path ++ [p] } } (cmdChg 0x0903 0 mask) .pathTest)))

/-! ### Events -/

/-- GRANARY_LAUNCH. -/
def execGranaryLaunch (s : State) : Host.Outcome State Fault Refusal := .next (s.onHw (onTick granaryLaunch))

/-- GRANARY_FRAME_RECEIVE. -/
def execGranaryFrameReceive (lane : Nat) (spaced : Bool) (train marker : Nat) (line : List Bool) (arr : Int)
    (items : List (Nat × List Int)) (status : GrStatus) (s : State) : Host.Outcome State Fault Refusal :=
  .next (s.onHw (onRun (granaryReceive lane spaced train marker line arr { status with items := items })))

/-- ACTIVE_IN_EDGE. -/
def execActiveInEdge (cyc : Nat) (s : State) : Host.Outcome State Fault Refusal := .next (s.onHw (onRun (activeEdge cyc)))

/-- ACTIVE_IN_TIMEOUT. -/
def execActiveInTimeout (s : State) : Host.Outcome State Fault Refusal := .next (s.onHw (onRun activeTimeout))

/-- HANDOVER_TMO. -/
def execHandoverTmo (s : State) : Host.Outcome State Fault Refusal := .next (s.onHw (onRun handoverTmo))

/-- PATH_TEST_END. -/
def execPathTestEnd (s : State) : Host.Outcome State Fault Refusal := .next (s.onHw (onRun pathEnd))

end Sys2Proof.Machine
end

