-- ==== Sys2Proof/Machine/Reeve.lean ====
section
/-! DEFINITION. The Reeve: inputs from both twins, the decision at cycle 0 of every tick, and its commands (R293 to R297). -/

namespace Sys2Proof.Machine

/-- A twin's inputs (0 A, 1 B), and a change of them. -/
def Hw.reeveIn (s : Hw) (x : Nat) : ReeveInput := if x = 0 then s.reeve.a else s.reeve.b
def Hw.onReeve (s : Hw) (x : Nat) (f : ReeveInput → ReeveInput) : Hw :=
  if x = 0 then { s with reeve := { s.reeve with a := f s.reeve.a } } else { s with reeve := { s.reeve with b := f s.reeve.b } }

/-- The heartbeat of a twin is present. -/
def hbFld (x : Nat) : Fld := if x = 0 then REEVE_STAT_HB_A else REEVE_STAT_HB_B
def hltFld (x : Nat) : Fld := if x = 0 then REEVE_STAT_HLT_A else REEVE_STAT_HLT_B
def wordFld (x : Nat) : Fld := if x = 0 then REEVE_STAT_WORD_A else REEVE_STAT_WORD_B

/-- HEALTH_WORD_RECEIVE (R283): the word as it arrived; `clean` says that its Manchester coding was. -/
def healthReceive (twin : Nat) (clean : Bool) (w : Nat) (s : Hw) : Hw :=
  let ok := clean && w / 2 ^ 40 % 256 == 0xE2 && crc8 ((List.range 40).map fun i => bitOf w (47 - i)) == w % 256 &&
    w / 2 ^ 24 % 65536 == (s.time.tickNo + 2 ^ 32 - 1) % 65536
  if s.strapReeve && decide (twin < 2) && ok then s.onReeve twin fun i => { i with newest := some w, got := some w } else s

/-- Fields of a health word. -/
def hwActive (w : Nat) : Bool := bitOf w 22
def hwMode (w : Nat) : Nat := w / 2 ^ 19 % 8
def hwHealthy (w : Nat) : Bool := bitOf w 18
def hwSwReq (w : Nat) : Bool := bitOf w 10

/-- A twin's inputs at cycle 0; from the third tick in succession without an accepted word the twin counts as HEALTHY = 0. -/
def reeveTake (x : Nat) (s : Hw) : Hw :=
  let i := s.reeveIn x
  let missed := if i.got.isSome then 0 else i.missed + 1
  let s := s.onReeve x fun i => { i with past := ((i.got, decide (3 ≤ missed)) :: i.past).take 24, missed := missed, got := none }
  (s.putb (hltFld x) (match i.newest with | some w => hwHealthy w | none => false)).putb (wordFld x) i.got.isSome

/-- HOLDOFF bars a switch under cases 3 and 4. -/
def Hw.heldOff (s : Hw) : Bool :=
  match s.reeve.switched with
  | some t => decide (s.ticks < t + s.get REEVE_CFG_HOLDOFF * ticksPerMs)
  | none => false

/-- The `n` newest accepted words of X all have a property, and the words of Y for the same ticks show HEALTHY = 1. A tick that counts
as HEALTHY = 0 for want of words stands for a word (R293). -/
def lastAll (ix iy : ReeveInput) (n : Nat) (p : Option Nat → Bool) : Bool :=
  let ws := ((ix.past.zip iy.past).filter fun t => t.1.1.isSome || t.1.2).take n
  decide (ws.length = n) && ws.all fun t => p t.1.1 && (match t.2.1 with | some w => hwHealthy w | none => false)

/-- A grant to twin `x` in the tick that begins. -/
def reeveGrant (x reason : Nat) (s : Hw) : Hw :=
  let s := if s.get REEVE_STAT_GRANT = 0 then s else s.bump REEVE_STAT_SW_CNT
  ((s.put REEVE_STAT_GRANT (x + 1)).put REEVE_STAT_LAST_REASON reason).put REEVE_LAST_LAST_TICK s.time.tickNo

/-- A switch from which HOLDOFF counts: under case 3 or 4, or a forced one while it runs (R294, R300). -/
def holdoffStart (s : Hw) : Hw := { s with reeve := { s.reeve with switched := some s.ticks } }

/-- The decision of R294 while a grant stands. -/
def reeveDecide (s : Hw) : Hw :=
  let x := s.get REEVE_STAT_GRANT - 1
  let y := 1 - x
  let n := s.get REEVE_CFG_HLT_CONF
  let ix := s.reeveIn x
  let iy := s.reeveIn y
  let yUp := match iy.newest with | some w => decide (hwMode w ≠ mCommission) | none => false
  if !s.flag (hbFld y) then s
  else if !s.flag (hbFld x) && yUp then reeveGrant y 2 s
  else if s.reeve.forced = some y then
    let t := reeveGrant y 5 s
    if s.heldOff then holdoffStart t else t
  else if !s.heldOff && lastAll ix iy n (fun w => match w with | some w => !hwHealthy w | none => true) then holdoffStart (reeveGrant y 3 s)
  else if !s.heldOff && lastAll ix iy n (fun w => match w with | some w => hwSwReq w | none => false) then
    holdoffStart (reeveGrant y 4 s)
  else s

/-- The first grant (R295). -/
def reeveFirst (s : Hw) : Hw :=
  if !s.strapReeve || !s.flag REEVE_CFG_REEVE_EN || !s.flag ALM_STAT_SET || s.get REEVE_STAT_GRANT != 0 then s
  else
    let claims := [0, 1].filter fun x => match (s.reeveIn x).newest with | some w => hwActive w | none => false
    let pref := s.get REEVE_CFG_PREFER
    let choice := match claims with
      | [x] => if s.flag (hbFld x) then some x else none
      | _ => if s.flag (hbFld pref) then some pref else if s.flag (hbFld (1 - pref)) then some (1 - pref) else none
    match choice with
    | some x => reeveGrant x 1 s
    | none => s

/-- The Reeve at cycle 0 of a tick. -/
def reeveTick (s : Hw) : Hw :=
  if !s.strapReeve then s
  else
    let both := [0, 1].all fun x => match (s.reeveIn x).got with | some w => hwActive w | none => false
    let run := if both then s.reeve.conflictRun + 1 else 0
    let s := reeveTake 1 (reeveTake 0 s)
    let s := if 2 ≤ run then s.raise REEVE_STAT_CONFLICT else s
    let s := { s with reeve := { s.reeve with conflictRun := run, was := s.get REEVE_STAT_GRANT } }
    let s := if s.flag REEVE_CFG_REEVE_EN && s.get REEVE_STAT_GRANT != 0 then reeveDecide s else s
    let s := if s.reeve.firstDue then reeveFirst s else s
    let s := { s with reeve := { s.reeve with forced := none, firstDue := false } }
    s.putb REEVE_STAT_HOLDOFF_ACT s.heldOff

/-- REEVE_FIRST_GRANT: the Reeve decides at cycle 0 of a tick, so an event later in one acts at the next (R295). -/
def reeveFirstDue (s : Hw) : Hw :=
  if !s.strapReeve then s
  else if s.time.cyc = 0 ∧ s.time.gapTo = none then reeveFirst s
  else { s with reeve := { s.reeve with firstDue := true } }

/-- Cycles of the tick in progress at which the output to twin `x` toggles (R295, R296): up to the edge at 256 as before the decision
of the tick, or from cycle 0 on as the first grant says. -/
def Hw.reeveEdges (s : Hw) (x : Nat) : List Nat :=
  let now := s.get REEVE_STAT_GRANT
  let old := if s.reeve.was = 0 then now else s.reeve.was
  (if old = x + 1 then [0, 128, 256] else [256]) ++ (if now = x + 1 then [384] else [])

/-- REEVE_ACTA and REEVE_ACTB: their edges in the tick in progress; `none`: high-impedance (R278, R295, R439). -/
def Hw.reeveAct (s : Hw) (x : Nat) : Option (List Nat) :=
  if s.inReset || !s.ops.cfgValid || !s.strapReeve || s.get REEVE_STAT_GRANT == 0 then none else some (s.reeveEdges x)

/-! ### Commands (Table TWN-7) -/

/-- The ranges of Table TWN-13. -/
def reeveCfgBad (t : Hw) : Bool := outside 1 8 (t.get REEVE_CFG_HLT_CONF) || decide (10000 < t.get REEVE_CFG_HOLDOFF)

/-- Writes in the twin window; a cleared MIRROR_MISS clears its counters (Table TWN-12). -/
def twinWrite (s : Hw) (w : Wr) : Judged :=
  let t := s.writeAs w
  if w.addr = TW_CFG then
    judge [(decide (w.new ≠ w.old) && s.mode != mCommission, .modeNotAllowed), (twCfgBad t, .range)] t
  else if w.addr = REEVE_CFG then judge [(reeveCfgBad t, .range)] t
  else if w.addr = TW_STAT ∧ w.was TW_STAT_MIRROR_MISS = 1 ∧ w.val TW_STAT_MIRROR_MISS = 0 then
    .ok ((t.put TW_MIRROR_MISS_CNT 0).put TW_MIRROR_RESYNC_CNT 0)
  else .ok t

/-- 0x0904 REEVE_STATUS_GET. -/
def execReeveStatusGet (h : Hdr) (s : State) : Host.Outcome State Fault Refusal :=
  .next (s.onHw (hostCmd (Op.plain 0x0904 .viewer) (.reeveStatusGet h) h fun s =>
    checked s [(!s.strapReeve, .notReeve)] (answer s (regBytes s [REEVE_CFG, REEVE_STAT, REEVE_LAST]))))

/-- 0x0905 REEVE_CFG_SET. -/
def execReeveCfgSet (h : Hdr) (cfg : Nat) (s : State) : Host.Outcome State Fault Refusal :=
  .next (s.onHw (hostCmd (Op.plain 0x0905 .engineer) (.reeveCfgSet h cfg) h fun s =>
    let t := s.setWord REEVE_CFG cfg
    checked s [(!s.strapReeve, .notReeve), (reeveCfgBad t, .range)] (change t (regChgs s t [REEVE_CFG]))))

/-- 0x0906 REEVE_FORCE. -/
def execReeveForce (h : Hdr) (twin : Nat) (s : State) : Host.Outcome State Fault Refusal :=
  .next (s.onHw (hostCmd (Op.plain 0x0906 .service) (.reeveForce h twin) h fun s =>
    checked s [(!s.strapReeve, .notReeve), (decide (1 < twin), .range), (!s.flag (hbFld twin), .noHeartbeat)]
      (change { s with reeve := { s.reeve with forced := some twin } } (cmdChg 0x0906 (s.get REEVE_STAT_GRANT) (twin + 1)))))

/-! ### Events -/

/-- HEALTH_WORD_RECEIVE. -/
def execHealthWordReceive (twin : Nat) (clean : Bool) (word : Nat) (s : State) : Host.Outcome State Fault Refusal :=
  .next (s.onHw (onRun (healthReceive twin clean word)))

/-- HEARTBEAT_LOSS: 3,000 ns without an edge of a twin. -/
def execHeartbeatLoss (twin : Nat) (s : State) : Host.Outcome State Fault Refusal :=
  .next (s.onHw (onRun fun s => if s.strapReeve then s.put (hbFld twin) 0 else s))

/-- HEARTBEAT_RETURN: an edge of a twin. -/
def execHeartbeatReturn (twin : Nat) (s : State) : Host.Outcome State Fault Refusal :=
  .next (s.onHw (onRun fun s => if s.strapReeve then s.put (hbFld twin) 1 else s))

/-- REEVE_FIRST_GRANT. -/
def execReeveFirstGrant (s : State) : Host.Outcome State Fault Refusal := .next (s.onHw (onRun reeveFirstDue))

end Sys2Proof.Machine
end

