-- ==== Sys2Proof/Machine/Almanac.lean ====
section
/-! DEFINITION. Almanac: increments, steps, holdover, network time stamps and the transmit queue (R301 to R317). -/

namespace Sys2Proof.Machine

/-! ### The increment (R304 to R306) -/

/-- NOM, and the limits of ±500 ppm and ±200 ppm. -/
def nomInc : Nat := 16777216000
def limAny : Nat := 8388608
def limRun : Nat := 3355443

/-- `v` lies within `lim` of NOM. -/
def incNear (lim v : Nat) : Bool := decide (((v : Int) - nomInc).natAbs ≤ lim)

/-- FORM or RIDE-THROUGH. -/
def Hw.running (s : Hw) : Bool := s.modeIn [mForm, mRide]

/-- `s` with INC in force at `v`, from cycle 0 of the tick that begins. -/
def Hw.setInc (s : Hw) (v : Nat) : Hw := (s.put ALM_INCL_INCL (v % 2 ^ 32)).put ALM_INCH_INCH (v / 2 ^ 32)

/-- HOLDOVER rises or clears (R315). -/
def setHoldover (on : Bool) (s : Hw) : Hw :=
  let s := if on && !s.flag ALM_STAT_HOLDOVER then s.trgEvent 2 else s
  s.putb ALM_STAT_HOLDOVER on

/-- The hour's summary with `v` in force from now on (R306). -/
def Hw.incHours (s : Hw) (v : Nat) : TimeSt :=
  let t := s.time
  { t with incMin := min t.incMin v, incMax := max t.incMax v, incChg := t.incChg || v != s.inc }

/-- An increment is accepted: in force, counted for the hour's summary, and holdover ends. -/
def incAccept (v : Nat) (s : Hw) : Hw :=
  let t := s.incHours v
  setHoldover false { s.setInc v with time := { t with incTick := t.ticks, incWrites := t.incWrites + 1 } }

/-- `s` with one more increment for the coming tick. -/
def Hw.pushInc (s : Hw) (r : IncReq) : Hw := { s with time := { s.time with incNext := s.time.incNext ++ [r] } }

/-- The commands that wait on an increment are answered. -/
def incAnswer (w : Option (Hdr × Nat)) (st : Status) (s : Hw) : Hw :=
  match w with
  | some (h, _) => s.finish (fun x => decide (x.kind = .inc) && decide (x.hdr = h)) (fun _ => st) (fun _ => [])
  | none => s

/-- Cycle 0 of the tick to which increments belong: each is checked against the tick's mode (R304); then the clamp of R305,
`old` being the mode of the tick that ended. A STANDBY may take FORM or RIDE-THROUGH from its twin's mirror. -/
def incBoundary (old : Nat) (s : Hw) : Hw :=
  let rs := s.time.incNext
  let s := { s with time := { s.time with incNext := [] } }
  let s := rs.foldl (fun s r =>
    if s.running && !incNear limRun r.inc then incAnswer r.wait .incLimit (s.raise ALM_STAT_INC_REFUSED)
    else incAnswer r.wait .ok (incAccept r.inc s)) s
  let v := s.inc
  if s.running ∧ !([mForm, mRide].contains old) ∧ !incNear limRun v then
    let c := if nomInc < v then nomInc + limRun else nomInc - limRun
    (({ s.setInc c with time := s.incHours c }).raise ALM_STAT_INC_CLAMP).logInternal 0xF2000012 v c
  else s

/-- A change of the hour closes the summary of an hour in which INC changed (R306): the extremes of INC in it, its last value and the
number of writes, wider than 64 bits together and entered as digests. -/
def incSummary (s : Hw) : Hw :=
  let t := s.time
  let hour := t.sec / 3600
  if hour = t.incHour then s
  else
    let s := { s with time := { t with incHour := hour, incWrites := 0, incChg := false, incMin := s.inc, incMax := s.inc } }
    if !t.incChg then s
    else s.logOne s.time.tickNo internalOrigin 0 ⟨0xF2000011, Config.shake256 (leBytes 8 t.incMin ++ leBytes 8 t.incMax) 64,
      Config.shake256 (leBytes 8 s.inc ++ leBytes 8 t.incWrites) 64, true⟩

/-- What a submission of a 36-bit value is answered at once: a status, or none where the mode of its tick decides. -/
def incJudge (s : Hw) (v : Nat) : Option Status :=
  if s.flag ALM_CTRL_PTP_FW_EN then some .modeNotAllowed
  else if !incNear limAny v then some .range
  else none

/-- A submission: the stage empties; a refused value sets INC_REFUSED; any other belongs to the coming tick. A value that every
mode admits is answered at once. -/
def incSubmit (h : Hdr) (opcode v : Nat) (s : Hw) : Done :=
  let s := { s with time := { s.time with stageLow := none } }
  match incJudge s v with
  | some .range => { hw := s.raise ALM_STAT_INC_REFUSED, status := .range }
  | some st => { hw := s, status := st }
  | none =>
    if s.logRefuses 0 then { hw := s, status := .logFull }
    else
      if incNear limRun v then { hw := s.pushInc ⟨v, none⟩ } else { hw := s.pushInc ⟨v, some (h, opcode)⟩, wait := some .inc }

/-- The value that a write of ALM_INCH submits: its bits [3:0] over the staged low word. -/
def Hw.incStaged (s : Hw) (hi : Nat) : Nat := hi % 16 * 2 ^ 32 + s.time.stageLow.getD (s.get ALM_INCL_INCL)

/-- HOLDOVER_TIMEOUT (R315). -/
def holdoverTimeout (s : Hw) : Hw :=
  let n := s.get ALM_CTRL_HOLD_TMO * ticksPerSec
  if s.time.incTick + n ≤ s.ticks ∨ (s.flag ALM_CTRL_PTP_FW_EN ∧ s.time.syncTick + n ≤ s.ticks) then setHoldover true s else s

/-! ### Steps (R307, R308) -/

/-- The largest value of 48-bit seconds. -/
def secMax : Int := 2 ^ 48 - 1

/-- The time that a step gives from (sec, ns): in ns since second 0. -/
def StepReq.target (r : StepReq) (sec ns : Nat) : Int :=
  let d := r.sec * (nsPerSec : Int) + r.ns
  if r.absolute then d else (sec * nsPerSec + ns : Nat) + d

/-- The form of a step: nanoseconds within a second, fields of one sign. -/
def StepReq.formBad (r : StepReq) : Bool :=
  if r.absolute then outsideInt 0 secMax r.sec || outsideInt 0 999999999 r.ns
  else decide (999999999 < r.ns.natAbs) || decide (r.sec * r.ns < 0)

/-- Its result lies outside the seconds that Almanac holds. -/
def StepReq.resultBad (r : StepReq) (sec ns : Nat) : Bool :=
  let t := r.target sec ns
  decide (t < 0) || decide (secMax < t / nsPerSec)

/-- The commands that wait on a step are answered. -/
def stepAnswer (p : StepPend) (st : Status) (s : Hw) : Hw :=
  match p.hdr with
  | some h => s.finish (fun x => decide (x.kind = .step) && decide (x.hdr = h)) (fun _ => st) (fun _ => [])
  | none => s

/-- A step is accepted; it replaces one that belongs to the same tick. -/
def stepEnter (r : StepReq) (h : Option Hdr) (s : Hw) : Hw :=
  let n := s.ticks + 1
  let old := s.time.steps.filter fun p => p.belongs == n
  let keep := s.time.steps.filter fun p => p.belongs != n
  let new : StepPend := ⟨r, h, n⟩
  let s := { s with time := { s.time with steps := keep ++ [new] } }
  old.foldl (fun s p => stepAnswer p .stepReplaced s) (s.raise ALM_STAT_STEP_PEND)

/-- (S, N, F) as the bytes that are digested for the log. -/
def timeBytes (t : Nat × Nat × Nat) : List Byte := leBytes 6 t.1 ++ leBytes 4 t.2.1 ++ leBytes 4 t.2.2

/-- Almanac stands at `total` ns; the tick in progress has ended, and the next begins at the first multiple of 2,000 ns that lies at
least 1,000 ns ahead (R308). -/
def setTime (total frac : Nat) (s : Hw) : Hw :=
  let old := s.timeNow
  let t := s.time
  let sec := total / nsPerSec
  let s := { s with time := { t with
    sec := sec, ns := total % nsPerSec, frac := frac, base := t.base + t.cyc, cyc := 0,
    gapTo := some ((total + 1000 + 1999) / 2000 * 2000 * 2 ^ 32), aonSec := sec, aonOk := true } }
  let s := ((s.put ALM_STAT_SET 1).put ALM_STAT_TIME_INVALID 0).raise ALM_STAT_STEP_DONE
  s.logOne t.tickNo internalOrigin 0 ⟨0xF2000010, Config.shake256 (timeBytes old) 64, Config.shake256 (timeBytes s.timeNow) 64, true⟩

/-- The step that is due in the tick in progress. -/
def Hw.stepDue (s : Hw) : Option StepPend := s.time.steps.find? fun p => decide (p.belongs + 1 ≤ s.ticks)

/-- STEP_APPLY at cycle 256: the step due is applied, or answered. The result says whether time changed. -/
def stepApply (s : Hw) : Bool × Hw :=
  match s.stepDue with
  | none => (false, s)
  | some p =>
    let s := s.atCyc (max s.time.cyc 256)
    let rest := s.time.steps.filter fun q => decide (q ≠ p)
    let s := ({ s with time := { s.time with steps := rest } }).putb ALM_STAT_STEP_PEND (!rest.isEmpty)
    let (sec, ns, frac) := s.timeNow
    if s.running then (false, stepAnswer p .modeNotAllowed s)
    else if p.req.resultBad sec ns then (false, stepAnswer p .range s)
    else (true, stepAnswer p .ok (setTime (p.req.target sec ns).toNat (if p.req.absolute then 0 else frac) s))

/-! ### PTP frames (R310; the layouts are those of IEEE 802.1Q and IEEE 1588, which the spec names) -/

/-- A big-endian number of `n` bytes at `o`. -/
def beAt (bs : List Byte) (o n : Nat) : Nat := ((bs.drop o).take n).foldl (fun v b => v * 256 + b.toNat) 0

/-- `bs` with bytes replaced from `o`. -/
def bytesAt (bs : List Byte) (o : Nat) (new : List Byte) : List Byte := bs.take o ++ new ++ bs.drop (o + new.length)

/-- Offset of the Ethertype after no more than two VLAN tags. -/
def etherOfs (bs : List Byte) : Nat :=
  let tag := fun o => [0x8100, 0x88A8].contains (beAt bs o 2)
  if tag 12 then (if tag 16 then 20 else 16) else 12

/-- The Ethertype of a frame. -/
def etherType (bs : List Byte) : Nat := beAt bs (etherOfs bs) 2

/-- Where a PTP message starts in a frame. -/
def ptpAt (bs : List Byte) : Option Nat :=
  let o := etherOfs bs + 2
  if etherType bs = 0x88F7 ∧ beAt bs (o + 1) 1 % 16 = 2 then some o else none

/-- messageType of a PTP message. -/
def ptpType (bs : List Byte) (o : Nat) : Nat := beAt bs o 1 % 16

/-- `x` added to the correctionField, in 2^-16 ns. -/
def ptpCorrect (bs : List Byte) (o : Nat) (x : Int) : List Byte :=
  bytesAt bs (o + 8) (beBytes 8 (unsigned 64 (signed 64 (beAt bs (o + 8) 8) + x)))

/-! ### Stamps (R309, R311, R312) -/

/-- The measured time of a bit at a station port's balls in cycle `cyc`, in 2^-32 ns: the port stamps to within ±2 ns; `dev` says in
1/16 ns where. `lat` is the declared latency in 1/16 ns. -/
def Hw.stampAt (s : Hw) (cyc : Nat) (dev lat : Int) : Nat :=
  (((s.time.baseUnits + (if s.time.clockLost then s.time.cyc else cyc) * s.inc : Nat) : Int) + (clampInt (-32) 32 dev + lat) * 2 ^ 28).toNat

/-- Words TS0 to TS2 of a receive descriptor (Table ALM-1). -/
def stampWords (units : Nat) (frame : List Byte) : List Nat :=
  let (sec, ns, _) := splitUnits units
  let ty := match ptpAt frame with
    | some o => if ptpType frame o < 4 then some (ptpType frame o) else none
    | none => none
  [2 ^ 31 + (if ty.isSome then 2 ^ 30 else 0) + ns, sec % 2 ^ 32, ty.getD 0 * 2 ^ 16 + sec / 2 ^ 32]

/-- COUNT of a port's transmit queue. -/
def Hw.txqLen (s : Hw) (p : Nat) : Nat := (smapGet [] s.time.txq p).length

/-- `s` with a port's transmit queue at `q`. -/
def Hw.setTxq (s : Hw) (p : Nat) (q : List Stamp) : Hw :=
  ({ s with time := { s.time with txq := smapSet [] s.time.txq p q } }).put (ALM_TXTSp_STAT_COUNT p) q.length

/-- TXTS_OVF of a port. -/
def txOvf (p : Nat) : Fld := if p = 0 then ALM_STAT_TXTS_OVF0 else ALM_STAT_TXTS_OVF1

/-- A stamp enters a port's queue, or is dropped (R312). -/
def txStamp (p : Nat) (x : Stamp) (s : Hw) : Hw :=
  if s.txqLen p < 16 then s.setTxq p (smapGet [] s.time.txq p ++ [x])
  else (s.raise (txOvf p)).bump (ALM_TXTSp_STAT_DROP_CNT p)

/-- The four words of a stamp: ID, NS, SECL, SECH (Table ALM-11). -/
def Stamp.words (p : Nat) (x : Stamp) : List Nat :=
  [2 ^ 31 + p % 4 * 2 ^ 20 + x.msgType % 16 * 2 ^ 16 + x.seqId % 2 ^ 16, x.ns, x.sec % 2 ^ 32, x.sec / 2 ^ 32]

/-- A read of ALM_TXTSp_ID: the oldest entry moves into the registers. -/
def txReadId (p : Nat) (s : Hw) : Word × Hw :=
  match smapGet [] s.time.txq p with
  | [] =>
    let s := s.put (ALM_TXTSp_ID_VALID p) 0
    (s.reg (ALM_TXTSp_ID p), s)
  | x :: q =>
    let s := s.setTxq p q
    let s := (([ALM_TXTSp_ID p, ALM_TXTSp_NS p, ALM_TXTSp_SECL p, ALM_TXTSp_SECH p]).zip (x.words p)).foldl
      (fun s r => s.setReg r.1 (BitVec.ofNat 32 r.2)) s
    (s.reg (ALM_TXTSp_ID p), s)

/-- What a frame becomes when it leaves at `units` (R311), and the stamp that it queues. -/
def egress (f : TxFrame) (units : Nat) : List Byte × Option Stamp :=
  let (sec, ns, frac) := splitUnits units
  match ptpAt f.frame with
  | none => (f.frame, none)
  | some o =>
    let ty := ptpType f.frame o
    let stamp : Option Stamp := if ty < 4 then some ⟨beAt f.frame (o + 30) 2, ty, sec, ns⟩ else none
    if f.request = 0 then (f.frame, none)
    else if f.request = 2 ∧ ty = 0 then
      (ptpCorrect (bytesAt f.frame (o + 34) (beBytes 6 sec ++ beBytes 4 ns)) o (frac / 2 ^ 16 : Nat), none)
    else if f.request = 2 ∧ ty = 3 then
      (ptpCorrect f.frame o (((units / 2 ^ 16 : Nat) : Int) - ((f.insec * nsPerSec + f.inns) * 2 ^ 16 : Nat)), none)
    else (f.frame, stamp)

/-- The command that handed over a frame is answered once no port holds it. -/
def txAnswer (h : Hdr) (s : Hw) : Hw :=
  if [0, 1].any fun p => (smapGet [] s.net.tx p).any fun f => decide (f.hdr = h) then s
  else s.finish (fun x => decide (x.kind = .frameSend) && decide (x.hdr = h)) (fun _ => .ok) (fun _ => [])

/-- TX_EGRESS_STAMP: the oldest frame of a port leaves. -/
def txEgress (p cyc : Nat) (dev : Int) (s : Hw) : Hw :=
  match smapGet [] s.net.tx p with
  | [] => s
  | f :: q =>
    let s := s.atEvent cyc
    let units := s.stampAt cyc dev (s.get (ALM_PORTp_LAT_EGRESS p))
    let (bytes, x) := egress f units
    let s := { s with net := { s.net with tx := smapSet [] s.net.tx p q, txLast := smapSet [] s.net.txLast p bytes } }
    txAnswer f.hdr (match x with | some x => txStamp p x s | none => s)

/-! ### Reception (R309, R314, R391) -/

/-- The firmware servo with a PTP frame (R314, R315), `sync` saying that it is a Sync. It steps only for an offset above 100 us and where
the mode allows. A Sync that it acts on counts as accepted, but for one that leads to a value that R304 refuses. -/
def servoAct (sync : Bool) (a : ServoAct) (s : Hw) : Hw :=
  let taken := if sync then setHoldover false { s with time := { s.time with syncTick := s.ticks } } else s
  match a with
  | .ignore => s
  | .accept => taken
  | .inc v => if incNear limAny v then taken.pushInc ⟨v, none⟩ else s.raise ALM_STAT_INC_REFUSED
  | .step d =>
    let r : StepReq := ⟨false, Int.tdiv d nsPerSec, Int.tmod d nsPerSec⟩
    if 100000 < d.natAbs ∧ !taken.running ∧ !r.resultBad taken.timeNow.1 taken.timeNow.2.1 then stepEnter r none taken else taken

/-- A frame goes to the descriptor at NR_HEAD, or is dropped (R391). `own` is that descriptor's OWN bit. -/
def rxForward (p units : Nat) (frame : List Byte) (own : Bool) (s : Hw) : Hw :=
  if s.net.rxCount = 0 then s
  else if !own then s.bump NR_DROP_DROP
  else
    let head := s.get NR_HEAD_HEAD
    let w2 := (if 2048 < frame.length then 2 ^ 30 else 0) + p * 2 ^ 28 + frame.length % 2 ^ 16
    let x : RxWrite := ⟨head, w2 :: stampWords units frame, frame.take 2048⟩
    let s := { s with net := { s.net with rxLast := some x } }
    (s.put NR_HEAD_HEAD ((head + 1) % s.net.rxCount)).msixRaise 2

/-- STATION_FRAME_RECEIVE. -/
def stationReceive (p cyc : Nat) (dev : Int) (frame : List Byte) (own : Bool) (a : ServoAct) (s : Hw) : Hw :=
  let s := s.atEvent cyc
  let units := s.stampAt cyc dev (-(s.get (ALM_PORTp_LAT_INGRESS p) : Int))
  let ptp := (ptpAt frame).isSome
  let fw := s.flag ALM_CTRL_PTP_FW_EN
  let sync := match ptpAt frame with | some o => decide (ptpType frame o = 0) | none => false
  let s := if ptp && fw then servoAct sync a s else s
  if (etherType frame != 0 && s.net.rxTypes.contains (etherType frame)) || (ptp && !fw) then rxForward p units frame own s else s

/-! ### Clock loss (R317) -/

/-- Almanac stands still: the time of the present cycle is held. -/
def almStop (s : Hw) : Hw := { s with time := { s.time with clockLost := true } }

/-- Counting resumes from the cycle held. -/
def almResume (s : Hw) : Hw := ({ s with time := { s.time with clockLost := false } }).put ALM_STAT_TIME_INVALID 1

/-! ### Register writes -/

/-- ALM_CTRL out of range. -/
def almCtrlBad (t : Hw) : Bool := decide (t.get ALM_CTRL_HOLD_TMO = 0) || decide (t.get ALM_CTRL_SV_AGE_MAX = 0)

/-- Writes in the Almanac window. The increment's words are judged here against the mode in progress. -/
def almWrite (s : Hw) (w : Wr) : Judged :=
  let t := s.writeAs w
  if w.addr = ALM_CTRL then judge [(almCtrlBad t, .range)] t
  else if w.addr = ALM_INCL then
    if w.mask = 0 then .ok s else .ok { s with time := { s.time with stageLow := some w.new.toNat } }
  else if w.addr = ALM_INCH then
    if w.mask = 0 then .ok s
    else
      let v := s.incStaged (w.val ALM_INCH_INCH)
      match incJudge s v with
      | some st => .error st
      | none =>
        if s.running && !incNear limRun v then .error .incLimit
        else .ok (({ s with time := { s.time with stageLow := none } } : Hw).pushInc ⟨v, none⟩)
  else if w.addr = ALM_STAT then
    .ok (([0, 1].filter fun p => w.was (txOvf p) == 1 && w.val (txOvf p) == 0).foldl (fun t p => t.put (ALM_TXTSp_STAT_DROP_CNT p) 0) t)
  else .ok t

/-! ### Commands (Table ALM-2) -/

/-- 0x0A00 ALM_TIME_GET. -/
def execAlmTimeGet (h : Hdr) (s : State) : Host.Outcome State Fault Refusal :=
  .next (s.onHw (hostCmd (Op.plain 0x0A00 .viewer) (.almTimeGet h) h fun s =>
    let (sec, ns, frac) := s.timeNow
    answer s (leBytes 6 sec ++ leBytes 4 ns ++ leBytes 4 frac ++ leBytes 8 s.inc ++ regBytes s [SYS_TICKNUM, ALM_STAT])))

/-- 0x0A01 ALM_STEP (R307). -/
def execAlmStep (h : Hdr) (kind : Nat) (sec ns : Int) (s : State) : Host.Outcome State Fault Refusal :=
  .next (s.onHw (hostCmd (Op.plain 0x0A01 .engineer) (.almStep h kind sec ns) h fun s =>
    let r : StepReq := ⟨decide (kind = 0), sec, ns⟩
    checked s [(s.flag ALM_CTRL_PTP_FW_EN, .modeNotAllowed), (decide (1 < kind) || r.formBad, .range),
      (r.resultBad s.timeNow.1 s.timeNow.2.1, .range)]
      (changeWait (stepEnter r (some h) s) (digestChg 0x0A01 [] (leBytes 1 kind ++ leBytes 6 (unsigned 48 sec) ++ leBytes 4 (unsigned 32 ns))) .step)))

/-- 0x0A02 ALM_INC_SET (R304). -/
def execAlmIncSet (h : Hdr) (inc : Nat) (s : State) : Host.Outcome State Fault Refusal :=
  .next (s.onHw (hostCmd (Op.plain 0x0A02 .operator) (.almIncSet h inc) h (incSubmit h 0x0A02 inc)))

/-- 0x0A03 ALM_TXTS_READ: up to `count` entries, oldest first, each as ID, NS, SECL and SECH words (R312). -/
def execAlmTxtsRead (h : Hdr) (port count : Nat) (s : State) : Host.Outcome State Fault Refusal :=
  .next (s.onHw (hostCmd (Op.plain 0x0A03 .viewer) (.almTxtsRead h port count) h fun s =>
    checked s [(decide (1 < port) || outside 1 16 count, .range)]
      (let q := smapGet [] s.time.txq port
       answer (s.setTxq port (q.drop count)) ((q.take count).flatMap fun x => (x.words port).flatMap (leBytes 4)))))

/-- 0x0A04 ALM_CFG_SET. -/
def execAlmCfgSet (h : Hdr) (ctrl utc lat0 lat1 : Nat) (s : State) : Host.Outcome State Fault Refusal :=
  .next (s.onHw (hostCmd (Op.plain 0x0A04 .engineer) (.almCfgSet h ctrl utc lat0 lat1) h fun s =>
    let t := (((s.setWord ALM_CTRL ctrl).setWord ALM_UTC utc).setWord (ALM_PORTp_LAT 0) lat0).setWord (ALM_PORTp_LAT 1) lat1
    checked s [(almCtrlBad t, .range)] (change t (regChgs s t [ALM_CTRL, ALM_UTC, ALM_PORTp_LAT 0, ALM_PORTp_LAT 1]))))

/-! ### Register accesses that act by themselves -/

/-- A read of ALM_NS: seconds and fraction of the same cycle are captured (R302). -/
def almCapture (s : Hw) : Word × Hw :=
  let (sec, ns, frac) := s.timeNow
  (BitVec.ofNat 32 ns, ((s.put ALM_SECL_SECL (sec % 2 ^ 32)).put ALM_SECH_SECH (sec / 2 ^ 32)).put ALM_FRAC_FRAC frac)

/-! ### Events -/

/-- HOLDOVER_TIMEOUT. -/
def execHoldoverTimeout (s : State) : Host.Outcome State Fault Refusal := .next (s.onHw (onRun holdoverTimeout))

/-- TX_EGRESS_STAMP. -/
def execTxEgressStamp (port cyc : Nat) (dev : Int) (s : State) : Host.Outcome State Fault Refusal :=
  .next (s.onHw (onRun fun s => if port < 2 then txEgress port cyc dev s else s))

/-- STATION_FRAME_RECEIVE: port, cycle and deviation of its stamp, the frame without FCS, OWN of the descriptor at NR_HEAD, what the
firmware servo does with it. -/
def execStationFrameReceive (port cyc : Nat) (dev : Int) (frame : List Byte) (own : Bool) (servo : ServoAct) (s : State) :
    Host.Outcome State Fault Refusal :=
  .next (s.onHw (onRun fun s => if port < 2 then stationReceive port cyc dev frame own servo s else s))

end Sys2Proof.Machine
end

