-- ==== Sys2Proof/Machine/Hkc.lean ====
section
/-! DEFINITION. Housekeeping converters (03_fast_channels.md, R59 to R66; the die-temperature warning of R445). -/

namespace Sys2Proof.Machine

/-- A housekeeping converter. -/
def Hw.hkcOf (s : Hw) (n : Nat) : HkcSt := smapGet {} s.hkc n

/-- A change of a housekeeping converter. -/
def Hw.onHkc (s : Hw) (n : Nat) (f : HkcSt → HkcSt) : Hw := { s with hkc := smapSet {} s.hkc n (f (s.hkcOf n)) }

/-- The entry that converts from half cycle `at_` on, shown in HKCn_STAT. -/
def hkcEntryAt (at_ n : Nat) (e : Option (Bool × Nat)) (s : Hw) : Hw :=
  let s := s.onHkc n fun c => { c with cur := e, start := at_ }
  match e with
  | some (inj, k) => ((s.put (HKCn_STAT_BUSY n) 1).putb (HKCn_STAT_INJ_RUN n) inj).put (HKCn_STAT_CUR_ENTRY n) k
  | none => (s.put (HKCn_STAT_BUSY n) 0).put (HKCn_STAT_INJ_RUN n) 0

/-- The entry that converts from the present instant on. -/
def hkcEntry (n : Nat) (e : Option (Bool × Nat)) (s : Hw) : Hw := hkcEntryAt (2 * s.cycles) n e s

/-- The half cycle at which the entry in progress has had its ORDER * OSR modulator clocks (R60). -/
def Hw.hkcDue (s : Hw) (n : Nat) : Nat := (s.hkcOf n).start + 125 * (s.get (HKCn_CFG_ORDER n) * s.get (HKCn_CFG_OSR n))

/-- A relock of the lane MDLL: every entry in progress starts again from its beginning (R60). -/
def hkcRelock (s : Hw) : Hw := s.each [0, 1] fun n s => s.onHkc n fun c => { c with start := 2 * s.cycles }

/-- The regular sequence goes on at half cycle `at_`, after entry `e` (R61). -/
def hkcAfter (at_ n e : Nat) (s : Hw) : Hw :=
  if e < s.get (HKCn_CFG_SEQ_LEN n) then hkcEntryAt at_ n (some (false, e + 1)) s
  else if s.flag (HKCn_CFG_RTRIG n) then hkcEntryAt at_ n none s
  else hkcEntryAt at_ n (some (false, 0)) s

/-- EN is written (R66): 0 stops at once and discards the entry in progress, 1 starts a round at entry 0, with RTRIG = 1
at the next slow-cycle boundary (R61; log entry 13). -/
def hkcEnable (n : Nat) (on : Bool) (s : Hw) : Hw :=
  let s := s.onHkc n fun c => { c with resume := none }
  hkcEntry n (if on && !s.flag (HKCn_CFG_RTRIG n) then some (false, 0) else none) s

/-- R64: a result lands in HKCn_DATA. -/
def hkcLand (n code : Nat) (inj : Bool) (e : Nat) (s : Hw) : Hw :=
  let s := if s.flag (HKCn_DATA_NEW n) then s.raise (HKCn_STAT_OVR n) else s
  (((s.put (HKCn_DATA_VALUE n) code).put (HKCn_DATA_ENTRY n) e).putb (HKCn_DATA_INJ n) inj).put (HKCn_DATA_NEW n) 1

/-- R65: the HK31 check of converter `n`. -/
def hk31Check (n code : Nat) (s : Hw) : Hw :=
  let tol := s.get HKC_PLCFG_TOL
  let far (a b t : Nat) : Bool := decide (t < (Int.ofNat a - Int.ofNat b).natAbs)
  let other := match (s.hkcOf (1 - n)).hk31 with
    | some (v, t) => decide (s.ticks ≤ t + 100 * ticksPerMs) && far code v tol
    | none => false
  let s := if far code 0x800000 (8 * tol) || other then s.raise (HKCn_STAT_HK_PLAUS_FAIL n) else s
  s.onHkc n fun c => { c with hk31 := some (code, s.ticks) }

/-- R445: THERM_WARN is set where a die temperature result exceeds 105 °C, that is V_T below 0.562 V (R59). -/
def hk24Check (code : Nat) (s : Hw) : Hw :=
  if code * 2048 < 562 * 2 ^ 24 then s.raise SYS_PWRSTAT_THERM_WARN else s

/-- An entry of converter `n` completes with a code (R59 to R65), after ORDER * OSR clocks of the running lane MDLL. -/
def hkcComplete (n code : Nat) (s : Hw) : Hw :=
  match (s.hkcOf n).cur with
  | none => s
  | some (inj, e) =>
    let due := s.hkcDue n
    if !s.shf.clock || decide (2 * (s.time.base + s.tickLen) < due) then s else
    let s := s.atCyc (max s.time.cyc ((due + 1) / 2 - s.time.base))
    let code := min code 0xFFFFFF
    let input := s.get (if inj then HKCn_INJm_INPUT n e else HKCn_SEQm_INPUT n e)
    let s := hkcLand n code inj e s
    let s := if input = 31 then hk31Check n code s else if input = 24 then hk24Check code s else s
    if inj then
      if e < s.get (HKCn_CFG_INJ_LEN n) then hkcEntryAt due n (some (true, e + 1)) s
      else hkcEntryAt due n ((s.hkcOf n).resume.map fun r => (false, r)) (s.onHkc n fun c => { c with resume := none })
    else hkcAfter due n e s

/-- R62, R63: an injected trigger of converter `n`. -/
def hkcTrigger (n : Nat) (s : Hw) : Hw :=
  if !s.flag (HKCn_CFG_EN n) then s
  else if s.flag (HKCn_STAT_INJ_RUN n) then s.raise (HKCn_STAT_INJ_MISS n)
  else
    let at_ := match (s.hkcOf n).cur with | some (false, e) => some e | _ => none
    hkcEntry n (some (true, 0)) (s.onHkc n fun c => { c with resume := at_ })

/-- R61: a slow-cycle boundary. -/
def hkcSlow (s : Hw) : Hw :=
  s.each [0, 1] fun n s =>
    let c := s.hkcOf n
    if s.flag (HKCn_CFG_EN n) && s.flag (HKCn_CFG_RTRIG n) then
      match c.cur, c.resume with
      | none, _ => hkcEntry n (some (false, 0)) s
      | some (true, _), none => s.onHkc n fun c => { c with resume := some 0 }
      | _, _ => s.raise (HKCn_STAT_SEQ_LATE n)
    else s

/-- HKCn_DATA is read (R64). -/
def hkcReadData (n : Nat) (s : Hw) : Word × Hw := (s.reg (HKCn_DATA n), s.put (HKCn_DATA_NEW n) 0)

/-- A CFG word is out of range. -/
def hkcCfgBad (v : Nat) : Bool :=
  outside 1 5 ((HKCn_CFG_ORDER 0).ofNat v) || outside 32 4096 ((HKCn_CFG_OSR 0).ofNat v)

/-- An INJCFG word is out of range. -/
def hkcInjBad (v : Nat) : Bool :=
  let src := (HKCn_INJCFG_SRC 0).ofNat v
  decide (3 < src) || (decide (src = 1) && decide (7 < (HKCn_INJCFG_SEL 0).ofNat v))

/-- Writes of the HKC window (R66): everything but EN is ignored while EN = 1. -/
def hkcWrite (s : Hw) (w : Wr) : Judged :=
  let n := (w.addr - HKCn_CFG 0) / 0x100
  if 2 ≤ n then .ok (s.writeAs w)
  else
    let en := s.flag (HKCn_CFG_EN n)
    if w.addr = HKCn_CFG n then
      let new := if en then (HKCn_CFG_EN n).into w.old (w.val (HKCn_CFG_EN n)) else w.new
      let on := (HKCn_CFG_EN n).of new == 1
      let s' := s.setReg w.addr new
      judge [(hkcCfgBad new.toNat, .range)] (if on = en then s' else hkcEnable n on s')
    else if w.addr = HKCn_INJCFG n then
      if en then .ok s else judge [(hkcInjBad w.new.toNat, .range)] (s.writeAs w)
    else if w.addr < HKCn_INJCFG n then (if en then .ok s else .ok (s.writeAs w))
    else .ok (s.writeAs w)

/-- The configuration registers of a converter. -/
def hkcRegs (n : Nat) : List Nat :=
  HKCn_CFG n :: (List.range 32).map (HKCn_SEQm n) ++ (List.range 4).map (HKCn_INJm n) ++ [HKCn_INJCFG n]

/-- The words of HKC_CONFIG written. -/
def hkcConfigured (n cfg : Nat) (seqs injs : List Nat) (injcfg : Nat) (s : Hw) : Hw :=
  let s := s.each (List.range 32) fun m s => s.put (HKCn_SEQm_INPUT n m) (seqs.getD m 0)
  let s := s.each (List.range 4) fun m s => s.put (HKCn_INJm_INPUT n m) (injs.getD m 0)
  let s := s.setWord (HKCn_INJCFG n) injcfg
  let s := s.setWord (HKCn_CFG n) cfg
  if bitOf cfg 31 then hkcEnable n true s else s

/-! ### Commands -/

/-- 0x0404 HKC_CONFIG (R66). -/
def execHkcConfig (h : Hdr) (conv cfg : Nat) (seqs injs : List Nat) (injcfg : Nat) (s : State) :
    Host.Outcome State Fault Refusal :=
  .next (s.onHw (hostCmd (Op.plain 0x0404 .engineer) (.hkcConfig h conv cfg seqs injs injcfg) h fun s =>
    checked s
      [(decide (2 ≤ conv) || hkcCfgBad cfg || hkcInjBad injcfg ||
        (seqs ++ injs).any (fun v => decide (32 ≤ v)), .range),
       (s.flag (HKCn_CFG_EN conv), .hkcRunning)]
      (let t := hkcConfigured conv cfg seqs injs injcfg s
       change t (regChgs s t (hkcRegs conv)))))

/-- 0x0405 HKC_INJECT (R62, R63): each converter of the mask is triggered; the status is that of the first refused. -/
def execHkcInject (h : Hdr) (mask : Nat) (s : State) : Host.Outcome State Fault Refusal :=
  .next (s.onHw (hostCmd (Op.plain 0x0405 .operator) (.hkcInject h mask) h fun s =>
    let refusal (n : Nat) : List (Bool × Status) :=
      [(bitOf mask n && !s.flag (HKCn_CFG_EN n), .hkcDisabled), (bitOf mask n && s.flag (HKCn_STAT_INJ_RUN n), .injBusy)]
    checked s [(decide (4 ≤ mask), .range)]
      (let t := s.each (bitsOf 2 mask) hkcTrigger
       match firstFail (refusal 0 ++ refusal 1) with
       | some st => { change t (cmdChg 0x0405 0 mask) with status := st }
       | none => change t (cmdChg 0x0405 0 mask))))

/-- 0x0406 HKC_READ (R64). -/
def execHkcRead (h : Hdr) (conv : Nat) (s : State) : Host.Outcome State Fault Refusal :=
  .next (s.onHw (hostCmd (Op.plain 0x0406 .viewer) (.hkcRead h conv) h fun s =>
    checked s [(decide (2 ≤ conv), .range)]
      (let (v, t) := hkcReadData conv s
       answer t (leBytes 4 v.toNat ++ regBytes s [HKCn_STAT conv]))))

/-! ### Events -/

/-- HKC_ENTRY_COMPLETE: converter, 24-bit code. -/
def execHkcEntryComplete (conv code : Nat) (s : State) : Host.Outcome State Fault Refusal :=
  .next (s.onHw (onRun fun s => if conv < 2 then hkcComplete conv code s else s))

/-- HKC_INJ_TRIGGER: a trigger from source `src` with number `sel`, taken where HKCn_INJCFG names it (Table FCH-15). -/
def execHkcInjTrigger (conv src sel : Nat) (s : State) : Host.Outcome State Fault Refusal :=
  .next (s.onHw (onRun fun s =>
    if conv < 2 ∧ 1 ≤ src ∧ src = s.get (HKCn_INJCFG_SRC conv) ∧ (src = 2 ∨ sel = s.get (HKCn_INJCFG_SEL conv)) then
      hkcTrigger conv s
    else s))

end Sys2Proof.Machine
end

