-- ==== Sys2Proof/Machine/Orrery.lean ====
section
/-! DEFINITION. Orrery: MDLLs, spread, clock monitors, clock outputs, crossings (R319 to R334), with what the loss of a clock does
in other blocks, the clearing of CLK_LOSS (R264) and debug halts (R102, R263). -/

namespace Sys2Proof.Machine

/-! ### Loss and return of clocks (R264, R317, R322, R326) -/

/-- The timebase clock is lost. -/
def tbLoss (s : Hw) : Hw :=
  if s.time.clockLost then s
  else
    let s := lstClockLoss (almStop s)
    ((s.tripNow cClock).causeActive cClock true).raise ORY_MON_TB_LOSS |>.clockTol

/-- The timebase clock returns. -/
def tbReturn (s : Hw) : Hw :=
  if s.time.clockLost then (lstClockReturn (almResume s)).causeActive cClock (s.flag ORY_MON_CORE_LOSS) else s

/-- The core clock is lost; nothing but a reset brings it back. -/
def coreLoss (s : Hw) : Hw :=
  if s.flag ORY_MON_CORE_LOSS then s
  else
    let s := ((lstCoreLoss s).latchCause cClock).causeActive cClock true
    ({ s with twin := { s.twin with hbRun := false } } : Hw).raise ORY_MON_CORE_LOSS

/-- The lane clock stops. -/
def laneClockStop (s : Hw) : Hw := { s with shf := { s.shf with clock := false } }

/-- It runs again: every lane not in OFF trains, and the housekeeping entries start again (R60). -/
def laneClockBack (s : Hw) : Hw :=
  if s.shf.clock then s
  else
    let s := hkcRelock { s with shf := { s.shf with clock := true } }
    s.each ((List.range numLanes).filter fun n => s.laneState n != lnOff) laneTrain

/-- The DDR clock is lost, or runs (R346). -/
def ddrClock (runs : Bool) (s : Hw) : Hw :=
  ({ s with chr := { s.chr with ddrLost := !runs } } : Hw).putb CHR_STAT_DDR_OK (runs && s.get CHR_STAT_DDR_GIB != 0)

/-! ### MDLLs (R320 to R322) -/

/-- Loop states (Table ORY-10). -/
def mdSearch : Nat := 1
def mdLocking : Nat := 2
def mdLocked : Nat := 3

def Hw.mdllState (s : Hw) (m : Nat) : Nat := s.get (ORY_MDLLm_STAT_STATE m)

/-- A loop is in band search or locking. -/
def Hw.acquiring (s : Hw) (m : Nat) : Bool := [mdSearch, mdLocking].contains (s.mdllState m)

/-- The DDR is in self-refresh, or leaves it; what is written to it meanwhile waits in the buffer (R322, R346). -/
def selfRefresh (on : Bool) (s : Hw) : Hw := { s with chr := { s.chr with stall := on } }

/-- The output of a loop stops; `lost` says that no command asked for it. The core loop's output lies low as long as it acquires, which
stops the core clock for good (DEDUCED, log entry 78). -/
def loopStops (m : Nat) (lost : Bool) (s : Hw) : Hw :=
  if m = 0 then coreLoss s
  else if m = 1 then tbLoss s
  else if m = 2 then laneClockStop s
  else if m = 3 then (if lost then ddrClock false s else selfRefresh true s)
  else s

/-- The bands are tested where BAND_AUTO = 1, for at most 12 us; else BAND is taken at once (R320). DESIGN CHOICE (log entry 165): the
search ends at one of the next six tick boundaries, the spec does not say which. -/
def bandSearch (m : Nat) (s : Hw) : Hw :=
  if s.flag (ORY_MDLLm_CFG_BAND_AUTO m) then
    let (w, s) := s.fresh
    let s := s.put (ORY_MDLLm_STAT_STATE m) mdSearch
    { s with ory := { s.ory with search := smapSet 0 s.ory.search m (s.ticks + 1 + w.toNat % 6) } }
  else (s.put (ORY_MDLLm_STAT_STATE m) mdLocking).put (ORY_MDLLm_STAT_BAND_FOUND m) (s.get (ORY_MDLLm_CFG_BAND m))

/-- A tick begins: the searches that end have selected their band. -/
def searchTick (s : Hw) : Hw :=
  s.each ((List.range 4).filter fun m => s.mdllState m == mdSearch && decide (smapGet 0 s.ory.search m ≤ s.ticks)) fun m s =>
    s.put (ORY_MDLLm_STAT_STATE m) mdLocking

/-- A write that waits for loop `m`. -/
def Hw.mdllPend (s : Hw) (m : Nat) : Option Word := smapGet none s.ory.pend m

/-- `s` with that write, PEND and SYS_PEND. -/
def setMdllPend (m : Nat) (w : Option Word) (s : Hw) : Hw :=
  let s := { s with ory := { s.ory with pend := smapSet none s.ory.pend m w } }
  let s := s.putb (ORY_MDLLm_STAT_PEND m) w.isSome
  let any := (List.range 4).any fun k => (s.mdllPend k).isSome
  s.put SYS_PEND_PENDING (if any then bitSet (s.get SYS_PEND_PENDING) 5 else bitClear (s.get SYS_PEND_PENDING) 5)

/-! ### Clock outputs: the setting in force (R327, R328, R334) -/

/-- The loop that a clock output's source comes from. -/
def clkoutLoop : Nat → Option Nat
  | 1 => some 1
  | 2 => some 0
  | 3 => some 2
  | 6 => some 1
  | 7 => some 1
  | _ => none

/-- SRC and DIV_M1 of a setting. -/
def clkSrc (w : Word) : Nat := (ORY_CLKOUTn_SRC 0).of w
def clkDiv (w : Word) : Nat := (ORY_CLKOUTn_DIV_M1 0).of w

/-- The source of a setting is held low by its loop's acquisition. -/
def Hw.clkoutStill (s : Hw) (w : Word) : Bool := (clkoutLoop (clkSrc w)).any s.acquiring

/-- TICK with divider `d` is high: for the first 1,000 ns of every (d + 1)th tick. DESIGN CHOICE (log entry 79): counted from tick 0. -/
def Hw.tickHigh (s : Hw) (d : Nat) : Bool :=
  s.time.tickNo % (d + 1) == 0 && decide (s.timeNow.2.1 % 2000 < 1000)

/-- PPS is high: for the first 100 ms of each second. -/
def Hw.ppsHigh (s : Hw) : Bool := decide (s.timeNow.2.1 < 100000000)

/-- A setting of TICK or PPS lies low now; of a clock, the instant is the one held with the change. -/
def Hw.clkoutLow (s : Hw) (w : Word) : Bool :=
  if clkSrc w = 6 then !s.tickHigh (clkDiv w) else if clkSrc w = 7 then !s.ppsHigh else true

/-- The first cycle at which the clocks among two settings are both low: the spec does not state their phases, so with a clock among
them it is free (log entry 79). -/
def clksLow (a b : Word) (s : Hw) : Nat × Hw :=
  if clkSrc a ∈ [6, 7] ∧ clkSrc b ∈ [6, 7] then (s.cycles, s)
  else
    let (w, s) := s.fresh
    (s.cycles + w.toNat, s)

/-- A change to `new` that has waited with the setting `old` since its clocks' low at cycle `t` is in effect now. -/
def Hw.outMet (s : Hw) (old new : Word) (t : Nat) : Bool :=
  !s.clkoutStill old && !s.clkoutStill new && decide (t ≤ s.cycles) && s.clkoutLow old && s.clkoutLow new

/-- The setting of SRC and DIV_M1 that CLKOUTn shows: after a change the old one until both lie low and neither source is held (R328,
R334). -/
def Hw.clkoutSetting (s : Hw) (n : Nat) : Word :=
  let new := s.reg (ORY_CLKOUTn n)
  match smapGet none s.ory.out n with
  | some (old, t) => if s.outMet old new t then new else old
  | none => new

/-- `s` with the change that waits at CLKOUTn: the setting still shown, the cycle of its clocks' low. -/
def setOut (n : Nat) (v : Option (Word × Nat)) (s : Hw) : Hw := { s with ory := { s.ory with out := smapSet none s.ory.out n v } }

/-- Changes that have taken effect no longer wait. -/
def outsSettle (s : Hw) : Hw :=
  s.each (List.range 4) fun n s =>
    match smapGet none s.ory.out n with
    | some (old, t) => if s.outMet old (s.reg (ORY_CLKOUTn n)) t then setOut n none s else s
    | none => s

/-- Loop `m` runs again: a change that waited for it waits for the next common low (R334). -/
def outsResume (m : Nat) (s : Hw) : Hw :=
  s.each (List.range 4) fun n s =>
    match smapGet none s.ory.out n with
    | some (old, _) =>
      let new := s.reg (ORY_CLKOUTn n)
      if [old, new].any fun w => clkoutLoop (clkSrc w) == some m then
        let (t, s) := clksLow old new s
        setOut n (some (old, t)) s
      else s
    | none => s

/-- A loop begins an acquisition; the spread generator stops with the core loop (R324). -/
def acquire (m : Nat) (lost : Bool) (s : Hw) : Hw :=
  let s := bandSearch m (outsSettle (s.bump (ORY_MDLLm_STAT_ACQ_CNT m)))
  loopStops m lost (if m = 0 then { s with ory := { s.ory with sscRuns := false } } else s)

/-- MDLL_LOCK_LOST. -/
def lockLost (m : Nat) (s : Hw) : Hw :=
  if s.mdllState m = 0 then s else acquire m true (s.raise (ORY_MDLLm_STAT_LOCK_LOST m))

/-- The output of a loop runs: changes of clock outputs that waited for it await the next instant at which both settings lie low. -/
def loopRuns (m : Nat) (s : Hw) : Hw :=
  let s := outsResume m s
  if m = 1 then tbReturn s
  else if m = 2 then laneClockBack s
  else if m = 3 then selfRefresh false (ddrClock true s)
  else s

/-- A write of loop `m` waits, or the loop acquires: a further write waits in its turn, or takes the place of the one that waits (R321). -/
def Hw.mdllBusy (s : Hw) (m : Nat) : Bool := s.acquiring m || (s.mdllPend m).isSome

/-- MDLL_LOCKED: band found and phase locked. The rest time of 1 us runs where a write waits. -/
def locked (m band : Nat) (s : Hw) : Hw :=
  if s.acquiring m then
    let s := s.put (ORY_MDLLm_STAT_STATE m) mdLocked
    let s := s.put (ORY_MDLLm_STAT_BAND_FOUND m) (if s.flag (ORY_MDLLm_CFG_BAND_AUTO m) then band else s.get (ORY_MDLLm_CFG_BAND m))
    let s := loopRuns m s
    if (s.mdllPend m).isSome then { s with ory := { s.ory with rest := smapSet 0 s.ory.rest m (s.cycles + 256) } } else s
  else s

/-- The status that bars a write of a loop's configuration now. -/
def mdllBars (s : Hw) (m : Nat) : Option Status :=
  if m = 3 then (if s.cfgMode then none else some .modeNotAllowed)
  else if s.mode = mCommission ∧ (List.range numLegs).all s.legAtRest ∧
      (List.range numLanes).all (fun n => [lnOff, lnIdle].contains (s.laneState n)) ∧ !s.hasTwin then none
  else some .conditionUnmet

/-- A configuration out of range (Table ORY-9). -/
def mdllRangeBad (s : Hw) (m v : Nat) : Bool :=
  decide (3 < m) || (decide (m = 3) && !([40, 50].contains ((ORY_MDLLm_CFG_MULT 3).of (s.wr (ORY_MDLLm_CFG 3) v).new)))

/-- A configuration comes into force and its acquisition starts. -/
def mdllApply (m v : Nat) (s : Hw) : Hw := acquire m false (s.setWord (ORY_MDLLm_CFG m) v)

/-- A write of a loop's configuration that has been judged: done, or deferred until the acquisition and the rest time are over. -/
def mdllSet (m v : Nat) (s : Hw) : Hw :=
  if s.mdllBusy m then setMdllPend m (some (BitVec.ofNat 32 v)) s else mdllApply m v s

/-- REST_TIME_END of class MDLL: a pending write is judged again and comes into force, or is dropped (R40). -/
def mdllRestEnd (s : Hw) : Hw :=
  let ms := (List.range 4).filter fun m => (s.mdllPend m).isSome && s.mdllState m == mdLocked && s.fallsDue (smapGet 0 s.ory.rest m)
  s.each ms fun m s =>
    let v := match s.mdllPend m with | some w => w.toNat | none => 0
    let s := setMdllPend m none (s.toCycle (smapGet 0 s.ory.rest m))
    if (mdllBars s m).isSome then (s.raiseBit SYS_PEND_DROPPED 5).logInternal (0xF1000000 + 0x0A21) v 0
    else mdllApply m v s

/-- ENABLE_CANCEL of class MDLL (R334). -/
def mdllCancel (s : Hw) : Hw := s.each (List.range 4) fun m s => setMdllPend m none s

/-! ### The spread ramp generator (R323, R324) -/

/-- The profile registers. -/
def profRegs : List Nat := (List.range 8).map ORY_SSC_PROFj

/-- A write has changed what the next frame boundary takes. -/
def sscWritten (prof : Bool) (s : Hw) : Hw :=
  let s := s.put ORY_SSC_CFG_PEND 1
  if prof then { s with ory := { s.ory with profDue := true } } else s

/-- The generator at a frame boundary: settings come into force while the core loop is locked, the profile once its last register
has been written; a generator that an acquisition has stopped resumes. -/
def sscFrame (s : Hw) : Hw :=
  if s.mdllState 0 ≠ mdLocked then s
  else
    let s := ({ s with ory := { s.ory with sscRuns := true } } : Hw).latch [ORY_SSC_CFG]
    let s := if s.ory.profDue then ({ s with ory := { s.ory with profDue := false } } : Hw).latch profRegs else s
    s.putb ORY_SSC_CFG_PEND (profRegs.any fun a => s.reg a != s.liveReg a)

/-- PROF[k] in force: the TRIANGLE profile or the user's (R323). -/
def Hw.prof (s : Hw) (k : Nat) : Nat :=
  if s.liveFlag ORY_SSC_CFG_PROF_SEL then (s.liveReg (ORY_SSC_PROFj (k / 4))).toNat / 2 ^ (8 * (k % 4)) % 256
  else (255 * (16 - (if k < 16 then 16 - k else k - 16)) * 2 + 16) / 32

/-- A microsecond in units of 2^-32 ns. -/
def usUnits : Nat := 1000 * 2 ^ 32

/-- The profile at `u` units of 2^-32 ns into a frame, over `usUnits`: linear between its points, one per microsecond, and from PROF[31]
back to PROF[0] (R323). -/
def Hw.profAt (s : Hw) (u : Nat) : Nat :=
  s.prof (u / usUnits % 32) * (usUnits - u % usUnits) + s.prof ((u / usUnits + 1) % 32) * (u % usUnits)

/-- The core clock's frequency at `u` units of 2^-32 ns into a frame, as a fraction of 1.024 GHz over 255 * 800 * `usUnits` (R323); 0
while its loop acquires and holds its output low (R320); without spread while the generator is off, or stopped since the loop's last
acquisition (R324). -/
def Hw.coreFreq (s : Hw) (u : Nat) : Nat :=
  if s.acquiring 0 then 0
  else if s.liveFlag ORY_SSC_CFG_SSC_EN && s.ory.sscRuns then 255 * 800 * usUnits - (s.liveGet ORY_SSC_CFG_DEPTH + 1) * s.profAt u
  else 255 * 800 * usUnits

/-- Units of 2^-32 ns since the frame in progress began. -/
def Hw.frameUnits (s : Hw) : Nat := let t := s.timeNow; t.2.1 % 32000 * 2 ^ 32 + t.2.2

/-! ### Clock outputs (R327, R442) -/

/-- A source's frequency in kHz; none for TICK and PPS. -/
def clkoutSrc : Nat → Option Nat
  | 0 => some 32000
  | 1 => some 256000
  | 2 => some 1024000
  | 3 => some 192000
  | 4 => some 125000
  | 5 => some 100000
  | _ => none

/-- The limit of a format in kHz (Table ORY-4), under the slew setting of bank 3 where the output is LVCMOS and enabled. -/
def clkoutLimit (fmt slew : Nat) (en : Bool) : Nat :=
  let f := if fmt < 2 then 400000 else if fmt = 2 then 200000 else 125000
  if fmt < 2 ∨ !en then f else if slew = 2 then min f 40000 else if slew = 3 then min f 12500 else f

/-- An output's word is outside its ranges. -/
def clkoutBad (t : Hw) (n : Nat) : Bool :=
  let src := t.get (ORY_CLKOUTn_SRC n)
  let lim := clkoutLimit (t.get (ORY_CLKOUTn_FMT n)) (t.get SYS_IOCFG_SLEW3) (t.flag (ORY_CLKOUTn_EN n))
  decide (7 < src) || t.get (ORY_CLKOUTn_LVL n) == 3 ||
    match clkoutSrc src with
    | some f => decide (lim * (t.get (ORY_CLKOUTn_DIV_M1 n) + 1) < f)
    | none => false

/-- FMT or LVL would change while EN = 1 (R328). -/
def clkoutHeld (s t : Hw) (n : Nat) : Bool :=
  s.flag (ORY_CLKOUTn_EN n) && ([ORY_CLKOUTn_FMT n, ORY_CLKOUTn_LVL n].any fun f => s.get f != t.get f)

/-- An output's word has been written, `t` being the state after it: a change of SRC or DIV_M1 while it drives waits. -/
def clkoutTake (n : Nat) (s t : Hw) : Hw :=
  let same := [ORY_CLKOUTn_SRC n, ORY_CLKOUTn_DIV_M1 n].all fun f => s.get f == t.get f
  if !s.flag (ORY_CLKOUTn_EN n) || !t.flag (ORY_CLKOUTn_EN n) then setOut n none t
  else if same then t
  else
    let (low, t) := clksLow (s.clkoutSetting n) (t.reg (ORY_CLKOUTn n)) t
    setOut n (some (s.clkoutSetting n, low)) t

/-- CLKOUTn drives (R327). -/
def Hw.clkoutDrives (s : Hw) (n : Nat) : Bool := !s.inReset && s.ops.cfgValid && s.flag (ORY_CLKOUTn_EN n)

/-- What a clock output shows: nothing, a level, or a clock of a source (Table ORY-4) divided by a number. -/
inductive ClkPad where
  | highZ
  | level (high : Bool)
  | clock (src divisor : Nat)
deriving DecidableEq, Repr

/-- CLKOUTn: held low while its source's loop acquires (R327, R328). -/
def Hw.clkoutPad (s : Hw) (n : Nat) : ClkPad :=
  let w := s.clkoutSetting n
  if !s.clkoutDrives n then .highZ
  else if s.clkoutStill w then .level false
  else if clkSrc w = 6 then .level (s.tickHigh (clkDiv w))
  else if clkSrc w = 7 then .level s.ppsHigh
  else .clock (clkSrc w) (clkDiv w + 1)

/-! ### Monitors (R325, Table ORY-3) -/

/-- The window of a domain's count. -/
def monWindow (s : Hw) (d : Nat) : Nat × Nat :=
  match d with
  | 0 => (2037, 2049)
  | 1 => (76, 84)
  | 2 => (256, 256)
  | 3 => (383, 385)
  | 4 => (383, 385)
  | 5 => (249, 251)
  | 6 => (499, 501)
  | 7 => if s.get (ORY_MDLLm_CFG_MULT 3) = 40 then (1279, 1281) else (1599, 1601)
  | 8 => (511, 513)
  | 9 => (76, 84)
  | _ => (31785, 33751)

/-- A domain's clock has left its window (R326). -/
def domainBad (d : Nat) (s : Hw) : Hw :=
  let s := (s.raiseBit ORY_MON_WIN_FAULT d).clockTol
  if d = 0 then coreLoss s
  else if d = 1 then tbLoss s
  else if d = 3 then laneClockStop s
  else if d = 7 then ddrClock false s
  else if d = 8 then { s with twin := { s.twin with watchdog := false } }
  else s

/-- One count of a window. A lane or DDR clock that had stopped with its loop locked and counts within its window again is back. -/
def monitorOne (c : Nat × Nat) (s : Hw) : Hw :=
  if 10 < c.1 then s
  else
    let (lo, hi) := monWindow s c.1
    if outside lo hi c.2 then domainBad c.1 s
    else if c.1 = 8 then { s with twin := { s.twin with watchdog := true } }
    else if c.1 = 3 ∧ s.mdllState 2 = mdLocked then laneClockBack s
    else if c.1 = 7 ∧ s.chr.ddrLost ∧ s.mdllState 3 = mdLocked then ddrClock true s
    else s

/-! ### Crossings (R329 to R332): the three methods, and what their failures report

What a crossing's cells hold in a cycle is no state of the model: commands carry the outcomes below (log entry 166). -/

/-- A double-sample crossing on its synchronised words, one a destination cycle: two consecutive samples that agree are accepted; a
disagreement costs one cycle, and with no retry left the last accepted value stays and the crossing is unstable (R329). No word is left
when the source keeps no value for long enough. -/
def doubleSample (last : Nat) : Nat → List Nat → Option (Nat × Bool)
  | retries, a :: b :: ws =>
    if a = b then some (a, false)
    else match retries with
      | 0 => some (last, true)
      | r + 1 => doubleSample last r (b :: ws)
  | _, _ => none

/-- The retries of a double-sample crossing. -/
def sampleRetries : Nat := 8

/-- A pulse handshake: a handshake in progress, pulses that wait for one (R330). -/
structure PulseSt where
  busy : Bool := false
  waiting : Nat := 0
deriving DecidableEq, Repr

/-- A source cycle of a pulse crossing in which the acknowledge arrives (`ack`): the handshake ends, and a waiting pulse begins the next. -/
def PulseSt.acked (p : PulseSt) (ack : Bool) : PulseSt :=
  if !ack then p else if p.waiting = 0 then { p with busy := false } else { p with waiting := p.waiting - 1 }

/-- A source cycle of a pulse crossing: the acknowledge counts before a pulse of the same cycle, which is thus never lost. The second
component says that the pulse was lost (PULSE_OVF). -/
def PulseSt.cycle (p : PulseSt) (pulse ack : Bool) : PulseSt × Bool :=
  let q := p.acked ack
  if !pulse then (q, false)
  else if !q.busy then ({ q with busy := true }, false)
  else if q.waiting < 15 then ({ q with waiting := q.waiting + 1 }, false)
  else (q, true)

/-- A word enters a dual-clock queue of `depth` words; a full one refuses it, which the second component says (CDC_UNSTABLE), and the
bundle of the word fails its check (R331). -/
def queuePut (depth : Nat) (q : List Nat) (w : Nat) : List Nat × Bool := if q.length < depth then (q ++ [w], false) else (q, true)

/-- An event of a crossing. -/
def cdcEvent (flag cnt : Fld) (xid : Nat) (s : Hw) : Hw :=
  let s := ((((s.raise flag).bump cnt).put CDC_STAT_DOMAIN (xid / 4096)).put CDC_STAT_XID xid).raise SYS_TISTAT_CDC_ERR
  { s with int := { s.int with tiFail := true } }

def cdcUnstable (xid : Nat) (s : Hw) : Hw := cdcEvent CDC_STAT_CDC_UNSTABLE CDC_CNT_UNSTABLE_CNT xid s
def cdcTimeout (xid : Nat) (s : Hw) : Hw := cdcEvent CDC_STAT_CDC_TIMEOUT CDC_CNT_TIMEOUT_CNT xid s
def cdcOverflow (xid : Nat) (s : Hw) : Hw := cdcEvent CDC_STAT_PULSE_OVF CDC_CNT_OVF_CNT xid s

/-! ### Register writes -/

/-- A cleared flag clears its counter. -/
def clears (w : Wr) (flag cnt : Fld) (t : Hw) : Hw := if w.was flag = 1 ∧ w.val flag = 0 then t.put cnt 0 else t

/-- Writes in the Orrery window. -/
def oryWrite (s : Hw) (w : Wr) : Judged :=
  let t := s.writeAs w
  if w.addr < ORY_MDLLm_CFG 0 then .ok t
  else if w.addr < ORY_SSC_CFG then
    let m := (w.addr - ORY_MDLLm_CFG 0) / 0x10
    if w.addr = ORY_MDLLm_CFG m then
      if mdllRangeBad s m w.new.toNat then .error .range
      else match mdllBars s m with
        | some st => .error st
        | none => if w.mask = 0 then .ok s else .ok (mdllSet m w.new.toNat s)
    else .ok t
  else if w.addr = ORY_SSC_CFG then .ok (if w.mask = 0 then t else sscWritten false t)
  else if w.addr < ORY_CLKOUTn 0 then .ok (if w.mask = 0 then t else sscWritten (w.addr == ORY_SSC_PROFj 7) t)
  else if w.addr < ORY_MON then
    let n := (w.addr - ORY_CLKOUTn 0) / 4
    judge [(clkoutBad t n, .range), (clkoutHeld s t n, .conditionUnmet)] (clkoutTake n s t)
  else .ok t

/-- Writes in the crossing window. -/
def cdcWrite (s : Hw) (w : Wr) : Judged :=
  .ok (clears w CDC_STAT_CDC_UNSTABLE CDC_CNT_UNSTABLE_CNT (clears w CDC_STAT_CDC_TIMEOUT CDC_CNT_TIMEOUT_CNT
    (clears w CDC_STAT_PULSE_OVF CDC_CNT_OVF_CNT (s.writeAs w))))

/-! ### Commands (Table ORY-6) -/

/-- 0x0A20 ORY_STATUS_GET. -/
def execOryStatusGet (h : Hdr) (s : State) : Host.Outcome State Fault Refusal :=
  .next (s.onHw (hostCmd (Op.plain 0x0A20 .viewer) (.oryStatusGet h) h fun s =>
    answer s (regBytes s ([ORY_REFCFG] ++ (List.range 4).flatMap (fun m => [ORY_MDLLm_CFG m, ORY_MDLLm_STAT m]) ++ [ORY_SSC_CFG] ++
      (List.range 4).map ORY_CLKOUTn ++ [ORY_MON]))))

/-- 0x0A21 ORY_MDLL_SET (R321). -/
def execOryMdllSet (h : Hdr) (mdll cfg : Nat) (s : State) : Host.Outcome State Fault Refusal :=
  .next (s.onHw (hostCmd (Op.plain 0x0A21 .engineer) (.oryMdllSet h mdll cfg) h fun s =>
    checked s [(mdll == 3 && !s.cfgMode, .modeNotAllowed), (mdllRangeBad s mdll cfg, .range), ((mdllBars s mdll).isSome, .conditionUnmet)]
      (let t := mdllSet mdll cfg s
       { hw := t, status := if s.mdllBusy mdll then .enableDeferred else .ok,
         log := if s.mdllBusy mdll then cmdChg 0x0A21 (s.reg (ORY_MDLLm_CFG mdll)).toNat cfg else regChgs s t [ORY_MDLLm_CFG mdll] })))

/-- 0x0A22 ORY_SSC_SET (R324). -/
def execOrySscSet (h : Hdr) (cfg : Nat) (profile : Option (List Nat)) (dutyTrim : Nat) (s : State) : Host.Outcome State Fault Refusal :=
  .next (s.onHw (hostCmd (Op.plain 0x0A22 .engineer) (.orySscSet h cfg profile dutyTrim) h fun s =>
    let t := (s.setWord ORY_SSC_CFG cfg).put ORY_REFCFG_DUTY_TRIM dutyTrim
    let t := match profile with
      | some ws => (profRegs.zip ws).foldl (fun t p => t.setWord p.1 p.2) t
      | none => t
    change (sscWritten profile.isSome t) (regChgs s t ([ORY_SSC_CFG] ++ profRegs ++ [ORY_REFCFG]))))

/-- 0x0A23 ORY_CLKOUT_SET (R327, R328). -/
def execOryClkoutSet (h : Hdr) (out cfg : Nat) (s : State) : Host.Outcome State Fault Refusal :=
  .next (s.onHw (hostCmd (Op.plain 0x0A23 .engineer) (.oryClkoutSet h out cfg) h fun s =>
    let t := s.setWord (ORY_CLKOUTn out) cfg
    checked s [(decide (3 < out) || clkoutBad t out, .range), (clkoutHeld s t out, .conditionUnmet)]
      (change (clkoutTake out s t) (regChgs s t [ORY_CLKOUTn out]))))

/-- 0x0A24 CDC_STATUS_GET. -/
def execCdcStatusGet (h : Hdr) (s : State) : Host.Outcome State Fault Refusal :=
  .next (s.onHw (hostCmd (Op.plain 0x0A24 .viewer) (.cdcStatusGet h) h fun s => answer s (regBytes s [CDC_STAT, CDC_CNT])))

/-- 0x0806 LEG_CLEAR_CLK: only while the timebase runs within tolerance (R264). -/
def execLegClearClk (h : Hdr) (s : State) : Host.Outcome State Fault Refusal :=
  .next (s.onHw (hostCmd (Op.plain 0x0806 .engineer) (.legClearClk h) h fun s =>
    checked s [(s.time.clockLost || s.mdllState 1 != mdLocked, .conditionUnmet)]
      (let legs := maskOf ((List.range numLegs).filter fun n => s.flag (LEGn_STAT_CLK_LOSS n))
       change (s.each (List.range numLegs) fun n s => legFree n (s.put (LEGn_STAT_CLK_LOSS n) 0)) (cmdChg 0x0806 legs 0))))

/-! ### Events -/

/-- TB_CLOCK_LOSS. -/
def execTbClockLoss (s : State) : Host.Outcome State Fault Refusal := .next (s.onHw (onRun tbLoss))

/-- TB_CLOCK_RETURN. -/
def execTbClockReturn (s : State) : Host.Outcome State Fault Refusal := .next (s.onHw (onRun tbReturn))

/-- CORE_CLOCK_LOSS. -/
def execCoreClockLoss (s : State) : Host.Outcome State Fault Refusal := .next (s.onHw (onRun coreLoss))

/-- LANE_CLOCK_LOSS. -/
def execLaneClockLoss (s : State) : Host.Outcome State Fault Refusal := .next (s.onHw (onRun laneClockStop))

/-- DDR_CLOCK_LOSS. -/
def execDdrClockLoss (s : State) : Host.Outcome State Fault Refusal := .next (s.onHw (onRun (ddrClock false)))

/-- MONITOR_WINDOW: the counts of the window that has ended, by domain id. -/
def execMonitorWindow (counts : List (Nat × Nat)) (s : State) : Host.Outcome State Fault Refusal :=
  .next (s.onHw (onRun fun s => counts.foldl (fun s c => monitorOne c s) s))

/-- MDLL_LOCK_LOST. -/
def execMdllLockLost (mdll : Nat) (s : State) : Host.Outcome State Fault Refusal :=
  .next (s.onHw (onRun fun s => if mdll < 4 then lockLost mdll s else s))

/-- MDLL_LOCKED. -/
def execMdllLocked (mdll band : Nat) (s : State) : Host.Outcome State Fault Refusal :=
  .next (s.onRefresh (onRun fun s => if mdll < 4 then locked mdll band s else s))

/-- CDC_TIMEOUT. -/
def execCdcTimeout (xid : Nat) (s : State) : Host.Outcome State Fault Refusal := .next (s.onHw (onRun (cdcTimeout xid)))

/-- A debug halt is in progress. -/
def Hw.haltNow (s : Hw) : Bool := s.lst.halt.isSome || (List.range 24).any fun n => s.flag (LEn_STAT_HALTED n)

/-- The tick in progress meets every condition of Table TCK-6 so far. -/
def Hw.tiSoFar (s : Hw) : Bool := !s.int.tiFail && !s.haltNow && (s.int.begun || s.modeIn [mBlocked, mEnergize, mForm, mRide])

/-- HALT_SEEN, by which the tick is not intact. -/
def haltSeen (s : Hw) : Hw := ({ s with int := { s.int with tiFail := true } } : Hw).raise SYS_TISTAT_HALT_SEEN

/-- DEBUG_HALT of an engine (0 to 23) or of the Local Stage (24). -/
def execDebugHalt (blk : Nat) (s : State) : Host.Outcome State Fault Refusal :=
  .next (s.onHw (onRun fun s =>
    if !s.cfgMode || decide (24 < blk) then s
    else if blk < 24 then (haltSeen s).raise (LEn_STAT_HALTED blk)
    else if s.lst.halt.isSome then s
    else lstHalt (haltSeen s)))

/-- DEBUG_HALT_END. -/
def execDebugHaltEnd (blk : Nat) (s : State) : Host.Outcome State Fault Refusal :=
  .next (s.onHw (onRun fun s =>
    if blk < 24 then s.put (LEn_STAT_HALTED blk) 0
    else if blk = 24 ∧ s.lst.halt.isSome then lstHaltEnd s
    else s))

end Sys2Proof.Machine
end

