-- ==== Sys2Proof/Machine/Chrono.lean ====
section
/-! DEFINITION. The Chronograph: trigger units, records, segments and their images in memory (R335 to R347, R351, R356). -/

namespace Sys2Proof.Machine

def Hw.onChr (s : Hw) (f : ChrSt → ChrSt) : Hw := { s with chr := f s.chr }
def Hw.unitOf (s : Hw) (u : Nat) : TrgUnit := smapGet {} s.chr.units u
def Hw.onUnit (s : Hw) (u : Nat) (f : TrgUnit → TrgUnit) : Hw := s.onChr fun c => { c with units := smapSet {} c.units u (f (s.unitOf u)) }
def Hw.recOf (s : Hw) (k : Nat) : RecSt := smapGet {} s.chr.recs k
def Hw.onRec (s : Hw) (k : Nat) (f : RecSt → RecSt) : Hw := s.onChr fun c => { c with recs := smapSet {} c.recs k (f (s.recOf k)) }

/-- An access to capture memory. -/
def Hw.capOp (s : Hw) (o : CapOp) : Hw := s.onChr fun c => { c with acc := c.acc ++ [o] }

/-- Record states (Table CHR-11). -/
def rcIdle : Nat := 0
def rcArmed : Nat := 1
def rcTriggered : Nat := 2
def rcClosing : Nat := 3
def rcDone : Nat := 4

def Hw.recState (s : Hw) (k : Nat) : Nat := s.get (CHR_RECk_STAT_STATE k)
def Hw.setRec (s : Hw) (k st : Nat) : Hw := s.put (CHR_RECk_STAT_STATE k) st

/-- A record is armed, its segment open or closing, or to be armed at the next strobe. -/
def Hw.recBusy (s : Hw) (k : Nat) : Bool := [rcArmed, rcTriggered, rcClosing].contains (s.recState k) || (s.recOf k).due

/-! ### Memory images (R338, R342) -/

/-- Bytes of an instant (Table CHR-1). -/
def instBytes (kind mask : Nat) : Nat :=
  if kind = 4 then 2312 * (bitsOf 6 mask).length else 2 * (bitsOf 32 mask).length

def Hw.recBytes (s : Hw) (k : Nat) : Nat := instBytes (s.get (CHR_RECk_CFG_KIND k)) (s.get (CHR_RECk_SRC_MASK k))
def Hw.recPre (s : Hw) (k : Nat) : Nat := s.get (CHR_RECk_LEN_PRE k)
def Hw.recPost (s : Hw) (k : Nat) : Nat := s.get (CHR_RECk_LEN_POST_M1 k) + 1

/-- SEGB. -/
def Hw.segBytes (s : Hw) (k : Nat) : Nat := (64 + (s.recPre k + s.recPost k) * s.recBytes k + 63) / 64 * 64

/-- SEGB of every configured record follows from its words. -/
def segbAll (s : Hw) : Hw :=
  s.each ((List.range 4).filter fun k => s.get (CHR_RECk_NSEG_NSEG k) != 0) fun k s => s.put (CHR_RECk_SEGB_SEGB k) (s.segBytes k)

/-- The record's memory is the DDR. -/
def Hw.recDdr (s : Hw) (k : Nat) : Bool := s.flag (CHR_RECk_CFG_DEST k)

/-- First byte of a record's slots, and the byte after the last, as offsets in their memory. -/
def Hw.recFirst (s : Hw) (k : Nat) : Nat := s.get (CHR_RECk_BASE_BASE k) * 64
def Hw.recEnd (s : Hw) (k : Nat) : Nat := s.recFirst k + s.get (CHR_RECk_NSEG_NSEG k) * s.segBytes k

/-- Capture-memory address of the slot to be filled next. -/
def Hw.slotAddr (s : Hw) (k : Nat) : Nat :=
  let o := s.recFirst k + (s.recOf k).slot * s.segBytes k
  if s.recDdr k then captureDdr o else captureSram o

/-- CRC-32 of IEEE 802.3 in its reflected byte form (R341). -/
def crc32Bit : Nat → Nat → Nat
  | 0, c => c
  | n + 1, c => crc32Bit n (if c % 2 = 1 then c / 2 ^^^ 0xEDB88320 else c / 2)
def crc32Bytes (bs : List Byte) : Nat := (bs.foldl (fun c b => crc32Bit 8 (c ^^^ b.toNat)) 0xFFFFFFFF) ^^^ 0xFFFFFFFF

/-! ### Instants (R335) -/

/-- A slot word of an arm set, and the bytes of an arm. -/
def uplSlot (s : Hw) (a j : Nat) : List Byte :=
  if s.get (VSQ_SLOTa_j_TYPE a j) = 0 then leBytes 3 0
  else
    let r := smapGet 0 (s.armOf a).set j
    leBytes 3 (repVcap r * 256 + repFcode r * 16 + r / 2 ^ 16 % 4 * 4 + r / 2 ^ 12 % 2 * 2 + r / 2 ^ 15 % 2)
def uplArm (s : Hw) (a : Nat) : List Byte :=
  let x := s.armOf a
  leBytes 4 x.ofTick ++ leBytes 1 x.age ++ leBytes 1 (s.get (VSQ_ARMa_FLAGS_STALE a)) ++ leBytes 2 0 ++
    (List.range 768).flatMap (uplSlot s a)

/-- The sample of a channel or entry that a path delivers: 0 RAW, 1 REC, 2 CTL, 3 LEV. -/
def chrSample (s : Hw) (path n : Nat) : Samp :=
  if path = 0 then smapGet noSamp s.fch.out n
  else if path = 1 then smapGet noSamp s.sieve.recOut n
  else if path = 2 then smapGet noSamp s.sieve.ctl n
  else ⟨s.chr.lev.getD n 0, false⟩

/-- It is saturated (R45, R74). -/
def chrSat (s : Hw) (path n : Nat) : Bool :=
  if path = 0 then bitOf s.fch.outSat n
  else if path = 1 then bitOf s.sieve.recSat n
  else if path = 2 then bitOf s.sieve.ctlSat n
  else false

/-- DDR-bound instants are being dropped (R345, R346). -/
def Hw.dropsDdr (s : Hw) : Bool := s.chr.dropping || s.chr.ddrLost

/-- The instant that a record takes at time `t`; of a dropped one nothing is known. -/
def mkInst (k t : Nat) (s : Hw) : Inst × Hw :=
  let kind := s.get (CHR_RECk_CFG_KIND k)
  let ns := bitsOf 32 (s.get (CHR_RECk_SRC_MASK k))
  if s.recDdr k && s.dropsDdr then
    let (ws, s) := s.freshList ((s.recBytes k + 3) / 4)
    (⟨t, s.ticks, 4, (ws.flatMap fun w => leBytes 4 w.toNat).take (s.recBytes k)⟩, s)
  else if kind = 4 then (⟨t, s.ticks, if s.vsq.subSet &&& (s.get (CHR_RECk_SRC_MASK k)) % 64 = 0 then 0 else 1, ((ns.filter fun a => decide (a < 6)).flatMap (uplArm s))⟩, s)
  else
    let sub := ns.any fun n => (chrSample s kind n).sub
    let sat := ns.any fun n => chrSat s kind n
    (⟨t, s.ticks, (if sub then 1 else 0) + (if sat then 2 else 0), ns.flatMap fun n => leBytes 2 (unsigned 16 (chrSample s kind n).val)⟩, s)

/-! ### Writing a segment (R338, R341, R345) -/

/-- An instant goes into the pre-trigger ring. -/
def ringWrite (k : Nat) (i : Inst) (s : Hw) : Hw :=
  let pre := s.recPre k
  if pre = 0 then s
  else
    let r := s.recOf k
    let s := s.capOp (.put (s.slotAddr k + 64 + r.count % pre * s.recBytes k) i.bytes)
    s.onRec k fun r => { r with count := r.count + 1, ring := ((i.marks, i.tick) :: r.ring).take pre }

/-- A segment loses an instant. -/
def segDrop (k : Nat) (at_ : Int) (g : Seg) (s : Hw) : Seg × Hw :=
  let s := if g.gaps = 0 then ((s.raise CHR_STAT_BUF_OVF).bump CHR_TRUNC_TRUNC_CNT).raise (CHR_RECk_STAT_TRUNC_SEEN k) else s
  ({ g with gapFirst := some (g.gapFirst.getD at_), gaps := g.gaps + 1 }, s)

/-- An instant follows T in the open segment; `old` says that it was in hand when the segment opened. -/
def postWrite (k : Nat) (old : Bool) (i : Inst) (s : Hw) : Hw :=
  match (s.recOf k).seg with
  | none => s
  | some g =>
    if s.recPost k ≤ g.post then s
    else
      let s := s.capOp (.put (s.slotAddr k + 64 + (s.recPre k + g.post) * s.recBytes k) i.bytes)
      let (g, s) := if bitOf i.marks 2 && !old then segDrop k g.post g s else (g, s)
      let g := { g with post := g.post + 1, marks := g.marks ||| i.marks, early := if bitOf i.marks 2 && old then g.early + 1 else g.early }
      let s := s.onRec k fun r => { r with seg := some g }
      if g.post = s.recPost k then s.setRec k rcClosing else s

/-- The tick number of an instant. -/
def tickAt (t : Nat) : Nat := tickNumber (t / 4 / nsPerSec) (t / 4 % nsPerSec)

/-- A trigger of instant `t` opens a segment of an armed record: the instants in hand before T go to the ring, the others follow T. -/
def openSegment (k t units flags : Nat) (s : Hw) : Hw :=
  let hand := (s.recOf k).hand
  let before := (hand.takeWhile fun i => decide (i.time ≤ t)).length - 1
  let s := (hand.take before).foldl (fun s i => ringWrite k i s) s
  let r := s.recOf k
  let first := match r.ring.getLast?, (hand.drop before).head? with
    | some p, _ => p.2
    | none, some i => i.tick
    | none, none => s.ticks
  let g : Seg := ⟨t, tickAt t, units, flags, 0, r.ring.foldl (fun m p => m ||| p.1) 0, first, none, 0, 0⟩
  let s := (s.setRec k rcTriggered).onRec k fun r => { r with hand := [], seg := some g }
  (hand.drop before).foldl (fun s i => postWrite k true i s) s

/-- An instant reaches a record: into hand while it is armed, after T while its segment is open. -/
def recTake (k t : Nat) (s : Hw) : Hw :=
  let st := s.recState k
  if st = rcTriggered then
    let (i, s) := mkInst k t s
    postWrite k false i s
  else if st = rcArmed ∧ (s.recOf k).from_ ≤ t then
    let (i, s) := mkInst k t s
    let keep := [32, 8, 2, 2, 2].getD (s.get (CHR_RECk_CFG_KIND k)) 2
    let hand := (s.recOf k).hand ++ [i]
    let out := hand.take (hand.length - (keep + 1))
    out.foldl (fun s i => ringWrite k i s) (s.onRec k fun r => { r with hand := hand.drop (hand.length - (keep + 1)) })
  else s

/-- TI of a segment: every tick since its first, the one in progress included, had TI_NOW (R24). -/
def segTi (s : Hw) (g : Seg) : Bool :=
  s.tiSoFar && (match s.chr.tiBad with | some t => decide (t < g.first) | none => true)

/-- The valid instants of a pre-trigger ring and the ring index of the oldest of them: dropped ones do not count. -/
def ringValid (pre : Nat) (r : RecSt) : Nat × Nat :=
  let gone := fun (p : Nat × Nat) => bitOf p.1 2
  let valid := (r.ring.filter fun p => !gone p).length
  let lead := (r.ring.reverse.takeWhile gone).length
  (valid, if pre = 0 ∨ valid = 0 then 0 else ((if r.count < pre then 0 else r.count) + lead) % pre)

/-- The header of a segment (Table CHR-3); `extra` holds STEP and STOPPED. -/
def segHeader (s : Hw) (k extra : Nat) (g : Seg) : List Byte :=
  let r := s.recOf k
  let pre := s.recPre k
  let (valid, pos) := ringValid pre r
  let flags := (if g.gaps = 0 then 0 else 1) + (if segTi s g then 2 else 0) + (if bitOf g.marks 0 then 8 else 0) +
    (if bitOf g.marks 1 then 128 else 0) + g.flags + extra
  let body := leBytes 1 k ++ leBytes 1 (s.get (CHR_RECk_CFG_KIND k)) ++ leBytes 1 flags ++ leBytes 1 0 ++ leBytes 4 r.segno ++
    leBytes 6 (g.time / 4 / nsPerSec) ++ leBytes 2 0 ++ leBytes 4 (g.time % (4 * nsPerSec)) ++ leBytes 4 g.tick ++ leBytes 2 g.units ++
    leBytes 2 valid ++ leBytes 2 pos ++ leBytes 2 0 ++
    leBytes 4 (g.post - g.gaps - g.early) ++ leBytes 4 (s.recBytes k) ++ leBytes 4 (s.get (CHR_RECk_SRC_MASK k)) ++
    leBytes 4 (unsigned 32 (g.gapFirst.getD 0)) ++ leBytes 4 g.gaps ++ leBytes 8 0
  body ++ leBytes 4 (crc32Bytes body)

/-- The run of a record is complete (R340). -/
def Hw.runComplete (s : Hw) (k : Nat) : Bool :=
  !s.flag (CHR_RECk_CFG_RING k) && decide (s.get (CHR_RECk_NSEG_NSEG k) ≤ s.get (CHR_RECk_STAT_SEG_DONE k))

/-- A segment closes: its header is written, and the next slot comes up. -/
def segClose (k extra : Nat) (s : Hw) : Hw :=
  match (s.recOf k).seg with
  | none => s
  | some g =>
    let s := s.capOp (.put (s.slotAddr k) (segHeader s k extra g))
    let n := s.get (CHR_RECk_NSEG_NSEG k)
    let s := s.put (CHR_RECk_STAT_SEG_DONE k) (min 65536 (s.get (CHR_RECk_STAT_SEG_DONE k) + 1))
    s.onRec k fun r =>
      { r with seg := none, hand := [], ring := [], count := 0, segno := (r.segno + 1) % 2 ^ 32,
               slot := if s.flag (CHR_RECk_CFG_RING k) then (r.slot + 1) % n else r.slot + 1 }

/-- What a record is after its segment has closed: it waits to be armed again, or its run, or its turn, is over. -/
def recAfter (k : Nat) (s : Hw) : Hw :=
  if s.flag (CHR_RECk_CFG_AUTO_REARM k) && !s.runComplete k then s.setRec k rcClosing else s.setRec k rcDone

/-- A record is armed with an empty ring; instants and triggers count from `t` on. One that arms itself `again` goes on with the condition
that it had. -/
def recArm (k t : Nat) (again : Bool) (s : Hw) : Hw :=
  (s.setRec k rcArmed).onRec k fun r =>
    { r with due := false, from_ := t, again := again, hand := [], ring := [], count := 0, seg := none, cond := again && r.cond }

/-- A command arms a record from the next strobe; a run starts where none is going on (R339, R340). -/
def recArmCmd (k : Nat) (s : Hw) : Hw :=
  let s := segClose k 0 s
  let fresh := s.recState k = rcIdle ∨ s.runComplete k
  let s := if fresh then (s.put (CHR_RECk_STAT_SEG_DONE k) 0).onRec k fun r => { r with slot := 0, segno := 0 } else s
  s.onRec k fun r => { r with due := true }

/-! ### Trigger units (R336) -/

/-- The unit's registers. -/
def uType (s : Hw) (u : Nat) : Nat := s.get (CHR_TRGu_CFG_TYPE u)
def uPol (s : Hw) (u : Nat) : Nat := s.get (CHR_TRGu_CFG_POL u)
def uArg (s : Hw) (u : Nat) : Nat := s.get (CHR_TRGu_CFG_ARG u)
def uSel (s : Hw) (u : Nat) : Nat := s.get (CHR_TRGu_CFG_SEL u)

/-- A unit of a sampled type takes a new sample: whether it is true now. -/
def unitSample (u : Nat) (x : Int) (s : Hw) : Bool × Hw :=
  let hi := s.geti (CHR_TRGu_THR_HI u)
  let lo := s.geti (CHR_TRGu_THR_LO u)
  let pol := uPol s u
  let st := s.unitOf u
  match uType s u with
  | 1 => (if pol = 0 then decide (hi ≤ x) else decide (x ≤ lo), s)
  | 2 =>
    let up := st.low && decide (hi ≤ x)
    let down := st.high && decide (x ≤ lo)
    let fire := (up && (pol == 0 || pol == 2)) || (down && (pol == 1 || pol == 2))
    (fire, s.onUnit u fun t => { t with low := decide (x ≤ lo) || (t.low && !decide (hi ≤ x)), high := decide (hi ≤ x) || (t.high && !decide (x ≤ lo)) })
  | 3 =>
    let inside := decide (lo ≤ x) && decide (x ≤ hi)
    (if pol = 0 then inside else !inside, s)
  | 4 =>
    let d := uArg s u
    let xs := (x :: st.xs).take (d + 1)
    (match xs[d]? with | some y => decide (hi ≤ ((x - y).natAbs : Int)) | none => false, s.onUnit u fun t => { t with xs := xs })
  | _ => (false, s)

/-- A unit's filter has accepted an edge: after ARG[6:0] * 4 cycles in which no opposite edge has come. -/
def pinAccepted (s : Hw) (u : Nat) (e : PinEdge) : Bool :=
  let due := e.cycle + 4 * (uArg s u % 128)
  e.pin == uSel s u % 4 && !bitOf e.done u && decide (due ≤ s.cycles) &&
    !s.trg.pins.any fun o => o.pin == e.pin && o.rising != e.rising && decide (e.cycle ≤ o.cycle) && decide (o.cycle < due)

/-- What remains of the events after an evaluation: edges that a longer filter may still accept. -/
def trgLeft (s : Hw) : TrgIn :=
  let pinUnits := (List.range 16).filter fun u => uType s u == 8
  { pins := (s.trg.pins.map fun e => { e with done := (pinUnits.filter fun u => pinAccepted s u e).foldl bitSet e.done }).filter fun e =>
      decide (s.cycles < e.cycle + 256) }

/-- The instant of the event that makes a unit of an event type true, if one has come. -/
def unitEvent (s : Hw) (u : Nat) : Option Nat :=
  let arg := uArg s u
  match uType s u with
  | 5 =>
    let d := uSel s u
    if s.get (CHR_TRGu_THR_HI u) ≤ s.get (SVn_TDm_MAG2_MAG2 (d / 16) (d % 16)) / 65536 then (s.trg.tones.find? fun p => p.1 == d).map (·.2) else none
  | 6 => match s.trg.mode with | some (m, t) => if bitOf (arg % 256) m then some t else none | none => none
  | 7 => (s.trg.codes.find? fun p => bitOf arg p.1).map (·.2)
  | 8 =>
    (s.trg.pins.find? fun e => pinAccepted s u e && (if uPol s u = 0 then e.rising else if uPol s u = 1 then !e.rising else true)).map (·.at_)
  | 9 => (s.trg.ev.find? fun p => bitOf arg p.1).map (·.2)
  | 10 =>
    let used := (bitsOf 4 s.trg.soft).any fun k => bitOf (s.get (CHR_RECk_TRG_TRG_OR k) ||| s.get (CHR_RECk_TRG_TRG_AND k)) u
    if used then some s.trg.softAt else none
  | _ => none

/-- A unit evaluated at a strobe with the paths in `news`. -/
def unitEval (news : List (Nat × Nat)) (u : Nat) (s : Hw) : Hw :=
  let ty := uType s u
  let was := s.flag (CHR_TRGu_STAT_STATE u)
  let state := ty == 1 || ty == 3 || ty == 4
  let fresh := if 1 ≤ ty ∧ ty ≤ 4 then news.find? fun p => p.1 == s.get (CHR_TRGu_CFG_PATH u) else none
  let (on, at_, s) : Bool × Nat × Hw := match fresh with
    | some (path, t) => let (b, s) := unitSample u (chrSample s path (uSel s u)).val s; (b, t, s)
    | none => match unitEvent s u with
      | some t => (true, t, s)
      | none => (state && was, (s.unitOf u).since, s)
  let s := s.putb (CHR_TRGu_STAT_STATE u) on
  if on && !(state && was) then ((s.raise (CHR_TRGu_STAT_FIRED u)).bump (CHR_TRGu_STAT_FIRE_CNT u)).onUnit u fun t => { t with since := at_ }
  else s

/-! ### Triggering (R337, R339, R351) -/

/-- A unit's truth counts for a record armed from instant `from_` on: that of an event only if the event came no earlier (R356). -/
def unitCounts (from_ u : Nat) (s : Hw) : Bool :=
  s.flag (CHR_TRGu_STAT_STATE u) && ([1, 3, 4].contains (uType s u) || decide (from_ ≤ (s.unitOf u).since))

/-- A record's condition after the units have been evaluated, for a record armed from `from_` on: the instant of the arrival that made it
true. -/
def recCond (k from_ : Nat) (s : Hw) : Option Nat :=
  let on := fun u => unitCounts from_ u s
  let ors := (bitsOf 16 (s.get (CHR_RECk_TRG_TRG_OR k))).filter on
  let ands := bitsOf 16 (s.get (CHR_RECk_TRG_TRG_AND k))
  let forced := decide (s.get (CHR_RECk_TRG_TRG_OR k) = 0) && bitOf s.trg.soft k
  if (ors.isEmpty && !forced) || !ands.all on then none
  else
    let since := fun u => (s.unitOf u).since
    let first := match (ors.map since).min? with | some t => t | none => s.trg.softAt
    some ((ands.map since).foldl max first)

/-- The units true in an evaluation. -/
def unitsTrue (s : Hw) : Nat := maskOf ((List.range 16).filter fun u => s.flag (CHR_TRGu_STAT_STATE u))

/-- The trigger of an armed record at an evaluation: one whose instant lies before the record armed itself again does not count (R339);
at the arm of a command, a state that already holds counts from the arm on. -/
def recTrigger (k : Nat) (s : Hw) : Option Nat :=
  let r := s.recOf k
  match recCond k r.from_ s with
  | none => none
  | some t => if r.again && decide (t < r.from_) then none else some (max t r.from_)

/-- A record judged at an evaluation. -/
def recJudge (k : Nat) (s : Hw) : Hw :=
  let c := recCond k 0 s
  let r := s.recOf k
  let st := s.recState k
  let s := match (if st = rcArmed then recTrigger k s else none) with
    | some t =>
        let used := s.get (CHR_RECk_TRG_TRG_OR k) ||| s.get (CHR_RECk_TRG_TRG_AND k)
        let soft := bitOf s.trg.soft k && (s.get (CHR_RECk_TRG_TRG_OR k) == 0 ||
          (bitsOf 16 used).any fun u => uType s u == 10 && s.flag (CHR_TRGu_STAT_STATE u))
        openSegment k t (unitsTrue s) (if soft then 32 else 0) s
    | none =>
      if c.isSome ∧ ([rcTriggered, rcClosing].contains st ∨ (st = rcArmed ∧ r.again)) ∧ s.flag (CHR_RECk_CFG_AUTO_REARM k) ∧ !r.cond then
        (s.raise (CHR_RECk_STAT_MISSED_TRIG k)).bump (CHR_RECk_MISS_MISS_CNT k)
      else s
  s.onRec k fun r => { r with cond := c.isSome }

/-- SYNC_LINE_FALL: each record that follows the line and has not triggered triggers. -/
def syncFall (cyc : Nat) (s : Hw) : Hw :=
  let s := s.put CHR_STAT_SYNC_LINE 0
  if s.get CHR_CTRL_SYNC_ROLE = 0 then s
  else
    let (sec, ns, frac) := s.timeAt cyc
    let t := (((sec * nsPerSec + ns) * 2 ^ 32 + frac) - s.get CHR_CTRL_SYNC_LAT * s.inc) / 2 ^ 30
    let s := s.onChr fun c => { c with syncArm := false }
    s.each ((List.range 4).filter fun k => s.flag (CHR_RECk_CFG_SYNC_EN k) && s.recState k == rcArmed) fun k s => openSegment k t (unitsTrue s) 16 s

/-- The level that this part drives on CHRONO_SYNC: true low, false released (R351, R439). -/
def Hw.syncPulls (s : Hw) : Bool := !s.inReset && s.ops.cfgValid && s.get CHR_CTRL_SYNC_ROLE != 0 && !s.syncReady

/-! ### Deferred arms (R339, R40) -/

/-- PEND of records, SYS_PEND and its record. -/
def chrPend (s : Hw) : Hw := s.setPend 3 (
  let m := maskOf ((List.range 4).filter fun k => s.flag (CHR_RECk_STAT_PEND k))
  if m = 0 then none else some ⟨0x0B03, m, [], match s.pendOf 3 with | some p => p.tick | none => s.nextTick⟩)

/-- Rates of the DDR-bound records among `ks`, in bytes per second (R344). -/
def Hw.ddrRate (s : Hw) (ks : List Nat) : Nat :=
  ((ks.filter s.recDdr).map fun k => s.recBytes k * [8000000, 2000000, 500000, 500000, 500000].getD (s.get (CHR_RECk_CFG_KIND k)) 0).sum

/-- What bars arming the records `ks`. -/
def armBars (s : Hw) (ks : List Nat) : List (Bool × Status) :=
  let limit := if s.get (ORY_MDLLm_CFG_MULT 3) = 40 then 7200000000 else 9000000000
  let all := (List.range 4).filter fun k => ks.contains k || s.recBusy k
  [(decide (limit < s.ddrRate all), .bwLimit), ((ks.any s.recDdr) && !s.flag CHR_STAT_DDR_OK, .ddrDown)]

/-- REST_TIME_END of class CHRONO: arms whose segment has closed are judged again and executed, or dropped. -/
def chrRestEnd (s : Hw) : Hw :=
  let ks := (List.range 4).filter fun k => s.flag (CHR_RECk_STAT_PEND k) && (s.recOf k).seg.isNone && s.fallsDue (s.recOf k).rest
  chrPend (s.each ks fun k s =>
    let s := (s.toCycle (s.recOf k).rest).put (CHR_RECk_STAT_PEND k) 0
    if [rcArmed, rcTriggered].contains (s.recState k) then s
    else match firstFail (armBars s [k]) with
      | some _ => (s.raiseBit SYS_PEND_DROPPED 3).logInternal (0xF1000000 + 0x0B03) (2 ^ k) 0
      | none => recArmCmd k s)

/-- ENABLE_CANCEL of class CHRONO. -/
def chrCancel (s : Hw) : Hw := chrPend (s.each (List.range 4) fun k s => s.put (CHR_RECk_STAT_PEND k) 0)

/-- SEGMENT_CLOSE of a record whose last POST instant is stored. -/
def segmentClose (k : Nat) (s : Hw) : Hw :=
  if s.recState k = rcClosing ∧ (s.recOf k).seg.isSome then
    (recAfter k (segClose k 0 s)).onRec k fun r => { r with rest := s.cycles + 128 }
  else s

/-- AUTO_REARM. -/
def autoRearm (k : Nat) (s : Hw) : Hw :=
  if s.recState k = rcClosing ∧ (s.recOf k).seg.isNone then recArm k s.nowQ true s else s

/-- CHR_STOP of a record (R340). -/
def recStop (k : Nat) (s : Hw) : Hw :=
  ((segClose k 64 s).setRec k rcIdle).onRec k fun r => { r with due := false, hand := [], ring := [], count := 0 }

/-! ### Loss of memory, steps (R345, R346, R356) -/

/-- BUFFER_OVERFLOW and BUFFER_DRAINED. -/
def bufferFull (s : Hw) : Hw := (s.onChr fun c => { c with dropping := true }).put CHR_STAT_BUF_FILL 4032
def bufferDrained (s : Hw) : Hw := (s.onChr fun c => { c with dropping := false }).put CHR_STAT_BUF_FILL 2048

/-- A step of Almanac time: open segments close; no instants exist until the new tick; statistics start again. -/
def chrStep (s : Hw) : Hw :=
  let s := s.onChr fun c => { c with news := [], lev := [] }
  let s := s.each (List.range 4) fun k s =>
    if (s.recOf k).seg.isSome then recAfter k (segClose k 4 s)
    else s
  let s := s.capOp (.zero (captureSram 0x01F00000) 0x50000)
  if s.flag CHR_XSP_STAT_BUSY then
    (s.put CHR_XSP_STAT_M 0).onXsp fun x => { waits := true, copy := x.copy, acc := if x.copy.isSome then x.acc else [] }
  else s

/-- The first tick under the new time: the records that the step has closed arm again, and those that were armed start anew. -/
def chrStepTick (s : Hw) : Hw :=
  let s := s.onChr fun c => { c with news := [] }
  s.each (List.range 4) fun k s =>
    if s.recState k = rcClosing ∧ (s.recOf k).seg.isNone then recArm k s.nowQ true s
    else if s.recState k = rcArmed then recArm k s.nowQ (s.recOf k).again s
    else s

end Sys2Proof.Machine
end

