-- ==== Sys2Proof/Machine/ChronoRun.lean ====
section
/-! DEFINITION. The Chronograph at a strobe, histograms, the persistence map, cross-spectra (R336, R337, R348 to R354, R356). -/

namespace Sys2Proof.Machine

/-! ### Histograms and the map (R348, R349) -/

/-- clamp((x - LO) >> SHIFT, 0, top). -/
def binOf (x lo : Int) (shift top : Nat) : Nat := (clampInt 0 top ((x - lo) / (2 ^ shift : Nat))).toNat

def histAddr (h : Nat) : Nat := captureSram (0x01F40000 + 0x1000 * h)
def mapAddr : Nat := captureSram 0x01F00000

/-- The counts of a histogram, or of the map (16), are zeroed. -/
def statZero (u : Nat) (s : Hw) : Hw := s.capOp (if u < 16 then .zero (histAddr u) 0x1000 else .zero mapAddr 0x40000)

/-- A histogram counts the new sample of its input. -/
def histCount (news : List (Nat × Nat)) (h : Nat) (s : Hw) : Hw :=
  let path := s.get (CHR_HISTh_CFG_PATH h)
  if s.flag (CHR_HISTh_CFG_RUN h) ∧ news.any (fun p => p.1 == path) then
    let x := (chrSample s path (s.get (CHR_HISTh_CFG_SEL h))).val
    s.capOp (.count (histAddr h + 4 * binOf x (s.geti (CHR_HISTh_LO_LO h)) (s.get (CHR_HISTh_CFG_SHIFT h)) 1023))
  else s

/-- The map counts the new sample of its input in the column of its angle; with the kernel angle, once the tick's is there. -/
def mapCount (news : List (Nat × Nat)) (s : Hw) : Hw :=
  let path := s.get CHR_MAP_CFG_PATH
  match s.flag CHR_MAP_CFG_RUN, news.find? fun p => p.1 == (if s.flag CHR_MAP_CFG_ANG_SRC then 3 else path) with
  | true, some (_, t) =>
    let x := (chrSample s path (s.get CHR_MAP_CFG_SEL)).val
    let phi := if s.flag CHR_MAP_CFG_ANG_SRC then kAngle s.xram 0 0
      else toneTheta (s.get CHR_MAP_FREQ_FREQ) (t / 4 / nsPerSec) (t / 4 % nsPerSec)
    s.capOp (.count (mapAddr + 4 * (256 * binOf x (s.geti CHR_MAP_LO_LO) (s.get CHR_MAP_CFG_SHIFT) 255 + phi / 2 ^ 24 % 256)))
  | _, _ => s

/-! ### Cross-spectra (R352 to R354) -/

/-- The bins of the run. -/
def xspBins (s : Hw) : List Nat := List.range (s.get CHR_XSP_CFG_NBIN_M1 + 1)

/-- The signals U, Y1, Y2, Y3 of a tick; none for a signal that is not enabled. -/
def xspSignals (s : Hw) : List (Option Samp) :=
  [CHR_XSP_SIG_U, CHR_XSP_SIG_Y1, CHR_XSP_SIG_Y2, CHR_XSP_SIG_Y3].map fun f =>
    let b := s.get f
    if bitOf b 7 then some (chrSample s (if bitOf b 6 then 3 else 2) (b % 32)) else none

/-- Sums of nothing. -/
def xspZero (s : Hw) : List (List (Int × Int)) := (xspBins s).map fun _ => [(0, 0), (0, 0), (0, 0), (0, 0)]

/-- Accumulators of a run that begins. -/
def xspFresh (s : Hw) : List (List Int) := (xspBins s).map fun _ => List.replicate 10 0

/-- X of a sum (R352). -/
def xspX (p : Int × Int) : Int × Int := ((p.1 + 2 ^ 16) / 2 ^ 17, -((p.2 + 2 ^ 16) / 2 ^ 17))

/-- The ten values of a bin after a block: G_UU, then G_UY real and imaginary and G_YY of each response. -/
def xspAdd (g : List Int) (xs : List (Int × Int)) : List Int :=
  let u := xs.headD (0, 0)
  let add := (u.1 * u.1 + u.2 * u.2) :: (xs.drop 1).flatMap fun (y : Int × Int) =>
    [y.1 * u.1 + y.2 * u.2, y.2 * u.1 - y.1 * u.2, y.1 * y.1 + y.2 * y.2]
  (g.zip add).map fun p => p.1 + p.2

/-- A G in memory: three little-endian words and a zero pad. -/
def gBytes (g : Int) : List Byte := leBytes 12 (unsigned 96 g) ++ leBytes 4 0

/-- The records of a completed run are written. -/
def xspWrite (s : Hw) : Hw :=
  ((xspBins s).zip s.chr.xsp.acc).foldl (fun s p =>
    let a := captureSram (0x01F50000 + 0x100 * p.1)
    let s := s.capOp (.put a (gBytes (p.2.headD 0)))
    let s := s.capOp (.put (a + 0x10) (leBytes 4 (s.get (CHR_XSP_BINb_FREQ p.1))))
    s.capOp (.put (a + 0x20) ((p.2.drop 1).flatMap gBytes))) s

/-- XSP_BLOCK_END: the sums of the block that has ended enter the accumulators; after AVG blocks the run is complete. -/
def xspBlockEnd (s : Hw) : Hw :=
  match s.chr.xsp.ended with
  | none => s
  | some sums =>
    if !s.flag CHR_XSP_STAT_BUSY then s
    else
      let g := (s.chr.xsp.acc.zip sums).map fun p => xspAdd p.1 (p.2.map xspX)
      let sat := g.any fun ys => ys.any fun y => satInt 96 y != y
      let s := if sat then s.raise CHR_XSP_STAT_SAT else s
      let s := s.onXsp fun x => { x with acc := g.map fun ys => ys.map (satInt 96), ended := none }
      let s := s.bump CHR_XSP_STAT_M
      if s.get CHR_XSP_AVG_AVG ≤ s.get CHR_XSP_STAT_M then
        let s := ((xspWrite s).raise CHR_XSP_STAT_DONE).put CHR_XSP_STAT_BUSY 0
        let dest := if s.flag CHR_XSP_CFG_LE_DEST then some (22 + s.get CHR_XSP_CFG_DEST_ENG, s.get CHR_XSP_LEADDR_LEADDR) else none
        (s.onXsp fun x => { x with copy := dest }).trgEvent 7
      else s

/-- The inputs of a tick enter the running block. -/
def xspFeed (s : Hw) : Hw :=
  let s := xspBlockEnd s
  let x := s.chr.xsp
  if !s.flag CHR_XSP_STAT_BUSY || x.waits then s
  else
    let xs := xspSignals s
    let sums := if x.n = 0 then xspZero s else x.sums
    let ns := s.time.ns / 2000 * 2000
    let sums := ((xspBins s).zip sums).map fun (p : Nat × List (Int × Int)) =>
      let th := toneTheta (s.get (CHR_XSP_BINb_FREQ p.1)) s.time.sec ns
      (p.2.zip xs).map fun (q : (Int × Int) × Option Samp) => match q.2 with
        | some v => (q.1.1 + v.val * tableCos th, q.1.2 + v.val * tableSin th)
        | none => q.1
    let sub := x.sub || xs.any fun v => match v with | some v => v.sub | none => false
    if x.n + 1 < s.get CHR_XSP_BLK_BLK then s.onXsp fun x => { x with n := x.n + 1, sums := sums, sub := sub }
    else
      let s := if sub then s.raise CHR_XSP_STAT_SUBST else s
      s.onXsp fun x => { x with n := 0, sums := [], sub := false, ended := some sums }

/-- The linked injection point runs. -/
def xspPoint (s : Hw) : Bool := bitOf (s.get (LEn_STAT_INJ_RUN (s.get CHR_XSP_CFG_INJ_ENG))) (s.get CHR_XSP_CFG_INJ_PT)

/-- The linked point at a tick boundary: its stop stops the accumulation (R353). -/
def xspTick (s : Hw) : Hw :=
  if !s.flag CHR_XSP_STAT_BUSY || !s.flag CHR_XSP_CFG_LINK then s
  else if xspPoint s then s.onXsp fun x => { x with ran := true }
  else if s.chr.xsp.ran then s.onXsp fun x => { x with ran := false, waits := true, n := 0, sums := [], sub := false }
  else s

/-- A completed run's records go into the state memory of LE22 or LE23 (R354). -/
def xspCopy (s : Hw) : Hw :=
  match s.chr.xsp.copy with
  | none => s
  | some (n, at_) =>
    let ws := s.chr.xsp.acc.flatMap fun g => g.flatMap fun y => (List.range 6).map fun i => unsigned 96 y / 2 ^ (16 * i) % 65536
    let s := s.onXsp fun x => { x with copy := none }
    let s := if n = 22 then s.onLe fun c => { c with scanAt := some at_ } else s
    s.onEng n fun e => { e with dmem := ws.zipIdx.foldl (fun d w => smapSet 0 d (at_ / 2 + w.2) w.1) e.dmem }

/-- Cross-spectra at a frame boundary, before the injections that start with it. -/
def xspFrame (s : Hw) : Hw :=
  let s := xspCopy s
  if s.flag CHR_XSP_STAT_BUSY && s.chr.xsp.waits && (!s.flag CHR_XSP_CFG_LINK || xspPoint s) then
    s.onXsp fun x => { x with waits := false, n := 0, sums := [], sub := false, acc := if s.get CHR_XSP_STAT_M = 0 then xspFresh s else x.acc }
  else s

/-! ### The strobe and the frame release -/

/-- The Chronograph at an ADC strobe: arms that fall due, new instants, counts, units, triggers. Between a step and the first tick under
the new time no instants exist, and no record triggers (R356). -/
def chrStrobe (s : Hw) : Hw :=
  let gap := s.time.gapTo.isSome
  let news := if gap then [] else s.chr.news
  let now := s.strobeNow
  let clr := bitsOf 17 s.chr.clr
  let s := s.onChr fun c => { c with news := [], clr := 0 }
  let s := s.each clr statZero
  let s := s.each ((List.range 4).filter fun k => (s.recOf k).due) fun k s => recArm k now false s
  let s := news.foldl (fun (s : Hw) (p : Nat × Nat) =>
    s.each ((List.range 4).filter fun k => s.get (CHR_RECk_CFG_KIND k) == p.1) fun k s => recTake k p.2 s) s
  let s := mapCount news (s.each (List.range 16) fun h s => histCount news h s)
  let s := s.each (List.range 16) (unitEval news)
  let s := if gap then s else s.each (List.range 4) recJudge
  let s := { s with trg := trgLeft s }
  if news.any fun p => p.1 == 3 then xspFeed s else s

/-- The Chronograph at the frame release: the words of CHR_LEVj and the arm sets of the tick (R335). -/
def chrRelease (s : Hw) : Hw :=
  let lev := (List.range 32).map fun j => s.xr (outArea (s.get (CHR_LEVj_ENG j)) + s.get (CHR_LEVj_WORD j))
  let t := s.strobeQ 0
  ((s.onChr fun c => { c with lev := lev }).chrNews 3 t).chrNews 4 t

/-- The Chronograph at a tick boundary; `ti` says that the tick that ended had TI_NOW. -/
def chrTick (ti : Bool) (s : Hw) : Hw :=
  xspTick (if ti then s else s.onChr fun c => { c with tiBad := some (s.ticks - 1) })

/-! ### Capture memory -/

/-- A byte of the capture SRAM as software reads it (Table CHR-4): the elastic buffer reads 0, the self-test area what the last test has
left there, which the spec does not state. -/
def sramByte (s : Hw) (m : Memory) (o : Nat) : Byte :=
  if o < 0x00400000 then 0#8
  else if 0x01FF0000 ≤ o ∧ s.chr.tests ≠ 0 then Config.testByte s.chr.tests o
  else memRead m (captureSram o)

/-- A byte of the DDR; its top 1 MiB is the self-test's. -/
def ddrByte (s : Hw) (m : Memory) (o : Nat) : Byte :=
  if s.get CHR_STAT_DDR_GIB * 2 ^ 30 - 2 ^ 20 ≤ o ∧ s.chr.tests ≠ 0 then Config.testByte s.chr.tests o else memRead m (captureDdr o)

end Sys2Proof.Machine
end

