-- ==== Sys2Proof/Machine/ChronoCmd.lean ====
section
/-! DEFINITION. Commands, register writes and events of the Chronograph (Tables CHR-5 to CHR-14). -/

namespace Sys2Proof.Machine

/-! ### What the registers may hold -/

/-- A trigger unit's words are out of range (Tables CHR-2 and CHR-10). -/
def trgBad (t : Hw) (u : Nat) : Bool :=
  let pol := uPol t u
  match uType t u with
  | 0 => false
  | 1 => decide (1 < pol)
  | 2 => decide (2 < pol)
  | 3 => decide (1 < pol)
  | 4 => outside 1 255 (uArg t u)
  | 5 => false
  | 6 => false
  | 7 => false
  | 8 => decide (2 < pol) || decide (64 < uArg t u % 128)
  | 9 => false
  | 10 => false
  | _ => true

/-- A unit configured: its state clears, and edges that have come are not for it. -/
def trgConfigured (u : Nat) (s : Hw) : Hw :=
  let s := { s with trg := { s.trg with pins := s.trg.pins.map fun (e : PinEdge) => { e with done := bitSet e.done u } } }
  (s.onUnit u fun _ => {}).put (CHR_TRGu_STAT_STATE u) 0

/-- Slots of two records meet in one memory. -/
def slotsMeet (t : Hw) (j k : Nat) : Bool :=
  decide (j ≠ k) && t.get (CHR_RECk_NSEG_NSEG j) != 0 && t.recDdr j == t.recDdr k &&
    decide (t.recFirst j < t.recEnd k) && decide (t.recFirst k < t.recEnd j)

/-- The slots of a record leave their memory (R342). -/
def slotsOut (t : Hw) (k : Nat) : Bool :=
  if t.recDdr k then decide (t.get CHR_STAT_DDR_GIB * 2 ^ 30 < t.recEnd k + 2 ^ 20)
  else decide (t.recFirst k < 0x00400000) || decide (0x01F00000 < t.recEnd k)

/-- A record's words are out of range. -/
def recBad (t : Hw) (k : Nat) : Bool :=
  decide (4 < t.get (CHR_RECk_CFG_KIND k)) || outside 1 65536 (t.get (CHR_RECk_NSEG_NSEG k)) ||
    (t.get (CHR_RECk_CFG_KIND k) == 4 && decide (63 < t.get (CHR_RECk_SRC_MASK k))) || slotsOut t k

/-- An entry of the list of engine words names no engine. -/
def levBad (t : Hw) (j : Nat) : Bool := decide (23 < t.get (CHR_LEVj_ENG j))

/-- A histogram's or the map's words are out of range. -/
def statBad (t : Hw) (u : Nat) : Bool :=
  if u < 16 then t.get (CHR_HISTh_CFG_SHIFT u) == 7
  else t.get CHR_MAP_CFG_SHIFT == 7 || (t.flag CHR_MAP_CFG_ANG_SRC && decide (t.get CHR_MAP_CFG_PATH < 2))

/-- The CFG register of a histogram or of the map. -/
def statCfg (u : Nat) : Nat := if u < 16 then CHR_HISTh_CFG u else CHR_MAP_CFG

/-- CLR of a histogram or of the map: at the next strobe. -/
def statClr (u : Nat) (s : Hw) : Hw := s.onChr fun c => { c with clr := bitSet c.clr u }

/-- The words of the cross-spectrum unit are out of range (Table CHR-14, R354). -/
def xspBad (t : Hw) : Bool :=
  let n := t.get CHR_XSP_CFG_NBIN_M1 + 1
  let a := t.get CHR_XSP_LEADDR_LEADDR
  decide (23 < t.get CHR_XSP_CFG_INJ_ENG) || decide (t.get CHR_XSP_BLK_BLK < 16) || decide (t.get CHR_XSP_AVG_AVG = 0) ||
    (t.flag CHR_XSP_CFG_LE_DEST && (decide (a < 0x4000) || decide (0x8000 < a + 120 * n))) ||
    ((List.range n).any fun b => decide (16000000 < t.get (CHR_XSP_BINb_FREQ b)))

/-- CHR_CTRL out of range. -/
def chrCtrlBad (t : Hw) : Bool := t.get CHR_CTRL_SYNC_ROLE == 3 || decide (64 < t.get CHR_CTRL_SYNC_FLT)

/-- A record configured: SEGB follows. -/
def recConfigured (k : Nat) (s : Hw) : Hw :=
  let s := s.put (CHR_RECk_SEGB_SEGB k) (s.segBytes k)
  (s.setRec k rcIdle).onRec k fun _ => {}

/-- Writes of a record's configuration. -/
def recWrite (s t : Hw) (k : Nat) (w : Wr) : Judged :=
  let used := t.get (CHR_RECk_NSEG_NSEG k) != 0
  judge [(if used then recBad t k else decide (w.addr = CHR_RECk_NSEG k) || decide (4 < t.get (CHR_RECk_CFG_KIND k)), .range),
    (s.recBusy k, .recBusy), (used && (List.range 4).any fun j => slotsMeet t j k, .memOverlap)] (recConfigured k t)

/-- Writes in the Chronograph window. -/
def chrWrite (s : Hw) (w : Wr) : Judged :=
  let t := s.writeAs w
  if w.addr = CHR_CTRL then judge [(chrCtrlBad t, .range)] t
  else if w.addr = CHR_STAT then .ok (clears w CHR_STAT_BUF_OVF CHR_TRUNC_TRUNC_CNT t)
  else if w.addr < CHR_RECk_CFG 0 then
    let u := (w.addr - CHR_TRGu_CFG 0) / 0x10
    if w.addr = CHR_TRGu_STAT u then .ok (clears w (CHR_TRGu_STAT_FIRED u) (CHR_TRGu_STAT_FIRE_CNT u) t)
    else judge [(trgBad t u, .range)] (if w.mask = 0 then t else trgConfigured u t)
  else if w.addr < CHR_LEVj 0 then
    let k := (w.addr - CHR_RECk_CFG 0) / 0x40
    if w.addr = CHR_RECk_STAT k then .ok (clears w (CHR_RECk_STAT_MISSED_TRIG k) (CHR_RECk_MISS_MISS_CNT k) t)
    else if w.mask = 0 then .ok t
    else recWrite s t k w
  else if w.addr < CHR_HISTh_CFG 0 then judge [(levBad t ((w.addr - CHR_LEVj 0) / 4), .range)] t
  else if w.addr < CHR_XSP_CFG then
    let u := min 16 ((w.addr - CHR_HISTh_CFG 0) / 8)
    judge [(statBad t u, .range)] (if w.addr = statCfg u ∧ w.acts ≠ 0 then statClr u t else t)
  else judge [(w.addr == CHR_XSP_BLK && decide (t.get CHR_XSP_BLK_BLK < 16) || w.addr == CHR_XSP_AVG && decide (t.get CHR_XSP_AVG_AVG = 0) ||
      w.addr == CHR_XSP_CFG && decide (23 < t.get CHR_XSP_CFG_INJ_ENG) ||
      (List.range 64).any (fun b => w.addr == CHR_XSP_BINb b && decide (16000000 < t.get (CHR_XSP_BINb_FREQ b))), .range)] t

/-! ### Commands (Table CHR-5) -/

/-- A host command of the Chronograph. -/
def chrCmd (op : Op) (self : Instr) (h : Hdr) (body : Hw → Done) (s : State) : Host.Outcome State Fault Refusal :=
  .next (s.onCap (hostCmd op self h body))

/-- The records of a mask. -/
def recsOf (mask : Nat) : List Nat := bitsOf 4 mask

/-- A mask names a record that does not exist. -/
def recMaskBad (mask : Nat) : Bool := decide (16 ≤ mask)

/-- 0x0B00 CHR_STATUS_GET. -/
def execChrStatusGet (h : Hdr) (s : State) : Host.Outcome State Fault Refusal :=
  chrCmd (Op.plain 0x0B00 .viewer) (.chrStatusGet h) h (fun s =>
    answer s (regBytes s ([CHR_CTRL, CHR_STAT, CHR_TRUNC] ++ (List.range 16).map CHR_TRGu_STAT ++ (List.range 4).map CHR_RECk_STAT))) s

/-- 0x0B01 CHR_TRG_CFG (R336). -/
def execChrTrgCfg (h : Hdr) (trgUnit cfg thr : Nat) (s : State) : Host.Outcome State Fault Refusal :=
  chrCmd (Op.plain 0x0B01 .engineer) (.chrTrgCfg h trgUnit cfg thr) h (fun s =>
    let t := (s.setWord (CHR_TRGu_CFG trgUnit) cfg).setWord (CHR_TRGu_THR trgUnit) thr
    checked s [(decide (15 < trgUnit) || trgBad t trgUnit, .range)]
      (change (trgConfigured trgUnit t) (regChgs s t [CHR_TRGu_CFG trgUnit, CHR_TRGu_THR trgUnit]))) s

/-- The words of CHR_REC_CFG. -/
def recRegs (k : Nat) : List Nat := [CHR_RECk_CFG k, CHR_RECk_TRG k, CHR_RECk_SRC k, CHR_RECk_LEN k, CHR_RECk_NSEG k, CHR_RECk_BASE k]

/-- 0x0B02 CHR_REC_CFG (R339, R342). -/
def execChrRecCfg (h : Hdr) (rec cfg trg src len nseg base : Nat) (levs : Option (List Nat)) (s : State) :
    Host.Outcome State Fault Refusal :=
  chrCmd (Op.sized 0x0B02 .engineer (if levs.isSome then 153 else 25)) (.chrRecCfg h rec cfg trg src len nseg base levs) h (fun s =>
    let ls := (List.range 32).map CHR_LEVj
    let t := ((recRegs rec).zip [cfg, trg, src, len, nseg, base]).foldl (fun t p => t.setWord p.1 p.2) s
    let t := match levs with
      | some ws => (ls.zip ws).foldl (fun t p => t.setWord p.1 p.2) t
      | none => t
    checked s [(decide (3 < rec) || recBad t rec || (List.range 32).any (levBad t), .range), (s.recBusy rec, .recBusy),
      ((List.range 4).any fun j => slotsMeet t j rec, .memOverlap)]
      (change (recConfigured rec t) (regChgs s t (recRegs rec ++ ls)))) s

/-- 0x0B03 CHR_ARM (R339): a record whose segment is closing is deferred, unless the closing segment completes its run. -/
def execChrArm (h : Hdr) (mask : Nat) (s : State) : Host.Outcome State Fault Refusal :=
  chrCmd (Op.plain 0x0B03 .operator) (.chrArm h mask) h (fun s =>
    let ks := recsOf mask
    let closing := fun k => s.recState k == rcClosing && (s.flag (CHR_RECk_CFG_RING k) ||
      decide (s.get (CHR_RECk_STAT_SEG_DONE k) + (if (s.recOf k).seg.isSome then 1 else 0) < s.get (CHR_RECk_NSEG_NSEG k)))
    let wait := ks.filter closing
    checked s ((recMaskBad mask || ks.any fun k => s.get (CHR_RECk_NSEG_NSEG k) == 0, .range) :: armBars s ks)
      (let t := s.each ks fun k s =>
         if closing k then s.put (CHR_RECk_STAT_PEND k) 1
         else if [rcArmed, rcTriggered].contains (s.recState k) then s
         else recArmCmd k s
       { hw := chrPend t, status := if wait.isEmpty then .ok else .enableDeferred, log := cmdChg 0x0B03 0 mask })) s

/-- 0x0B04 CHR_STOP (R340). -/
def execChrStop (h : Hdr) (mask : Nat) (s : State) : Host.Outcome State Fault Refusal :=
  chrCmd (Op.plain 0x0B04 .operator) (.chrStop h mask) h (fun s =>
    let t := s.each (recsOf mask) fun k s => (recStop k s).put (CHR_RECk_STAT_PEND k) 0
    change (chrPend t) (cmdChg 0x0B04 0 mask)) s

/-- 0x0B05 CHR_FORCE (R336). -/
def execChrForce (h : Hdr) (mask : Nat) (s : State) : Host.Outcome State Fault Refusal :=
  chrCmd (Op.plain 0x0B05 .operator) (.chrForce h mask) h (fun s =>
    checked s [((recsOf mask).any fun k => s.recState k != rcArmed, .notArmed)]
      (change { s with trg := { s.trg with soft := s.trg.soft ||| mask % 16, softAt := s.nowQ } } (cmdChg 0x0B05 0 mask))) s

/-- The offset of the first 64-bit word with an uncorrectable error among those that a read touches. -/
def ddrBadAt (s : Hw) (offset len : Nat) : Option Nat :=
  let words := if len = 0 then 0 else (offset + len - 1) / 8 + 1 - offset / 8
  ((List.range words).map fun i => 8 * (offset / 8 + i)).find? (Config.ddrBad s.cycles)

/-- 0x0B06 CHR_READ (R347): a double-bit error returns the data with ECC_ERROR and the offset of the first bad word. -/
def execChrRead (h : Hdr) (offset len : Nat) (s : State) : Host.Outcome State Fault Refusal :=
  chrCmd (Op.plain 0x0B06 .viewer) (.chrRead h offset len) h (fun hw =>
    checked hw [(decide (2 ^ 20 < len) || decide (hw.get CHR_STAT_DDR_GIB * 2 ^ 30 < offset + len), .range), (!hw.flag CHR_STAT_DDR_OK, .ddrDown)]
      (let data := (List.range len).map fun i => ddrByte hw s.capture (offset + i)
       match ddrBadAt hw offset len with
       | some a => refuseWith hw .eccError (data ++ leBytes 8 a)
       | none => answer hw data)) s

/-- 0x0B07 CHR_STAT_CFG (R348, R349). -/
def execChrStatCfg (h : Hdr) (statUnit cfg lo freq : Nat) (s : State) : Host.Outcome State Fault Refusal :=
  chrCmd (Op.plain 0x0B07 .engineer) (.chrStatCfg h statUnit cfg lo freq) h (fun s =>
    let as := if statUnit < 16 then [CHR_HISTh_CFG statUnit, CHR_HISTh_LO statUnit] else [CHR_MAP_CFG, CHR_MAP_LO, CHR_MAP_FREQ]
    let t := (as.zip [cfg, lo, freq]).foldl (fun t p => t.setWord p.1 p.2) s
    checked s [(decide (16 < statUnit) || statBad t statUnit, .range)]
      (change (if bitOf cfg 30 then statClr statUnit t else t) (regChgs s t as))) s

/-- 0x0B08 CHR_XSP_START (R352, R353). -/
def execChrXspStart (h : Hdr) (cfg sig blk avg leaddr : Nat) (bins : List Nat) (s : State) : Host.Outcome State Fault Refusal :=
  chrCmd (Op.sized 0x0B08 .engineer (20 + 4 * bins.length)) (.chrXspStart h cfg sig blk avg leaddr bins) h (fun s =>
    let as := [CHR_XSP_CFG, CHR_XSP_SIG, CHR_XSP_BLK, CHR_XSP_AVG, CHR_XSP_LEADDR] ++ (List.range bins.length).map CHR_XSP_BINb
    let t := (as.zip ([cfg, sig, blk, avg, leaddr] ++ bins)).foldl (fun t p => t.setWord p.1 p.2) s
    checked s [(bins.length != t.get CHR_XSP_CFG_NBIN_M1 + 1, .length), (xspBad t, .range),
      (s.flag CHR_XSP_STAT_BUSY, .xspBusy)]
      (change (((t.put CHR_XSP_STAT_BUSY 1).put CHR_XSP_STAT_M 0).onXsp fun x => { waits := true, copy := x.copy, acc := if x.copy.isSome then x.acc else [] }) (regChgs s t as))) s

/-- 0x0B09 CHR_XSP_STOP. -/
def execChrXspStop (h : Hdr) (s : State) : Host.Outcome State Fault Refusal :=
  chrCmd (Op.plain 0x0B09 .operator) (.chrXspStop h) h (fun s => change (xspAbort s) (cmdChg 0x0B09 (s.get CHR_XSP_STAT_BUSY) 0)) s

/-- 0x0B0A CHR_SYNC_ARM (R351). -/
def execChrSyncArm (h : Hdr) (s : State) : Host.Outcome State Fault Refusal :=
  chrCmd (Op.plain 0x0B0A .operator) (.chrSyncArm h) h (fun s =>
    checked s [(s.get CHR_CTRL_SYNC_ROLE != 2, .notMaster)] (change (s.onChr fun c => { c with syncArm := true }) (cmdChg 0x0B0A 0 1))) s

/-- 0x0B0B CHR_SELFTEST (R355): replies when the test is done. -/
def execChrSelftest (h : Hdr) (s : State) : Host.Outcome State Fault Refusal :=
  chrCmd (Op.plain 0x0B0B .engineer) (.chrSelftest h) h (fun s => changeWait (s.onChr fun c => { c with tests := c.tests + 1 }) (cmdChg 0x0B0B 0 0) .selftest) s

/-! ### Events -/

/-- An event of the Chronograph. -/
def chrEvent (f : Hw → Hw) (s : State) : Host.Outcome State Fault Refusal := .next (s.onCap (onRun f))

/-- TRIG_PIN_EDGE: an edge on a TRIG pin in timebase cycle `cyc`; every unit on the pin accepts it by its own filter time. DESIGN CHOICE
(log entry 167): the cycle is that of the edge, not of an acceptance, which differs from unit to unit. -/
def execTrigPinEdge (pin cyc : Nat) (rising : Bool) (s : State) : Host.Outcome State Fault Refusal :=
  chrEvent (fun s =>
    let (sec, ns, frac) := s.timeAt cyc
    { s with trg := { s.trg with pins := s.trg.pins ++ [⟨pin % 4, rising, s.time.base + cyc, ((sec * nsPerSec + ns) * 2 ^ 32 + frac) / 2 ^ 30, 0⟩] } }) s

/-- SEGMENT_CLOSE. -/
def execSegmentClose (rec : Nat) (s : State) : Host.Outcome State Fault Refusal :=
  chrEvent (fun s => if rec < 4 then segmentClose rec s else s) s

/-- AUTO_REARM. -/
def execAutoRearm (rec : Nat) (s : State) : Host.Outcome State Fault Refusal :=
  chrEvent (fun s => if rec < 4 then autoRearm rec s else s) s

/-- SYNC_LINE_FALL: the fall detected in timebase cycle `cyc`. -/
def execSyncLineFall (cyc : Nat) (s : State) : Host.Outcome State Fault Refusal := chrEvent (syncFall cyc) s

/-- SYNC_LINE_RISE. -/
def execSyncLineRise (_cyc : Nat) (s : State) : Host.Outcome State Fault Refusal := chrEvent (fun s => s.put CHR_STAT_SYNC_LINE 1) s

/-- BUFFER_OVERFLOW. -/
def execBufferOverflow (s : State) : Host.Outcome State Fault Refusal := chrEvent bufferFull s

/-- BUFFER_DRAINED. -/
def execBufferDrained (s : State) : Host.Outcome State Fault Refusal := chrEvent bufferDrained s

/-- XSP_BLOCK_END. -/
def execXspBlockEnd (s : State) : Host.Outcome State Fault Refusal := chrEvent xspBlockEnd s

/-- SELFTEST_COMPLETE. -/
def execSelftestComplete (pass : Bool) (s : State) : Host.Outcome State Fault Refusal :=
  chrEvent (fun s =>
    if !s.cmd.waiting.any fun w => decide (w.kind = .selftest) then s
    else (if pass then s else s.raise CHR_STAT_SELFTEST_FAIL).finishKind .selftest (if pass then .ok else .selftestFail)) s

end Sys2Proof.Machine
end

