-- ==== Sys2Proof/Machine/Island.lean ====
section
/-! DEFINITION. The safety island: inputs, functions, outputs, faults, the parameter block and its confirmation, the proof test (R357 to
R373). Its times are counted in evaluations, ten to a millisecond. -/

namespace Sys2Proof.Machine

def Hw.onSaf (s : Hw) (f : SafSt → SafSt) : Hw := { s with saf := f s.saf }
def Hw.safIn (s : Hw) (i : Nat) : SafIn := smapGet {} s.saf.ins i
def Hw.safFn (s : Hw) (f : Nat) : SafFn := smapGet {} s.saf.fns f
def Hw.onSafIn (s : Hw) (i : Nat) (g : SafIn → SafIn) : Hw := s.onSaf fun c => { c with ins := smapSet {} c.ins i (g (smapGet {} c.ins i)) }
def Hw.onSafFn (s : Hw) (f : Nat) (g : SafFn → SafFn) : Hw := s.onSaf fun c => { c with fns := smapSet {} c.fns f (g (smapGet {} c.fns f)) }

/-! ### The parameter block (Table SAF-4) -/

/-- Byte, and little-endian 16-bit field, at an offset of a block. -/
def spbByte (b : List Byte) (o : Nat) : Nat := (b.getD o 0#8).toNat
def spbHalf (b : List Byte) (o : Nat) : Nat := spbByte b o + 256 * spbByte b (o + 1)

/-- Its check value: CRC-32 of bytes 0x00 to 0xFB. -/
def spbCheck (b : List Byte) : Nat := crc32Bytes (b.take 0xFC)

/-- Input fields: MODE, TPSEL of a contact (0 A, 1 B), FLT, DISC. -/
def inMode (b : List Byte) (i : Nat) : Nat := spbByte b (0x10 + 8 * i)
def inTp (b : List Byte) (i c : Nat) : Nat := spbByte b (0x11 + 8 * i) / 16 ^ c % 16
def inFlt (b : List Byte) (i : Nat) : Nat := spbByte b (0x12 + 8 * i)
def inDisc (b : List Byte) (i : Nat) : Nat := spbHalf b (0x14 + 8 * i)

/-- Function fields. -/
def fnType (b : List Byte) (f : Nat) : Nat := spbByte b (0x90 + 12 * f)
def fnIn (b : List Byte) (f j : Nat) : Nat := spbByte b (0x90 + 12 * f + j)
def fnRst (b : List Byte) (f : Nat) : Nat := spbByte b (0x94 + 12 * f)
def fnOuts (b : List Byte) (f : Nat) : Nat := spbByte b (0x95 + 12 * f)
def fnFlag (b : List Byte) (f k : Nat) : Bool := bitOf (spbByte b (0x96 + 12 * f)) k
def fnT1 (b : List Byte) (f : Nat) : Nat := spbHalf b (0x98 + 12 * f)

/-- Function types (Table SAF-2). -/
def ftEstop : Nat := 1
def ftDoor : Nat := 2
def ftTwohand : Nat := 3

/-- The inputs that a function of a type uses. -/
def fnInputs (b : List Byte) (f : Nat) : List Nat :=
  let n := match fnType b f with | 1 => 1 | 2 => 3 | 3 => 2 | _ => 0
  (List.range n).map fun j => fnIn b f (j + 1)

/-- Functions in use, those of type ESTOP or DOOR, and used inputs. -/
def fnsUsed (b : List Byte) : List Nat := (List.range 8).filter fun f => fnType b f != 0
def fnsStop (b : List Byte) : List Nat := (List.range 8).filter fun f => fnType b f == ftEstop || fnType b f == ftDoor
def insUsed (b : List Byte) : List Nat := (List.range 16).filter fun i => inMode b i != 0

/-- The EDM input of an output. -/
def edmIn (b : List Byte) (n : Nat) : Nat := spbByte b (0xF0 + n)

/-- RESTART, EDM_T and OTP_W. -/
def spbRestart (b : List Byte) : Nat := spbHalf b 0x08
def spbEdmT (b : List Byte) : Nat := spbHalf b 0x0A
def spbOtp (b : List Byte) : Nat := spbHalf b 0x0C

/-- Reserved bytes are 0. -/
def spbZero (b : List Byte) : Bool :=
  ([1, 2, 3, 14, 15] ++ (List.range 8).map (0xF4 + ·) ++ (List.range 16).flatMap (fun i => [0x13, 0x16, 0x17].map (· + 8 * i)) ++
    (List.range 8).flatMap (fun f => [0x97, 0x9A, 0x9B].map (· + 12 * f))).all fun o => spbByte b o == 0

/-- A field names an input, or none. -/
def inName (i : Nat) : Bool := decide (i < 16) || i == 0xFF

/-- A used input's fields, and a function's, lie in their ranges. -/
def inOk (b : List Byte) (i : Nat) : Bool :=
  decide (inMode b i ≤ 2) && (inMode b i == 0 || (decide (inTp b i 0 ≤ 3) && decide (inTp b i 1 ≤ 3) && inTp b i 0 != inTp b i 1 &&
    !outside 1 20 (inFlt b i) && !outside 10 10000 (inDisc b i)))
def fnOk (b : List Byte) (f : Nat) : Bool :=
  let ty := fnType b f
  decide (ty ≤ 3) && (ty == 0 || ((fnInputs b f).all inName && decide (fnOuts b f < 16) && decide (spbByte b (0x96 + 12 * f) < 8) &&
    (if ty = ftTwohand then fnRst b f == 0xFF else decide (fnRst b f < 16) && !outside 10 10000 (fnT1 b f))))

/-- The inputs that serve a function, its reset input among them. -/
def fnServed (b : List Byte) (f : Nat) : List Nat := (fnInputs b f ++ [fnRst b f]).filter fun i => decide (i < 16)

/-- Each input serves at most one function. -/
def insOnce (b : List Byte) : Bool :=
  (fnsUsed b).all fun f => (fnsUsed b).all fun g => f == g || (fnServed b f).all fun i => !(fnServed b g).contains i

/-- A block that SAFETY_PARAM_LOAD takes (R368). -/
def spbOk (b : List Byte) : Bool :=
  decide (b.length = 256) && spbByte b 0 == 1 && spbZero b && !outside 100 1000 (spbHalf b 4) && !outside 10 1000 (spbHalf b 6) &&
  !outside 100 10000 (spbRestart b) && !outside 10 1000 (spbEdmT b) && (spbOtp b == 0 || !outside 100 500 (spbOtp b)) &&
  (List.range 16).all (inOk b) && (List.range 8).all (fnOk b) && insOnce b &&
  (List.range 4).all (fun n => inName (edmIn b n)) && leNat (b.drop 0xFC) == spbCheck b

/-- The confirmed block in force; none while the part is unconfirmed. -/
def Hw.spbNow (s : Hw) : Option (List Byte) := if s.flag SAF_STAT_CONFIRMED then s.saf.spb else none

/-! ### Inputs (R359, R360) -/

/-- The field of SAF_IN of an input. -/
def valFld (i : Nat) : Fld := ⟨SAF_IN, 2 * i + 1, 2 * i⟩
def vOff : Nat := 0
def vOn : Nat := 1
def vMixed : Nat := 2
def vFault : Nat := 3

/-- An input is faulted. -/
def Hw.inFaulted (s : Hw) (i : Nat) : Bool := bitOf (s.get SAF_INFLT_TP_FLT) i || bitOf (s.get SAF_INFLT_DISC_FLT) i

/-- Source TPk is in its test pulse, or within `more` us after it: pulses of TP_W at k * TP_PER / 4 of each TP_PER, counted from the
evaluation at which the block came into force (DESIGN CHOICE, log entry 168). -/
def Hw.tpPulsing (s : Hw) (b : List Byte) (more k : Nat) : Bool :=
  let per := 1000 * spbHalf b 6
  let k := k % 4
  decide ((100 * (s.saf.evals - s.saf.begun) + per - k * per / 4) % per < spbHalf b 4 + more)

/-- A contact observed at an evaluation; `moved` says that it has been at another level since the last one. A sample that is `out` of the
filter, one in the pulse of the contact's own source or within 50 us after it, leaves the level observed as it was. -/
def chanEval (flt : Nat) (out high moved : Bool) (c : SafChan) : SafChan :=
  let now := if out then c.raw else high
  let held := if out || (c.raw == high && !moved) then c.held + 1 else 0
  { raw := now, held := held, level := if 10 * flt ≤ held then now else c.level }

/-- An input at an evaluation. -/
def inEval (b : List Byte) (levels moved i : Nat) (s : Hw) : Hw :=
  let x := s.safIn i
  let a := chanEval (inFlt b i) (s.tpPulsing b 50 (inTp b i 0)) (bitOf levels (2 * i)) (bitOf moved (2 * i)) x.a
  let c := chanEval (inFlt b i) (s.tpPulsing b 50 (inTp b i 1)) (bitOf levels (2 * i + 1)) (bitOf moved (2 * i + 1)) x.b
  let onB := if inMode b i = 1 then c.level else !c.level
  let off := !a.level && !onB
  let v := if s.inFaulted i then vFault else if a.level && onB then vOn else if off then vOff else vMixed
  let s := s.onSafIn i fun _ =>
    { a := a, b := c, mixed := if v = vMixed then x.mixed + 1 else 0, on := if v = vOn then x.on + 1 else 0,
      offSeen := s.inFaulted i && (x.offSeen || off), pulse := if v = vOn then 0 else x.on }
  s.put (valFld i) v

/-- The value of an input in this evaluation; a field that names no input shows OFF, as an unused input does (DESIGN CHOICE, log entry
169). -/
def Hw.inVal (s : Hw) (i : Nat) : Nat := if i < 16 then s.get (valFld i) else vOff

/-- A function's reset input acts: the trailing edge of an ON pulse of 50 ms to 3 s (R365). -/
def Hw.resetActs (s : Hw) (b : List Byte) (f : Nat) : Bool :=
  let i := fnRst b f
  decide (i < 16) && (let p := (s.safIn i).pulse; decide (500 ≤ p) && decide (p ≤ 30000))

/-- A reset clears the faults of the function's inputs that have since shown OFF. -/
def faultsClear (b : List Byte) (f : Nat) (s : Hw) : Hw :=
  if s.resetActs b f then
    s.each ((fnInputs b f ++ [fnRst b f]).filter fun i => (s.safIn i).offSeen) fun i s =>
      ((s.clearBit SAF_INFLT_TP_FLT i).clearBit SAF_INFLT_DISC_FLT i).onSafIn i fun x => { x with offSeen := false }
  else s

/-! ### Functions (R361 to R365, R373) -/

/-- The demand of an ESTOP or DOOR function is released. -/
def Hw.released (s : Hw) (b : List Byte) (f : Nat) : Bool :=
  s.inVal (fnIn b f 1) == vOn && (fnType b f == ftEstop || s.inVal (fnIn b f 2) == vOff)

/-- The stop of a function has completed and its restart delay has elapsed. -/
def Hw.restartDue (s : Hw) (b : List Byte) (f : Nat) : Bool :=
  (s.safFn f).stopped && decide (10 * spbRestart b ≤ (s.safFn f).since)

/-- SYS_PEND of class SAFETY. -/
def safPend (s : Hw) : Hw :=
  let m := maskOf ((List.range 8).filter fun f => (s.safFn f).reset)
  s.setPend 4 (if m = 0 then none else some ⟨0x0C00, m, [], match s.pendOf 4 with | some p => p.tick | none => s.nextTick⟩)

/-- A function permits again. -/
def fnRestart (f : Nat) (s : Hw) : Hw := s.onSafFn f fun x => { x with demand := false, permit := true, reset := false }

/-- An ESTOP or DOOR function at an evaluation. -/
def stopEval (b : List Byte) (f : Nat) (s : Hw) : Hw :=
  let x := s.safFn f
  let rel := s.released b f
  if x.permit then
    if rel then s
    else s.onSafFn f fun x => { x with demand := true, permit := false, since := 0, stopped := !fnFlag b f 0, reset := false }
  else
    let s := s.onSafFn f fun x => { x with since := x.since + 1 }
    if rel && s.resetActs b f then
      if s.restartDue b f then fnRestart f s else s.onSafFn f fun x => { x with reset := true }
    else s

/-- A TWOHAND function at an evaluation (R363). -/
def handEval (b : List Byte) (f : Nat) (s : Hw) : Hw :=
  let v1 := s.inVal (fnIn b f 1)
  let v2 := s.inVal (fnIn b f 2)
  s.onSafFn f fun x =>
    if x.permit then (if v1 = vOn ∧ v2 = vOn then x else { x with demand := true, permit := false, armed := false, started := none })
    else if v1 = vOff ∧ v2 = vOff then { x with armed := true, started := none }
    else if x.armed then
      let n := match x.started with | some n => n + 1 | none => 0
      if 5000 < n then { x with armed := false, started := none }
      else if v1 = vOn ∧ v2 = vOn then { x with demand := false, permit := true, started := none }
      else { x with started := some n }
    else x

/-- A function at an evaluation. -/
def fnEval (b : List Byte) (f : Nat) (s : Hw) : Hw :=
  if fnType b f = ftTwohand then handEval b f s else stopEval b f (faultsClear b f s)

/-- A function permits its outputs: the lock output of a DOOR, a category 1 stop not yet complete (R361, R362). -/
def Hw.fnDrives (s : Hw) (b : List Byte) (f : Nat) : Bool :=
  let x := s.safFn f
  if fnType b f = ftDoor then
    s.inVal (fnIn b f 2) == vOn && decide (10 * fnT1 b f < (s.safIn (fnIn b f 2)).on) && s.inVal (fnIn b f 3) == vOn
  else x.permit || (fnType b f == ftEstop && fnFlag b f 0 && !x.stopped)

/-- Output `n` is to be energised (R358, R366, R370). -/
def Hw.outOn (s : Hw) (b : List Byte) (n : Nat) : Bool :=
  let fs := (fnsUsed b).filter fun f => bitOf (fnOuts b f) n
  !fs.isEmpty && fs.all (s.fnDrives b) && !s.flag SAF_STAT_SAFE_FAULT && !bitOf (s.get SAF_FAULT_OUT_FLT) n &&
    !bitOf (s.get SAF_FAULT_EDM) n && !s.saf.proof

/-- The island's results in its registers: outputs, permits, stop request, permissives (R361, R363, R364). -/
def safResults (s : Hw) : Hw :=
  let b := s.spbNow.getD []
  let on := if s.spbNow.isSome then maskOf ((List.range 4).filter (s.outOn b)) else 0
  let s := s.each ((List.range 4).filter fun n => bitOf on n != bitOf s.saf.outs n) fun n s =>
    s.onSaf fun c => { c with changed := smapSet 0 c.changed n c.evals }
  let s := s.onSaf fun c => { c with outs := on }
  let fault := s.flag SAF_STAT_SAFE_FAULT
  let demands := (fnsStop b).filter fun f => s.spbNow.isSome && !(s.safFn f).permit
  let stop := !demands.isEmpty || fault
  let s := s.put SAF_STAT_SO_ON on
  let s := s.put SAF_STAT_FN_PERMIT (if s.spbNow.isSome then maskOf ((fnsUsed b).filter fun f => (s.safFn f).permit) else 0)
  let s := s.putb SAF_STAT_STOP_REQ stop
  let s := s.putb SAF_STAT_STOP_CAT0 (fault || demands.any fun f => !fnFlag b f 0)
  let s := s.putb SAF_STAT_TWOHAND_OK (s.spbNow.isSome && !fault &&
    (fnsUsed b).any fun f => fnType b f == ftTwohand && fnFlag b f 2 && (s.safFn f).permit)
  s.putb SAF_STAT_DEBLOCK_PERM (s.spbNow.isSome && !stop && (fnsUsed b).all fun f => !fnFlag b f 1 || (s.safFn f).permit)

/-- An island fault latches (R367). -/
def safFault (f : Fld) (s : Hw) : Hw := (s.raise f).raise SAF_STAT_SAFE_FAULT

/-- SAFETY_EVALUATION: levels of the contacts (2n: A, 2n + 1: B), contacts that have moved since the last one outside the samples that R359 excludes, output channels (2n + c)
whose readback has disagreed for more than 50 us; whether X and Y disagree; whether the oscillator is out of its window. While an island fault
is latched no TP pad drives and every contact reads low; without a confirmed block every input reads OFF (R358). -/
def safEvaluate (levels moved readback : Nat) (apart osc : Bool) (s : Hw) : Hw :=
  if !s.saf.ready then s
  else
    let levels := if s.flag SAF_STAT_SAFE_FAULT then 0 else levels
    let s := s.onSaf fun c => { c with evals := c.evals + 1, apart := if apart then c.apart + 1 else 0 }
    let s := if s.saf.apart = 2 then safFault SAF_FAULT_XCOMP s else s
    let s := if osc then safFault SAF_FAULT_OSC s else s
    let s := if s.saf.apply then
        ((s.onSaf fun c => { c with apply := false, begun := c.evals, ins := [], fns := [] }).raise SAF_STAT_CONFIRMED).setReg SAF_IN 0#32
      else s
    let s := match s.spbNow with
      | none => s.setReg SAF_IN 0#32
      | some b =>
        let s := s.each (insUsed b) (inEval b levels moved)
        let s := s.each (fnsUsed b) (fnEval b)
        let bad := (List.range 4).filter fun n => bitOf readback (2 * n) || bitOf readback (2 * n + 1)
        s.each bad fun n s => s.raiseBit SAF_FAULT_OUT_FLT n
    safPend (safResults s)

/-! ### Timers and pulses -/

/-- A change by an event between evaluations. -/
def onIsland (g : List Byte → Hw → Hw) (s : Hw) : Hw :=
  match s.spbNow with
  | some b => safPend (safResults (g b s))
  | none => s

/-- DISCREPANCY_TIMEOUT: MIXED has lasted longer than DISC. -/
def discTimeout (i : Nat) : Hw → Hw := onIsland fun b s =>
  if i < 16 ∧ 10 * inDisc b i + 1 < (s.safIn i).mixed then (s.raiseBit SAF_INFLT_DISC_FLT i).put (valFld i) vFault else s

/-- STOP1_DELAY_END: a category 1 stop completes; its restart delay begins. -/
def stop1End (f : Nat) : Hw → Hw := onIsland fun b s =>
  let x := s.safFn f
  if f < 8 ∧ !x.permit ∧ !x.stopped ∧ 10 * fnT1 b f ≤ x.since then s.onSafFn f fun x => { x with stopped := true, since := 0 } else s

/-- REST_TIME_END of class SAFETY: the restart delay has ended; a pending reset is checked again and acts, or is dropped (R365). -/
def safRestEnd : Hw → Hw := onIsland fun b s =>
  s.each ((fnsStop b).filter fun f => (s.safFn f).reset && s.restartDue b f) fun f s =>
    if s.released b f then fnRestart f s
    else ((s.onSafFn f fun x => { x with reset := false }).raiseBit SYS_PEND_DROPPED 4).logInternal (0xF1000000 + 0x0C00) (2 ^ f) 0

/-- ENABLE_CANCEL of class SAFETY. -/
def safCancel (s : Hw) : Hw := safPend (s.each (List.range 8) fun f s => s.onSafFn f fun x => { x with reset := false })

/-- TP_TEST_PULSE of a source that drives: `high` names the contacts that read high throughout it. -/
def tpPulse (k high : Nat) : Hw → Hw := onIsland fun b s =>
  s.each ((insUsed b).filter fun i => !s.flag SAF_STAT_SAFE_FAULT && [0, 1].any fun c => inTp b i c == k && bitOf high (2 * i + c)) fun i s =>
    (s.raiseBit SAF_INFLT_TP_FLT i).put (valFld i) vFault

/-- OUTPUT_TEST_PULSE: a channel of an energised output goes off for OTP_W and on again. -/
def outPulse (n : Nat) (readsBack : Bool) : Hw → Hw := onIsland fun b s =>
  if n < 4 ∧ bitOf s.saf.outs n ∧ spbOtp b ≠ 0 ∧ !readsBack then s.raiseBit SAF_FAULT_OUT_FLT n else s

/-- EDM_TIMEOUT: the EDM input has not shown the state opposite to its output within EDM_T of a change. -/
def edmTimeout (n : Nat) : Hw → Hw := onIsland fun b s =>
  let i := edmIn b n
  let want := if bitOf s.saf.outs n then vOff else vOn
  if n < 4 ∧ i < 16 ∧ smapGet 0 s.saf.changed n ≠ 0 ∧ smapGet 0 s.saf.changed n + 10 * spbEdmT b ≤ s.saf.evals ∧ s.inVal i ≠ want then s.raiseBit SAF_FAULT_EDM n else s

/-- PROOF_DUE: another day since the last passed proof test. -/
def proofDay (s : Hw) : Hw :=
  let n := satInc 16 s.nv.proofAge
  let s := { s with nv := s.nv.onSaf fun r => { r with proofAge := n } }
  (s.put SAF_PROOF_PROOF_AGE n).putb SAF_STAT_PROOF_DUE (decide (365 < n))

/-- PROOF_TEST_COMPLETE. -/
def proofDone (pass : Bool) (s : Hw) : Hw :=
  if !s.saf.proof then s
  else
    let s := s.onSaf fun c => { c with proof := false }
    let s := if pass then
        (({ s with nv := s.nv.onSaf fun r => { r with proofAge := 0 } } : Hw).put SAF_PROOF_PROOF_AGE 0).put SAF_STAT_PROOF_DUE 0
      else safFault SAF_FAULT_PROOF_FAIL s
    (safResults s).finishKind .proofTest (if pass then .ok else .proofFailed)

/-- The levels of SOnA and SOnB, and of TPk; `none` high-impedance (R358). -/
def Hw.islandDrives (s : Hw) : Bool := s.spbNow.isSome && !s.flag SAF_STAT_SAFE_FAULT
def Hw.soPin (s : Hw) (n : Nat) : Option Bool := if s.islandDrives then some (bitOf s.saf.outs n) else none
def Hw.tpPin (s : Hw) (k : Nat) : Option Bool := if s.islandDrives then some (!s.tpPulsing (s.spbNow.getD []) 0 k) else none

/-! ### Commands (Table SAF-5) -/

/-- The island's registers. -/
def safRegs : List Nat := [SAF_STAT, SAF_CHECK, SAF_PCHECK, SAF_IN, SAF_INFLT, SAF_FAULT, SAF_PROOF]

/-- 0x0C00 SAFETY_STATUS_GET. -/
def execSafetyStatusGet (h : Hdr) (s : State) : Host.Outcome State Fault Refusal :=
  .next (s.onHw (hostCmd (Op.plain 0x0C00 .viewer) (.safetyStatusGet h) h fun s => answer s (regBytes s safRegs)))

/-- 0x0C01 SAFETY_PARAM_LOAD (R368, R369). -/
def execSafetyParamLoad (h : Hdr) (block : List Byte) (s : State) : Host.Outcome State Fault Refusal :=
  .next (s.onHw (hostCmd (Op.plain 0x0C01 .safetyOfficer) (.safetyParamLoad h block) h fun s =>
    checked s [(s.mode != mCommission, .modeNotAllowed), (decide (block.length ≠ 256), .length), (!spbOk block, .spbInvalid)]
      (let t := (s.onSaf fun c => { c with pend := some block, apply := false }).raise SAF_STAT_PEND_BLOCK
       let t := ((t.put SAF_PCHECK_PCHECK (spbCheck block)).put SAF_STAT_CONFIRMED 0).put SYS_MODE_SAFETY_UNCONF 1
       change (safPend (safResults t)) (cmdChg 0x0C01 (s.get SAF_PCHECK_PCHECK) (spbCheck block)))))

/-- 0x0C02 SAFETY_PARAM_READ. Of a confirmed copy that was never written nothing is known. -/
def execSafetyParamRead (h : Hdr) (copy : Nat) (s : State) : Host.Outcome State Fault Refusal :=
  .next (s.onHw (hostCmd (Op.plain 0x0C02 .viewer) (.safetyParamRead h copy) h fun s =>
    checked s [(decide (1 < copy), .range), (decide (copy = 1) && s.saf.pend.isNone, .noPendingBlock)]
      (if copy = 1 then answer s (s.saf.pend.getD [])
       else match s.saf.spb with
         | some b => answer s b
         | none => let (ws, t) := s.freshList 64; answer t (ws.flatMap fun w => leBytes 4 w.toNat))))

/-- 0x0C03 SAFETY_CONFIRM (R369). -/
def execSafetyConfirm (h : Hdr) (check : Nat) (s : State) : Host.Outcome State Fault Refusal :=
  .next (s.onHw (hostCmd (Op.plain 0x0C03 .safetyOfficer) (.safetyConfirm h check) h fun s =>
    checked s [(s.mode != mCommission, .modeNotAllowed), (s.saf.pend.isNone, .noPendingBlock),
      (check != s.get SAF_PCHECK_PCHECK, .checkMismatch)]
      (let t := s.onSaf fun c => { c with spb := c.pend, pend := none, apply := true }
       let t := { t with nv := t.nv.onSaf fun r => { r with spb := s.saf.pend } }
       let t := (((t.put SAF_STAT_PEND_BLOCK 0).put SAF_PCHECK_PCHECK 0).put SAF_CHECK_CHECK check).put SYS_MODE_SAFETY_UNCONF 0
       change t (cmdChg 0x0C03 (s.get SAF_CHECK_CHECK) check))))

/-- 0x0C04 SAFETY_PROOF_TEST (R370): in COMMISSION, BLOCKED or TRIPPED, or on a STANDBY. -/
def execSafetyProofTest (h : Hdr) (s : State) : Host.Outcome State Fault Refusal :=
  .next (s.onHw (hostCmd (Op.plain 0x0C04 .safetyOfficer) (.safetyProofTest h) h fun s =>
    checked s [(!s.modeIn [mCommission, mBlocked, mTripped] && !s.standby, .modeNotAllowed)]
      (changeWait (safResults (s.onSaf fun c => { c with proof := true })) (cmdChg 0x0C04 0 1) .proofTest)))

/-! ### Events -/

/-- SAFETY_EVALUATION. -/
def execSafetyEvaluation (levels moved readback : Nat) (apart osc : Bool) (s : State) : Host.Outcome State Fault Refusal :=
  .next (s.onHw (onRun (safEvaluate levels moved readback apart osc)))

/-- DISCREPANCY_TIMEOUT. -/
def execDiscrepancyTimeout (input : Nat) (s : State) : Host.Outcome State Fault Refusal := .next (s.onHw (onRun (discTimeout input)))

/-- STOP1_DELAY_END. -/
def execStop1DelayEnd (fn : Nat) (s : State) : Host.Outcome State Fault Refusal := .next (s.onHw (onRun (stop1End fn)))

/-- OUTPUT_TEST_PULSE: output, channel, whether the readback followed. -/
def execOutputTestPulse (out _chan : Nat) (readsBack : Bool) (s : State) : Host.Outcome State Fault Refusal :=
  .next (s.onHw (onRun (outPulse out readsBack)))

/-- EDM_TIMEOUT. -/
def execEdmTimeout (out : Nat) (s : State) : Host.Outcome State Fault Refusal := .next (s.onHw (onRun (edmTimeout out)))

/-- TP_TEST_PULSE. -/
def execTpTestPulse (source high : Nat) (s : State) : Host.Outcome State Fault Refusal := .next (s.onHw (onRun (tpPulse source high)))

/-- PROOF_DUE. -/
def execProofDue (s : State) : Host.Outcome State Fault Refusal := .next (s.onHw (onRun proofDay))

/-- PROOF_TEST_COMPLETE. -/
def execProofTestComplete (pass : Bool) (s : State) : Host.Outcome State Fault Refusal := .next (s.onHw (onRun (proofDone pass)))

end Sys2Proof.Machine
end

