-- ==== Sys2Proof/Machine/Sessions.lean ====
section
/-! DEFINITION. Sessions, the ports of the command interface and the System opcodes that carry them (R380 to R393, R401). -/

namespace Sys2Proof.Machine

/-! ### Opening (R381, R382) -/

/-- The role of a code of Table STO-7. -/
def roleOfCode : Nat → Option Role
  | 0 => some .viewer
  | 1 => some .operator
  | 2 => some .engineer
  | 3 => some .service
  | 4 => some .safetyOfficer
  | _ => none

/-- The key enrolled for a role; 32 zero bytes where none is (R411). -/
def Hw.roleKey (s : Hw) (r : Role) : BitVec 256 := smapGet 0#256 s.nv.roleKeys (roleCode r)

/-- Opens of a role are locked. -/
def Hw.authLocked (s : Hw) (r : Role) : Bool := (smapGet none s.cmd.lockedAt (roleCode r)).isSome

/-- Sessions open and identifiers pending that `p` picks by transport and role (R382). -/
def Hw.sessionCount (s : Hw) (p : Transport → Role → Bool) : Nat :=
  (s.cmd.sessions.filter fun x => p x.transport x.role).length + (s.cmd.pendingIds.filter fun x => p x.transport x.role).length

/-- One more session of a transport and role would exceed the limits of R382. -/
def Hw.sessionsFull (s : Hw) (t : Transport) (r : Role) : Bool :=
  decide (16 ≤ s.sessionCount fun _ _ => true) ||
    (decide (t = .spi) && decide (2 ≤ s.sessionCount fun t _ => decide (t = .spi))) ||
    (decide (r = .safetyOfficer) && decide (1 ≤ s.sessionCount fun _ r => decide (r = .safetyOfficer)))

/-- An identifier that nothing uses. -/
def Hw.idFree (s : Hw) (i : Nat) : Bool :=
  i != 0 && (s.cmd.sessions.all fun x => x.id != i) && (s.cmd.pendingIds.all fun x => x.id != i) &&
    (s.cmd.waiting.all fun w => w.hdr.session != i)

/-- A new identifier: the part's own choice among those not in use, never 0. -/
def newId (s : Hw) : Nat × Hw :=
  let (ws, s) := s.freshList 64
  (((ws.map BitVec.toNat ++ (List.range 256)).find? s.idFree).getD 0, s)

/-- Phase 1 of SESSION_OPEN: a pending identifier and a device nonce. -/
def openStart (h : Hdr) (r : Role) (options : Nat) (nonce : List Byte) (s : Hw) : Done :=
  let (i, s) := newId s
  let (ws, s) := s.freshList 4
  let nd := ws.flatMap fun w => leBytes 4 w.toNat
  let p : PendingId := { id := i, role := r, transport := h.transport, localPanel := bitOf options 0, hostNonce := nonce, devNonce := nd, tick := s.ticks }
  answer { s with cmd := { s.cmd with pendingIds := s.cmd.pendingIds ++ [p] } } (leBytes 4 i ++ nd)

/-- An AUTH_FAIL of a role: counted, and after 5 in a row the role is locked. -/
def authFail (r : Role) (s : Hw) : Hw :=
  let k := roleCode r
  let n := smapGet 0 s.cmd.authFails k + 1
  let s := (s.raise NET_STAT_AUTH_FAILED).bump NET_STAT_AUTH_CNT
  if n < 5 then { s with cmd := { s.cmd with authFails := smapSet 0 s.cmd.authFails k n } }
  else { s with cmd := { s.cmd with authFails := smapSet 0 s.cmd.authFails k 0
                                    lockedAt := smapSet none s.cmd.lockedAt k (some s.ticks) } }

/-- The proof of a phase 2 is good (R381). -/
def proofGood (p : PendingId) (proof : List Byte) (s : Hw) : Bool :=
  let k := s.roleKey p.role
  if k = 0#256 then
    (decide (p.transport = .pcie) || decide (p.transport = .spi)) && s.mode == mCommission && decide (p.role ≠ .safetyOfficer)
  else leNat proof == Config.kmac256 k (leBytes 4 p.id ++ p.hostNonce ++ p.devNonce) 256 "EC4608 OPEN"

/-- The session that an identifier becomes. -/
def newSession (p : PendingId) (s : Hw) : Session :=
  let k := BitVec.ofNat 256 (Config.kmac256 (s.roleKey p.role) (p.hostNonce ++ p.devNonce ++ leBytes 4 p.id) 256 "EC4608 SESSION")
  { id := p.id, role := p.role, transport := p.transport, localPanel := p.localPanel, key := k, last := none, recent := [], lastTick := s.ticks }

/-- `s` without a pending identifier. -/
def dropId (i : Nat) (s : Hw) : Hw := { s with cmd := { s.cmd with pendingIds := s.cmd.pendingIds.filter fun x => x.id != i } }

/-- Phase 2 of SESSION_OPEN: the identifier opens or is discarded. -/
def openEnd (h : Hdr) (proof : List Byte) (s : Hw) : Done :=
  match s.pendingId? h with
  | none => refuse s .sessionInvalid
  | some p =>
    let t := dropId p.id s
    if proof.length ≠ 32 then refuse t .length
    else if s.authLocked p.role then refuse t .authLocked
    else if p.tick + ticksPerSec < s.ticks ∨ !proofGood p proof s then refuse (authFail p.role t) .authFail
    else
      answer { t with cmd := { t.cmd with sessions := t.cmd.sessions ++ [newSession p s]
                                          authFails := smapSet 0 t.cmd.authFails (roleCode p.role) 0 } } []

/-! ### Closing (R382, R401) -/

/-- A session closes: its commands not yet started are discarded, and those executing are not answered. -/
def closeSession (i : Nat) (s : Hw) : Hw :=
  { s with cmd := { s.cmd with sessions := s.cmd.sessions.filter fun x => x.id != i
                               held := s.cmd.held.filter fun x => x.1 != i } }

/-- Every session of the UDP transport closes. -/
def closeUdp (s : Hw) : Hw := s.each ((s.cmd.sessions.filter fun x => decide (x.transport = .udp)).map (·.id)) closeSession

/-- What a command's change of the management address entails (R382). -/
def addressChange (old s : Hw) : Hw := if old.reg NET_IP = s.reg NET_IP then s else closeUdp s

/-- SESSION_IDLE_EXPIRY: SESSION_IDLE seconds with no accepted command, and none executing. -/
def idleExpiry (i : Nat) (s : Hw) : Hw :=
  match s.cmd.sessions.find? fun x => x.id == i with
  | some x => if x.lastTick + s.get NET_CTRL_SESSION_IDLE * ticksPerSec ≤ s.ticks ∧ !heldSession s i then closeSession i s else s
  | none => s

/-- PENDING_ID_EXPIRY: 10 s without a phase 2. -/
def pendingExpiry (i : Nat) (s : Hw) : Hw :=
  match s.cmd.pendingIds.find? fun x => x.id == i with
  | some p => if p.tick + 10 * ticksPerSec ≤ s.ticks then dropId i s else s
  | none => s

/-- AUTH_LOCK_END: 60 s after a role was locked. -/
def lockEnd (k : Nat) (s : Hw) : Hw :=
  match smapGet none s.cmd.lockedAt k with
  | some t => if t + 60 * ticksPerSec ≤ s.ticks then { s with cmd := { s.cmd with lockedAt := smapSet none s.cmd.lockedAt k none } } else s
  | none => s

/-! ### The mailbox (R389) and the host SPI port (R392) -/

/-- A doorbell: the packet of a free slot is taken in, any other doorbell is counted. -/
def doorbell (slot : Nat) (s : Hw) : Hw :=
  if bitOf (s.get MB_FREE_FREE) (slot % 8) then s.clearBit MB_FREE_FREE (slot % 8) else s.bump MB_ERR_DB_ERR

/-- A slot pair whose reply stands is released. -/
def slotRelease (slot : Nat) (s : Hw) : Hw :=
  if bitOf (s.get MB_READY_READY) slot then
    let s := (s.clearBit MB_READY_READY slot).raiseBit MB_FREE_FREE slot
    { s with cmd := { s.cmd with mbReplies := smapSet none s.cmd.mbReplies slot none } }
  else s

/-- CRC-32C in reflected form (R376). -/
def crc32cStep (c b : Nat) : Nat :=
  (List.range 8).foldl (fun c _ => if c % 2 = 1 then (c / 2).xor 0x82F63B78 else c / 2) (c.xor b)
def crc32c (bs : List Byte) : Nat := (bs.foldl (fun c b => crc32cStep c b.toNat) 0xFFFFFFFF).xor 0xFFFFFFFF

/-- A reply's header and results (Table CMD-1, R378). -/
def Reply.body (r : Reply) : List Byte :=
  leBytes 1 0xEC ++ leBytes 1 1 ++ leBytes 2 r.opcode ++ leBytes 2 r.seq ++ leBytes 2 0x8000 ++ leBytes 4 r.session ++
    leBytes 4 (2 + r.data.length) ++ leBytes 2 (statusCode r.status) ++ r.data

/-- A reply packet with its trailer (R375 to R377). -/
def Reply.packet (r : Reply) : List Byte :=
  r.body ++ match r.transport with
  | .udp => leBytes 16 (Config.kmac256 r.key r.body 128 "EC4608 PKT")
  | _ => leBytes 4 (crc32c r.body)

/-- `s` with its SPI port changed. -/
def Hw.onSpi (s : Hw) (f : SpiPort → SpiPort) : Hw := { s with cmd := { s.cmd with spi := f s.cmd.spi } }

/-- The bytes of the reply that the SPI port holds. -/
def SpiPort.replyBytes (p : SpiPort) : List Byte := match p.reply with | some r => r.packet | none => []

/-- The header of a packet's bytes, by Table CMD-1 (R374), as it arrives on the host SPI port with its CRC-32C (R375, R376); the opcode
beside it. None where SYNC is not 0xEC or the bytes do not make a packet. -/
def parsePacket (bs : List Byte) : Option (Nat × Hdr) :=
  let f := fun (o n : Nat) => leNat ((bs.drop o).take n)
  if bs.length < 20 ∨ f 0 1 ≠ 0xEC ∨ bs.length ≠ 20 + f 12 4 then none
  else
    some (f 2 2, { transport := .spi, port := 0, version := f 1 1, flags := f 6 2, seq := f 4 2, session := f 8 4, length := f 12 4,
                   checkOk := f (bs.length - 4) 4 == crc32c (bs.take (bs.length - 4)) })

/-- A packet whose opcode no row defines: answered with the first of steps 1 to 6 that fails (R379). -/
def unknownOp (code : Nat) (h : Hdr) (s : Hw) : Hw :=
  match gate { code := code, role := none } s h with
  | .fail st => s.deliver (mkReply s h code st [])
  | .again (some r) => s.deliver { r with port := h.port }
  | _ => s

/-- WRITE_PACKET: the rise of HSPI_CS_N submits a packet; written while RDY = 0 it is discarded. A packet with a defined opcode acts as
the command that it carries, which follows as a row of its own; one with an undefined opcode is answered here. -/
def spiWrite (bytes : List Byte) (s : Hw) : Hw :=
  if !s.flag NET_CTRL_SPI_EN then s
  else if !s.cmd.spi.ready then s.onSpi fun p => { p with ovf := true }
  else
    let s := s.onSpi fun p => { p with rx := bytes, ready := false }
    match parsePacket bytes with
    | some (code, h) => if opDefined code then s else unknownOp code h s
    | none => s

/-- READ_STATUS: the status byte and the reply length go out, and OVF clears. -/
def spiStatus (s : Hw) : Hw :=
  if !s.flag NET_CTRL_SPI_EN then s
  else s.onSpi fun p =>
    let st := (if p.ready then 128 else 0) + (if p.reply.isSome then 64 else 0) + (if p.ovf then 32 else 0)
    { p with ovf := false, sent := leBytes 1 st ++ leBytes 4 p.replyBytes.length }

/-- READ_REPLY: `count` reply bytes go out; a complete read clears REPLY. -/
def spiRead (count : Nat) (s : Hw) : Hw :=
  if !s.flag NET_CTRL_SPI_EN then s
  else s.onSpi fun p =>
    { p with sent := p.replyBytes.take count, reply := if p.replyBytes.length ≤ count then none else p.reply }

/-- A packet that is not answered: counted, and its port is free again (R379, R393). A port that is off takes no packet. -/
def discardPacket (t : Transport) (tagFailed : Bool) (s : Hw) : Hw :=
  if !s.transportOn t then s else
  let s := s.countDiscard (tagFailed && decide (t = .udp))
  if t = .spi then s.onSpi fun p => { p with ready := true } else s

/-! ### Commands (Table CMD-9) -/

/-- The straps byte of SYS_IDENT. -/
def Hw.strapByte (s : Hw) : Nat := (if s.strapTwinB then 1 else 0) + (if s.strapReeve then 2 else 0) + s.strapRef % 4 * 4

/-- 0x0000 SYS_IDENT. -/
def execSysIdent (h : Hdr) (s : State) : Host.Outcome State Fault Refusal :=
  .next (s.onHw (hostCmd { code := 0x0000, role := some .viewer, params := some 0, noSession := true } (.sysIdent h) h fun s =>
    answer s (regBytes s [SYS_DEVID] ++ leBytes 4 s.sto.fwVersion ++ leBytes 32 s.fwDigest ++ leBytes 16 s.cfgCheck ++
      regBytes s [SAF_CHECK] ++ leBytes 1 s.strapByte ++ leBytes 8 Config.serial.toNat)))

/-- 0x0001 SESSION_OPEN, phase 1 (R381). -/
def execSessionOpen (h : Hdr) (role options : Nat) (nonce : List Byte) (s : State) : Host.Outcome State Fault Refusal :=
  .next (s.onHw (hostCmd { code := 0x0001, role := none, params := some 18, noSession := true } (.sessionOpen h role options nonce) h fun s =>
    match roleOfCode role with
    | none => refuse s .range
    | some r =>
      checked s [(decide (nonce.length ≠ 16), .length), (s.authLocked r, .authLocked), (s.sessionsFull h.transport r, .sessionLimit),
        (bitOf options 0 && decide (h.transport ≠ .spi), .transport)]
        (openStart h r options nonce s)))

/-- 0x0001 SESSION_OPEN, phase 2. -/
def execSessionOpenProof (h : Hdr) (proof : List Byte) (s : State) : Host.Outcome State Fault Refusal :=
  .next (s.onHw (hostCmd { code := 0x0001, role := none, params := some 32, pendingId := true } (.sessionOpenProof h proof) h (openEnd h proof)))

/-- The row of SESSION_CLOSE: exempt from the outstanding limit, and it does not wait its turn. -/
def closeOp : Op := { code := 0x0002, role := some .viewer, params := some 0, closes := true }

/-- 0x0002 SESSION_CLOSE: answered, then the session closes (R401). -/
def execSessionClose (h : Hdr) (s : State) : Host.Outcome State Fault Refusal :=
  .next (s.onHw fun s =>
    let t := hostCmd closeOp (.sessionClose h) h (fun s => answer s []) s
    if !s.inReset && decide (gate closeOp s h = .accept) && !closeOp.sizeBad h then closeSession h.session t else t)

/-- 0x0003 SYS_STATUS_GET. -/
def execSysStatusGet (h : Hdr) (s : State) : Host.Outcome State Fault Refusal :=
  .next (s.onHw (hostCmd (Op.plain 0x0003 .viewer) (.sysStatusGet h) h fun s =>
    answer s (regBytes s [SYS_MODE, SYS_TISTAT, SYS_TRIPCAUSE, SYS_TICKNUM, ALM_STAT] ++ leBytes 4 s.cmd.sessions.length)))

/-- 0x0004 SYS_RESET: answered; SOFT_RESET follows within 10 ms. -/
def execSysReset (h : Hdr) (s : State) : Host.Outcome State Fault Refusal :=
  .next (s.onHw (hostCmd (Op.plain 0x0004 .service) (.sysReset h) h fun s =>
    checked s [(!s.standby && !s.modeIn [mCommission, mBlocked, mTripped], .modeNotAllowed)]
      (change { s with cmd := { s.cmd with resetPending := true } } (cmdChg 0x0004 0 1))))

/-- NET_CTRL out of range. -/
def netCtrlBad (t : Hw) : Bool := outside 10 3600 (t.get NET_CTRL_SESSION_IDLE)

/-- 0x0005 NET_CFG_SET: the reply leaves before the change of the address closes the UDP sessions. -/
def execNetCfgSet (h : Hdr) (ctrl ip mask gw : Nat) (s : State) : Host.Outcome State Fault Refusal :=
  .next (s.onHw fun s => addressChange s (hostCmd (Op.plain 0x0005 .engineer) (.netCfgSet h ctrl ip mask gw) h (fun s =>
    let t := (((s.setWord NET_CTRL ctrl).setWord NET_IP ip).setWord NET_MASK mask).setWord NET_GW gw
    checked s [(netCtrlBad t, .range)] (change t (regChgs s t [NET_CTRL, NET_IP, NET_MASK, NET_GW]))) s))

/-! ### Ports and timers -/

/-- PACKET_DISCARD. -/
def execPacketDiscard (transport : Transport) (tagFailed : Bool) (s : State) : Host.Outcome State Fault Refusal :=
  .next (s.onHw (onRun (discardPacket transport tagFailed)))

/-- MB_DB. -/
def execMbDb (slot : Nat) (s : State) : Host.Outcome State Fault Refusal := .next (s.onHw (onRun (doorbell slot)))

/-- MB_READY_RELEASE: a write of 1 to the bits of a mask. -/
def execMbReadyRelease (mask : Nat) (s : State) : Host.Outcome State Fault Refusal :=
  .next (s.onHw (onRun fun s => s.each (bitsOf 8 mask) slotRelease))

/-- WRITE_PACKET. -/
def execWritePacket (bytes : List Byte) (s : State) : Host.Outcome State Fault Refusal := .next (s.onHw (onRun (spiWrite bytes)))

/-- READ_STATUS. -/
def execReadStatus (s : State) : Host.Outcome State Fault Refusal := .next (s.onHw (onRun spiStatus))

/-- READ_REPLY. -/
def execReadReply (count : Nat) (s : State) : Host.Outcome State Fault Refusal := .next (s.onHw (onRun (spiRead count)))

/-- SESSION_IDLE_EXPIRY. -/
def execSessionIdleExpiry (session : Nat) (s : State) : Host.Outcome State Fault Refusal := .next (s.onHw (onRun (idleExpiry session)))

/-- PENDING_ID_EXPIRY. -/
def execPendingIdExpiry (ident : Nat) (s : State) : Host.Outcome State Fault Refusal := .next (s.onHw (onRun (pendingExpiry ident)))

/-- AUTH_LOCK_END. -/
def execAuthLockEnd (role : Nat) (s : State) : Host.Outcome State Fault Refusal := .next (s.onHw (onRun (lockEnd role)))

end Sys2Proof.Machine
end

