-- ==== Sys2Proof/Machine/Network.lean ====
section
/-! DEFINITION. Sampled values, GOOSE, frames handed to the station ports, the receive ring and telemetry (R311, R318, R390 to R397). -/

namespace Sys2Proof.Machine

/-- `s` with its network state changed. -/
def Hw.onNet (s : Hw) (f : NetSt → NetSt) : Hw := { s with net := f s.net }

/-! ### Areas of the Exchange RAM -/

/-- First word of stream `n`'s area (Table CMD-10) and of subscription `g`'s (Table CMD-11). -/
def svArea (n : Nat) : Nat := 0x200 + 32 * n
def gooseArea (g : Nat) : Nat := 0x400 + 32 * g

/-- `m` with words put upwards from `w`. -/
def putWords (m : SMap Nat) (w : Nat) : List Nat → SMap Nat
  | [] => m
  | v :: vs => putWords (smapSet 0 m w (v % 65536)) (w + 1) vs

/-- Words that arrive from the network: read from the input release of the tick to which they belong (R17). -/
def Hw.arrive (s : Hw) (w : Nat) (vs : List Nat) : Hw := { s with xarr := putWords s.xarr w vs }

/-- An area reads as zero from now on. -/
def areaZero (w : Nat) (s : Hw) : Hw :=
  let z := List.replicate 32 0
  { s with xarr := putWords s.xarr w z, xin := putWords s.xin w z, xram := putWords s.xram w z }

/-- A signed 32-bit value as two words, the low one first. -/
def words32 (v : Int) : List Nat := [unsigned 32 v % 65536, unsigned 32 v / 65536]

/-! ### Sampled values (R318, R395) -/

/-- The configured rate r. -/
def svRate : Nat → Nat
  | 0 => 4000
  | 1 => 4800
  | 2 => 12800
  | _ => 14400

/-- The registers of a stream. -/
def svRegs (n : Nat) : List Nat := [NET_SVs_CFG n, NET_SVs_ADDR n, NET_SVs_CONFREV n, NET_SVs_SEL n]

/-- Units of 2^-32 ns in a second. -/
def unitsPerSec : Nat := nsPerSec * 2 ^ 32

/-- The second of a sample's nominal instant: that of the stamp, or the one before it where the instant would lie after the stamp. -/
def svSecond (units smpCnt r : Nat) : Int :=
  let sec := units / unitsPerSec
  if smpCnt * unitsPerSec ≤ units % unitsPerSec * r then sec else (sec : Int) - 1

/-- A sample's age times r, in 2^-32 ns. -/
def svAge (units smpCnt r : Nat) (sec : Int) : Int := ((units : Int) - sec * (unitsPerSec : Int)) * r - (smpCnt * unitsPerSec : Nat)

/-- The sample dated (sec, smpCnt) is more than 4 periods old at `units`. -/
def svOld (units r : Nat) (x : Nat × Nat) : Bool := decide (((4 * unitsPerSec : Nat) : Int) < svAge units x.2 r x.1)

/-- A dated instant is no earlier than another. -/
def svLater (x y : Nat × Nat) : Bool := decide (y.1 < x.1) || (x.1 == y.1 && decide (y.2 ≤ x.2))

/-- A usable sample enters its stream's area (Table CMD-10). -/
def svWrite (n units : Nat) (sim : Bool) (a : SvAsdu) (sec : Nat) (s : Hw) : Hw :=
  let r := svRate (s.liveGet (NET_SVs_CFG_RATE n))
  let sel := (s.liveReg (NET_SVs_SEL n)).toNat
  let x := smapGet {} s.net.sv n
  let newest := match x.newest with | some y => if svLater (sec, a.smpCnt) y then (sec, a.smpCnt) else y | none => (sec, a.smpCnt)
  let (fs, s) := s.freshList 8
  let ent := (List.range 8).map fun k => a.entries.getD (sel / 16 ^ k % 16) ((fs.getD k 0).toInt, (fs.getD k 0).toNat)
  let q := ((List.range 8).map fun k => (ent.getD k (0, 0)).2 % 4 * 4 ^ k).sum
  let us := roundFree (svAge units a.smpCnt r sec) ((r * 1000 * 2 ^ 32 : Nat) : Int)
  let flags := (if svOld units r newest then 0 else 1) + (if sim then 2 else 0) + (if q = 0 then 0 else 4) + (if a.smpSynch = 0 then 0 else 8)
  let s := s.onNet fun t => { t with sv := smapSet {} t.sv n { x with newest := some newest } }
  s.arrive (svArea n) ([a.smpCnt, (min us 65535).toNat, flags, 0] ++ (ent.flatMap fun e => words32 e.1) ++ [q])

/-- A stream takes an ASDU that it has not seen: dated, judged, used (R318). -/
def svJudge (n units : Nat) (sim : Bool) (a : SvAsdu) (s : Hw) : Hw :=
  let r := svRate (s.liveGet (NET_SVs_CFG_RATE n))
  if r ≤ a.smpCnt then s.raise ALM_STAT_SV_BAD
  else
    let sec := svSecond units a.smpCnt r
    let x := smapGet {} s.net.sv n
    let key := (sec.toNat, a.smpCnt)
    if sec < 0 ∨ x.seen.contains key then s
    else
      let s := s.onNet fun t => { t with sv := smapSet {} t.sv n { x with seen := (key :: x.seen).take 14400 } }
      let late := decide (((s.get ALM_CTRL_SV_AGE_MAX * 1000 * 2 ^ 32 * r : Nat) : Int) < svAge units a.smpCnt r sec)
      let s := if late then s.raise ALM_STAT_SV_LATE else s
      if late ∨ a.smpSynch = 0 ∨ (a.smpSynch = 1 ∧ !s.flag ALM_CTRL_SMPSYNCH_LOCAL) then s
      else svWrite n units sim a sec.toNat s

/-- The frame matches stream `n` (R395); its ASDU, if it does. -/
def svMatch (s : Hw) (n : Nat) (f : SvFrame) : Option SvAsdu :=
  if s.liveFlag (NET_SVs_CFG_EN n) && f.dest == 0x010CCD040000 + s.liveGet (NET_SVs_ADDR_MAC_LO n) &&
      f.appid == s.liveGet (NET_SVs_CFG_APPID n) && (!f.sim || s.liveFlag (NET_SVs_CFG_SIM_ACCEPT n)) then
    match f.asdus[s.liveGet (NET_SVs_CFG_ASDU n)]? with
    | some a =>
      let c := s.liveGet (NET_SVs_CONFREV_CONFREV n)
      if c = 0 ∨ c = a.confRev then some a else none
    | none => none
  else none

/-- SV_FRAME_RECEIVE on station port `p`. -/
def svReceive (p cyc : Nat) (dev : Int) (f : SvFrame) (s : Hw) : Hw :=
  let s := s.atEvent cyc
  let units := s.stampAt cyc dev (-(s.get (ALM_PORTp_LAT_INGRESS p) : Int))
  s.each (List.range 16) fun n s => match svMatch s n f with | some a => svJudge n units f.sim a s | none => s

/-- The words of an area as they stand for the coming tick. -/
def Hw.areaFlags (s : Hw) (w : Nat) : Nat := smapGet 0 s.xarr w

/-- SV_STALE: the newest sample of a stream is more than 4 periods old. -/
def svStale (n : Nat) (s : Hw) : Hw :=
  let t := s.timeNow
  let units := (t.1 * nsPerSec + t.2.1) * 2 ^ 32 + t.2.2
  let w := svArea n + 2
  match (smapGet {} s.net.sv n).newest with
  | some x => if svOld units (svRate (s.liveGet (NET_SVs_CFG_RATE n))) x then s.arrive w [bitClear (s.areaFlags w) 0] else s
  | none => s

/-! ### GOOSE (R396) -/

/-- The registers of a subscription that are configuration. -/
def gooseRegs (g : Nat) : List Nat := [NET_GOg_CFG g, NET_GOg_ADDR g, NET_GOg_CONFREV g]

/-- A dataset entry as it is stored. -/
def gooseStored : GooseVal → Int
  | .bool b => if b then 1 else 0
  | .dbpos v => (v % 4 : Nat)
  | .int32 v => v
  | .other => 0

/-- The message matches subscription `g`. -/
def gooseMatch (s : Hw) (g : Nat) (m : GooseMsg) : Bool :=
  let c := s.liveGet (NET_GOg_CONFREV_CONFREV g)
  s.liveFlag (NET_GOg_CFG_EN g) && m.dest == 0x010CCD010000 + s.liveGet (NET_GOg_ADDR_MAC_LO g) &&
    m.appid == s.liveGet (NET_GOg_CFG_APPID g) && (c == 0 || c == m.confRev) && (!m.test || s.liveFlag (NET_GOg_CFG_TEST_ACCEPT g))

/-- Subscription `g` takes a message (Table CMD-11). -/
def gooseTake (g : Nat) (m : GooseMsg) (s : Hw) : Hw :=
  let x := smapGet {} s.net.goose g
  if x.last = some (m.stNum, m.sqNum) then s
  else
    let new := decide (x.last.map (·.1) ≠ some m.stNum) || bitOf (s.areaFlags (gooseArea g)) 2
    let es := m.entries.take 14
    let flags := 1 + (if m.test then 2 else 0) + (if new then 4 else 0) + (if es.contains .other then 8 else 0)
    let y : GooseSt := ⟨some (m.stNum, m.sqNum), s.cycles, m.ttl⟩
    let s := s.onNet fun t => { t with goose := smapSet {} t.goose g y }
    let s := s.arrive (gooseArea g) ([flags, m.stNum, m.sqNum, 0] ++ es.flatMap fun e => words32 (gooseStored e))
    (s.put (NET_GOg_STAT_VALID g) 1).put (NET_GOg_STAT_STNUM g) (m.stNum % 65536)

/-- GOOSE_MESSAGE_RECEIVE. -/
def gooseReceive (m : GooseMsg) (s : Hw) : Hw := s.each (List.range 32) fun g s => if gooseMatch s g m then gooseTake g m s else s

/-- The entries of subscription `g` follow LOSS while VALID = 0. -/
def gooseLoss (g : Nat) (s : Hw) : Hw :=
  let loss := s.liveGet (NET_GOg_CFG_LOSS g)
  if loss = 1 ∨ loss = 2 then s.arrive (gooseArea g + 4) ((List.range 14).flatMap fun _ => words32 (if loss = 2 then 1 else 0)) else s

/-- A start: no subscription in force has a message yet, so VALID = 0 and LOSS rules. -/
def gooseBoot (s : Hw) : Hw := s.each ((List.range 32).filter fun g => s.liveFlag (NET_GOg_CFG_EN g)) gooseLoss

/-- GOOSE_TTL_EXPIRY: no message within timeAllowedToLive of the last one. -/
def gooseExpiry (g : Nat) (s : Hw) : Hw :=
  let x := smapGet {} s.net.goose g
  if s.flag (NET_GOg_STAT_VALID g) && decide (x.at_ + x.ttl * 256000 ≤ s.cycles) then
    let s := s.put (NET_GOg_STAT_VALID g) 0
    gooseLoss g (s.arrive (gooseArea g) [bitClear (s.areaFlags (gooseArea g)) 0])
  else s

/-- The cause GOOSE in the tick that begins, from the inputs latched for it. -/
def gooseTick (s : Hw) : Hw :=
  let act := (List.range 32).filter fun g =>
    s.liveFlag (NET_GOg_CFG_EN g) && s.liveFlag (NET_GOg_CFG_TRIP_EN g) &&
      (let w := gooseArea g + 4 + 2 * s.liveGet (NET_GOg_CFG_TRIP_ENTRY g)
       smapGet 0 s.xin w != 0 || smapGet 0 s.xin (w + 1) != 0)
  let s := s.each (List.range 32) fun g s => s.putb (NET_GOg_STAT_TRIP_ACT g) (act.contains g)
  let s := s.causeActive cGoose (!act.isEmpty)
  if act.isEmpty then s else s.tripNow cGoose

/-- stNum counts as changed in one tick only: its flag is withdrawn from what the tick after the coming one is to read. -/
def gooseClear (s : Hw) : Hw :=
  s.each ((List.range 32).filter fun g => bitOf (s.areaFlags (gooseArea g)) 2) fun g s =>
    s.arrive (gooseArea g) [bitClear (s.areaFlags (gooseArea g)) 2]

/-- A frame boundary: a changed configuration comes into force, and its area reads as zero until its first sample or message (R397). -/
def netSubFrame (s : Hw) : Hw :=
  let new := fun (s : Hw) (as : List Nat) => as.any fun a => decide (s.reg a ≠ s.liveReg a)
  let s := s.each ((List.range 16).filter fun n => new s (svRegs n)) fun n s =>
    areaZero (svArea n) ((s.latch (svRegs n)).onNet fun t => { t with sv := smapSet {} t.sv n {} })
  s.each ((List.range 32).filter fun g => new s (gooseRegs g)) fun g s =>
    let s := areaZero (gooseArea g) ((s.latch (gooseRegs g)).onNet fun t => { t with goose := smapSet {} t.goose g {} })
    s.setReg (NET_GOg_STAT g) (regReset (NET_GOg_STAT g))

/-! ### Telemetry (R390) -/

/-- Bytes of a record. -/
def Telem.size (t : Telem) : Nat := (16 + 2 * t.words.length + 15) / 16 * 16

/-- Records per second, times the decimation. -/
def Telem.perSec (t : Telem) : Nat := if t.rate = 0 then ticksPerSec else if t.rate = 1 then 31250 else 1000

/-- Its decimation: that of TICK. -/
def Telem.by_ (t : Telem) : Nat := if t.rate = 0 then t.decim else 1

/-- A configuration out of range. -/
def Telem.bad (t : Telem) : Bool :=
  decide (t.base % 4096 ≠ 0) || outside 16 (2 ^ 24) t.count || decide (2 < t.rate) || (t.rate == 0 && outside 1 65535 t.decim) ||
    decide (256 < t.words.length) || (t.words.any fun w => decide (23 < w.1) || decide (8191 < w.2)) ||
    decide (250000000 * t.by_ < t.size * t.perSec)

/-- The frame release of a tick that the telemetry samples: bytes 0 to 7 of its record, and its words. -/
def telemRelease (s : Hw) : Hw :=
  match s.net.telem with
  | none => s
  | some t =>
    let due := if t.rate = 0 then (s.ticks - s.net.telStart) % t.decim == 0 else if t.rate = 1 then s.frameStart else s.time.firstOfSlow
    if !due then s
    else
      let flags := (if s.tiSoFar then 1 else 0) + (if s.time.tickStep then 2 else 0)
      let x := leBytes 4 (s.view SYS_TICKNUM).toNat ++ leBytes 2 t.words.length ++ leBytes 1 t.rate ++ leBytes 1 flags ++
        t.words.flatMap fun w => leBytes 2 (s.xrBits (outArea w.1 + w.2))
      s.onNet fun n => { n with telDue := n.telDue ++ [x] }

/-- TELEMETRY_RECORD: the oldest record due is written, or dropped for want of room. `rd` is TL_RD as the host has written it. -/
def telemRecord (rd : Nat) (s : Hw) : Hw :=
  let s := s.put TL_RD_RD rd
  match s.net.telem, s.net.telDue with
  | some t, x :: xs =>
    let s := s.onNet fun n => { n with telDue := xs }
    let wr := s.get TL_WR_WR
    if (wr + 1) % t.count = s.get TL_RD_RD then s.bump TL_DROP_DROP
    else
      let bytes := x.take 8 ++ leBytes 4 s.net.telSeq ++ leBytes 4 (s.get TL_DROP_DROP) ++ x.drop 8
      let bytes := bytes ++ List.replicate (t.size - bytes.length) 0
      let seq := s.net.telSeq + 1
      let s := s.onNet fun n => { n with telLast := some (t.base + wr * t.size, bytes), telSeq := seq }
      let s := s.put TL_WR_WR ((wr + 1) % t.count)
      if seq % 64 = 0 then s.msixRaise 1 else s
  | _, _ => s

/-- A frame boundary: the old stream ends and the new one starts (R401). -/
def telemFrame (s : Hw) : Hw :=
  match s.net.telemNext with
  | none => s
  | some t =>
    let s := s.onNet fun n => { n with telem := t, telemNext := none, telStart := s.ticks, telSeq := 0, telDue := [] }
    s.put TL_WR_WR 0

/-! ### Register writes -/

/-- A stream's or a subscription's words out of range. -/
def gooseBad (t : Hw) (g : Nat) : Bool := decide (13 < t.get (NET_GOg_CFG_TRIP_ENTRY g)) || t.get (NET_GOg_CFG_LOSS g) == 3

/-- Writes in the network window. -/
def netWrite (s : Hw) (w : Wr) : Judged :=
  let t := s.writeAs w
  if w.addr = NET_CTRL then judge [(netCtrlBad t, .range)] t
  else if w.addr = NET_STAT then
    let t := if w.was NET_STAT_AUTH_FAILED = 1 ∧ w.val NET_STAT_AUTH_FAILED = 0 then t.put NET_STAT_AUTH_CNT 0 else t
    .ok (if w.was NET_STAT_PKT_BAD = 1 ∧ w.val NET_STAT_PKT_BAD = 0 then t.put NET_STAT_BAD_CNT 0 else t)
  else if w.addr < NET_SVs_CFG 0 ∨ w.mask = 0 then .ok t
  else judge [(!s.cfgMode, .modeNotAllowed), (decide (NET_GOg_CFG 0 ≤ w.addr) && gooseBad t ((w.addr - NET_GOg_CFG 0) / 16), .range)] t

/-! ### Commands (Table CMD-9) -/

/-- 0x0006 SV_SUB_SET. -/
def execSvSubSet (h : Hdr) (stream cfg addr confrev sel : Nat) (s : State) : Host.Outcome State Fault Refusal :=
  .next (s.onHw (hostCmd (Op.plain 0x0006 .engineer) (.svSubSet h stream cfg addr confrev sel) h fun s =>
    let t := (((s.setWord (NET_SVs_CFG stream) cfg).setWord (NET_SVs_ADDR stream) addr).setWord (NET_SVs_CONFREV stream) confrev).setWord
      (NET_SVs_SEL stream) sel
    checked s [(!s.cfgMode, .modeNotAllowed), (decide (15 < stream), .range)] (change t (regChgs s t (svRegs stream)))))

/-- 0x0007 GOOSE_SUB_SET. -/
def execGooseSubSet (h : Hdr) (sub cfg addr confrev : Nat) (s : State) : Host.Outcome State Fault Refusal :=
  .next (s.onHw (hostCmd (Op.plain 0x0007 .engineer) (.gooseSubSet h sub cfg addr confrev) h fun s =>
    let t := ((s.setWord (NET_GOg_CFG sub) cfg).setWord (NET_GOg_ADDR sub) addr).setWord (NET_GOg_CONFREV sub) confrev
    checked s [(!s.cfgMode, .modeNotAllowed), (decide (31 < sub) || gooseBad t sub, .range)] (change t (regChgs s t (gooseRegs sub)))))

/-- 0x0008 NET_STATUS_GET. -/
def execNetStatusGet (h : Hdr) (s : State) : Host.Outcome State Fault Refusal :=
  .next (s.onHw (hostCmd (Op.plain 0x0008 .viewer) (.netStatusGet h) h fun s =>
    answer s (regBytes s [NET_STAT] ++ ((List.range 16).flatMap fun n => leBytes 4 (s.xrBits (svArea n + 2))) ++
      regBytes s ((List.range 32).map NET_GOg_STAT))))

/-- A PRP trailer for LAN A (0) or B (1). -/
def prpTrailer (seq lan : Nat) (frame : List Byte) : List Byte :=
  beBytes 2 seq ++ beBytes 2 ((10 + lan) * 4096 + (frame.length - (etherOfs frame + 2) + 6) % 4096) ++ beBytes 2 0x88FB

/-- A frame handed to its ports (R311). The ingress time is 48 bits of seconds, then 32 of nanoseconds. -/
def frameHand (h : Hdr) (port request ingress : Nat) (frame : List Byte) (s : Hw) : Hw :=
  let put := fun (p : Nat) (b : List Byte) (s : Hw) =>
    let f : TxFrame := ⟨b, request, ingress % 2 ^ 48, ingress / 2 ^ 48, h⟩
    s.onNet fun t => { t with tx := smapSet [] t.tx p (smapGet [] t.tx p ++ [f]) }
  if port < 2 then put port frame s
  else
    let q := s.net.prp
    (put 1 (frame ++ prpTrailer q 1 frame) (put 0 (frame ++ prpTrailer q 0 frame) s)).onNet fun t => { t with prp := (q + 1) % 2 ^ 16 }

/-- 0x0009 NET_FRAME_SEND: answered once the frame has been handed over. -/
def execNetFrameSend (h : Hdr) (port request ingress : Nat) (frame : List Byte) (s : State) : Host.Outcome State Fault Refusal :=
  .next (s.onHw (hostCmd { code := 0x0009, role := some .engineer, params := some (12 + frame.length), pcieOnly := true } (.netFrameSend h port request ingress frame) h fun s =>
    checked s [(s.flag ALM_CTRL_PTP_FW_EN && (ptpAt frame).isSome, .modeNotAllowed),
      (decide (2 < port) || decide (2 < request) || outside 14 1514 frame.length, .range)]
      (changeWait (frameHand h port request ingress frame s) [] .frameSend)))

/-- Powers of two. -/
def isPow2 (n : Nat) : Bool := (List.range 32).any fun k => n == 2 ^ k

/-- 0x000A NET_RX_CFG (R391). -/
def execNetRxCfg (h : Hdr) (base count : Nat) (ethertypes : List Nat) (s : State) : Host.Outcome State Fault Refusal :=
  .next (s.onHw (hostCmd { code := 0x000A, role := some .engineer, params := some 18, pcieOnly := true } (.netRxCfg h base count ethertypes) h fun s =>
    let enc := fun (b c : Nat) (ts : List Nat) => leBytes 8 b ++ leBytes 2 c ++ ts.flatMap (leBytes 2)
    checked s [(outside 16 4096 count || !isPow2 count, .range), (decide (ethertypes.length ≠ 4), .length)]
      (change ((s.onNet fun t => { t with rxBase := base, rxCount := count, rxTypes := ethertypes }).put NR_HEAD_HEAD 0)
        (digestChg 0x000A (enc s.net.rxBase s.net.rxCount s.net.rxTypes) (enc base count ethertypes)))))

/-- The parameters of TELEM_CFG_SET as bytes, for its log entry. -/
def Telem.bytes (t : Telem) : List Byte :=
  leBytes 8 t.base ++ leBytes 4 t.count ++ leBytes 1 t.rate ++ leBytes 2 t.decim ++ t.words.flatMap fun w => leBytes 2 w.1 ++ leBytes 2 w.2

/-- 0x000B TELEM_CFG_SET: in force from the next frame boundary; no words stop telemetry. -/
def execTelemCfgSet (h : Hdr) (base count rate decim : Nat) (words : List (Nat × Nat)) (s : State) : Host.Outcome State Fault Refusal :=
  .next (s.onHw (hostCmd { code := 0x000B, role := some .engineer, pcieOnly := true } (.telemCfgSet h base count rate decim words) h fun s =>
    let t : Telem := ⟨base, count, rate, decim, words⟩
    let new : Option Telem := if words = [] then none else some t
    let old := match s.net.telemNext with | some x => x | none => s.net.telem
    let enc := fun (x : Option Telem) => match x with | some x => x.bytes | none => []
    checked s [(!words.isEmpty && t.bad, .range)]
      (change (s.onNet fun n => { n with telemNext := some new }) (digestChg 0x000B (enc old) (enc new)))))

/-! ### Events -/

/-- SV_FRAME_RECEIVE: station port, cycle and deviation of its stamp, the frame. -/
def execSvFrameReceive (port cyc : Nat) (dev : Int) (frame : SvFrame) (s : State) : Host.Outcome State Fault Refusal :=
  .next (s.onHw (onRun fun s => if port < 2 then svReceive port cyc dev frame s else s))

/-- SV_STALE. -/
def execSvStale (stream : Nat) (s : State) : Host.Outcome State Fault Refusal :=
  .next (s.onHw (onRun fun s => if stream < 16 then svStale stream s else s))

/-- GOOSE_MESSAGE_RECEIVE. -/
def execGooseMessageReceive (msg : GooseMsg) (s : State) : Host.Outcome State Fault Refusal := .next (s.onHw (onRun (gooseReceive msg)))

/-- GOOSE_TTL_EXPIRY. -/
def execGooseTtlExpiry (sub : Nat) (s : State) : Host.Outcome State Fault Refusal :=
  .next (s.onHw (onRun fun s => if sub < 32 then gooseExpiry sub s else s))

/-- TELEMETRY_RECORD. -/
def execTelemetryRecord (rd : Nat) (s : State) : Host.Outcome State Fault Refusal := .next (s.onHw (onRun (telemRecord rd)))

end Sys2Proof.Machine
end

