-- ==== Sys2Proof/Machine/Store.lean ====
section
/-! DEFINITION. The configuration store, CFG_CHECK, firmware slots, keys, attestation and the change log's commands (R402 to R418). -/

namespace Sys2Proof.Machine

/-- `s` with its lasting state changed; with its store processes changed. -/
def Hw.onNv (s : Hw) (f : NvSt → NvSt) : Hw := { s with nv := f s.nv }
def Hw.onSto (s : Hw) (f : StoSt → StoSt) : Hw := { s with sto := f s.sto }

/-! ### Loading a stored configuration (R404, R405) -/

/-- The word of the register at `a` with its stored bits those of a stored configuration. -/
def storedWord (c : Stored) (a : Nat) (old : Word) : Word :=
  let m := BitVec.ofNat 32 (storedBits a)
  (old &&& ~~~m) ||| smapGet (storedPart a (regReset a)) c.regs a

/-- The registers whose stored bits may differ from those of a stored configuration. -/
def Hw.storedAddrs (s : Hw) (c : Stored) : List Nat :=
  (c.regs.map (·.1)) ++ ((s.regs.map (·.1)).filter fun a => storedBits a != 0 && !(c.regs.any fun r => r.1 == a))

/-- Its registers enter the working copy. -/
def loadRegs (c : Stored) (s : Hw) : Hw := s.each (s.storedAddrs c) fun a s => s.setReg a (storedWord c a (s.reg a))

/-- Its gain sets. -/
def loadGains (c : Stored) (s : Hw) : Hw :=
  let engines := (0 :: (s.le.engines.map (·.1) ++ c.gains.map fun g => g.1 / 1024)).eraseDups
  s.each engines fun n s =>
    let base := (gainKeys.filter fun k => gainDefault n k != 0).foldl (fun m k => smapSet 0 m k (gainDefault n k)) []
    let gains := (c.gains.filter fun g => g.1 / 1024 == n).foldl (fun m g => smapSet 0 m (g.1 % 1024) g.2.toNat) base
    s.onEng n fun e => { e with gains := gains, gainDue := [] }

/-- Its customer images, where others are loaded. -/
def loadImage (c : Stored) (s : Hw) : Hw :=
  if c.images = s.sto.images then s
  else
    let s := s.customerParts.foldl (fun s p => unloadPart s.fwVersion p.engine s) s
    let s := (c.images.flatMap (·.parts)).foldl (fun s p => loadPart s.fwVersion p s) s
    s.onSto fun t => { t with images := c.images }

/-- The whole of it. -/
def loadStored (c : Stored) (s : Hw) : Hw := loadGains c (loadRegs c (loadImage c s))

/-- The checks of R405 on the bank in use. -/
def Hw.storedOk (s : Hw) : Bool :=
  match s.bankUsed with
  | none => false
  | some b =>
    let t := loadGains b.content (loadRegs b.content s)
    let image := b.content.images.all fun i => match s.nv.custKey with | some k => customerImageOk k i.bytes | none => false
    Config.cfgFmtAccepted s.fwVersion b.cfgFmt && image && t.gflValid && (List.range 6).all (armMeets t)

/-- The stored configuration is valid, or it is not (R41). -/
def cfgJudge (s : Hw) : Hw :=
  let ok := s.storedOk
  ({ s with ops := { s.ops with cfgValid := ok } }).putb SYS_MODE_CFG_INVALID (!ok)

/-- WRITES of both banks, and WEAR_WARN. -/
def bankRegs (s : Hw) : Hw :=
  let w := fun (b : Bank) => if b.valid then b.writes else 0
  ((s.put (STO_BANKn_WRITES 0) (w s.nv.bank0)).put (STO_BANKn_WRITES 1) (w s.nv.bank1)).putb STO_STAT_WEAR_WARN
    (decide (80000000 < s.nv.bank0.writes) || decide (80000000 < s.nv.bank1.writes))

/-! ### CFG_CHECK (R406) -/

/-- The fields of a register that are of class LOCAL or SECURITY (Table STO-4), as a mask. -/
def localBits (a : Nat) : Nat :=
  let all := 2 ^ 32 - 1
  if [NET_CTRL, NET_IP, NET_MASK, NET_GW, ALM_PORTp_LAT 0, ALM_PORTp_LAT 1, ALM_UTC, REEVE_CFG, SEC_CFG].contains a then all
  else if ORY_CLKOUTn 0 ≤ a ∧ a ≤ ORY_CLKOUTn 3 then all
  else if a = ORY_REFCFG then 255
  else if a / 0x10000 = 0x200C then all
  else if 0x22000000 ≤ a then
    let o := a % 0x1000
    if o = 0 then 2 ^ 31 - 1 else if o = 4 ∨ (0x100 ≤ o ∧ o ≤ 0x108) then all else 0
  else 0

/-- The fields of a register that enter CFG_CHECK. -/
def checkBits (a : Nat) : Nat :=
  let m := match regDesc a with | some d => d.rws | none => 0
  m - (m &&& localBits a)

/-- The registers that do, in ascending order. -/
def checkAddrs : List Nat := ((regTableAll.flatMap RegDesc.addrs).filter fun a => checkBits a != 0).mergeSort (fun a b => decide (a ≤ b))

/-- The active gain sets, Region Selector maps, user shape table, Sieve user sets and customer images, as bytes. -/
def Hw.gainBytes (s : Hw) : List Byte :=
  (List.range 24).flatMap fun n => (List.range 1024).flatMap fun k => leBytes 2 (smapGet 0 (s.engOf n).gains k)
def Hw.rmapBytes (s : Hw) : List Byte := regBytes s ((List.range 24).flatMap fun n => (List.range 32).map (LEn_RMAPj n))
def Hw.shapeBytes (s : Hw) : List Byte := regBytes s ((List.range 768).map SHAPE_Aj)
def Hw.sieveBytes (s : Hw) : List Byte :=
  (List.range 2).flatMap fun m => (List.range 128).flatMap fun k => leBytes 2 (unsigned 16 ((smapGet {} s.sieve.user m).coefs.getD k 0))
def Hw.imageBytes (s : Hw) : List Byte := s.sto.images.flatMap (·.bytes)

/-- CFG_CHECK of a configuration. -/
def Hw.checkValue (s : Hw) : Nat :=
  let regs := checkAddrs.flatMap fun a => leBytes 4 a ++ leBytes 4 (s.reg a &&& BitVec.ofNat 32 (checkBits a)).toNat
  let digests := [s.gainBytes, s.rmapBytes, s.shapeBytes, s.sieveBytes, s.imageBytes].flatMap fun b => leBytes 32 (Config.shake256 b 256)
  Config.shake256 (regs ++ digests) 128

/-- A value of CFG_CHECK completed. -/
def checkEnter (v : Nat) (s : Hw) : Hw := s.each (List.range 4) fun j s => s.put (STO_CFGCHKj_CHK j) (v / 2 ^ (32 * j))

/-- CFG_CHECK_DONE. -/
def checkDone (s : Hw) : Hw := if s.flag STO_STAT_CHK_BUSY then (checkEnter s.checkValue s).put STO_STAT_CHK_BUSY 0 else s

/-- The user shape table and the Sieve user sets of the working copy become the active ones. -/
def userActive (s : Hw) : Hw :=
  (bankSet s (SHAPE_Aj 0) (bankWords s (SHAPE_Sj 0))).onSieve fun v =>
    { v with user := [0, 1].foldl (fun u m => smapSet {} u m { coefs := s.shadow m }) [] }

/-! ### STORE (R403) -/

/-- STORE runs, or completed within the last second. -/
def Hw.storeBusy (s : Hw) : Bool :=
  s.sto.storing.isSome || match s.sto.lastDone with | some t => decide (s.ticks < t + ticksPerSec) | none => false

/-- The bank that STORE writes, and GEN that it gives it. -/
def Hw.storeTo (s : Hw) : Nat := 1 - s.get STO_STAT_BANK
def Hw.storeGen (s : Hw) : Nat := ((s.nv.bank (s.get STO_STAT_BANK)).gen + 1) % 2 ^ 32

/-- The header and content that STORE leaves in its bank; `ok` says that DIGEST checks. -/
def Hw.storeBank (s : Hw) (c : Stored) (ok : Bool) : Bank :=
  { magic := true, digestOk := ok, gen := s.storeGen, writes := (s.nv.bank s.storeTo).writes + 1, cfgFmt := Config.cfgFmt s.fwVersion,
    content := c, cfgCheck := (userActive (loadGains c (loadRegs c (s.onSto fun t => { t with images := c.images })))).checkValue }

/-- `s` with bank `b` at `x`. -/
def Hw.setBank (s : Hw) (b : Nat) (x : Bank) : Hw := s.onNv fun v => if b = 0 then { v with bank0 := x } else { v with bank1 := x }

/-- STORE_COMPLETE: step 4, and the reply. -/
def storeComplete (readsBack : Bool) (s : Hw) : Hw :=
  match s.sto.storing with
  | none => s
  | some c =>
    let to_ := s.storeTo
    let s := s.setBank to_ (s.storeBank c readsBack)
    let s := (s.onSto fun t => { t with storing := none, lastDone := some s.ticks }).put STO_STAT_STORING 0
    if readsBack then (cfgJudge (bankRegs (s.put STO_STAT_BANK to_))).finishKind .store .ok
    else (bankRegs (s.raise STO_STAT_STORE_FAIL_SEEN)).finishKind .store .storeFailed

/-- What a reset leaves of a STORE in progress: nothing written, a torn bank, or a bank complete but not read back (R403, R404). -/
def storeCut (s : Hw) : Hw :=
  match s.sto.storing with
  | none => s
  | some c =>
    let (w, s) := s.fresh
    let old := s.nv.bank s.storeTo
    if w.toNat % 3 = 0 then s
    else if w.toNat % 3 = 1 then s.setBank s.storeTo { old with digestOk := false }
    else s.setBank s.storeTo (s.storeBank c true)

/-! ### Firmware slots (R407, R408) -/

/-- Bytes of a slot. -/
def slotSize : Nat := 0x800000

/-- `n` bytes of slot `b` from offset `o`. -/
def Hw.slotBytes (s : Hw) (b o n : Nat) : List Byte := memReadList s.nv.flash (b * slotSize + o) n

/-- The result of R407 for slot `b`. -/
def fwResult (s : Hw) (b : Nat) : Nat :=
  let hd := s.slotBytes b 0 0x40
  let len := imgField hd 0x0C 4
  let major := s.get SYS_DEVID_MAJOR
  if imgField hd 0 4 ≠ 0x3157464B then 1
  else if !Config.xmssVerify Config.keamenKey hd (s.slotBytes b 0x40 2820) then 2
  else if slotSize - 4096 < len ∨ imgField hd 0x10 32 ≠ Config.shake256 (s.slotBytes b 0x1000 len) 256 then 3
  else if major < imgField hd 0x0A 1 ∨ imgField hd 0x0B 1 < major then 4
  else if imgField hd 0x08 2 < s.nv.minSvn then 5
  else 0

/-- The slot that runs, if one does. -/
def Hw.runSlot (s : Hw) : Option Nat := if s.flag SEC_BOOT_ROM_SERVER then none else some (s.get SEC_BOOT_RUN_SLOT)

/-! ### Keys, identity -/

/-- SEC_STAT as the records stand. -/
def secRegs (s : Hw) : Hw :=
  let roles := maskOf ((List.range 5).filter fun r => smapGet 0#256 s.nv.roleKeys r != 0#256)
  (((s.putb SEC_STAT_CUST_KEY s.nv.custKey.isSome).put SEC_STAT_ROLE_KEYS roles).put SEC_STAT_SIG_INDEX s.nv.sigIndex).putb
    SEC_STAT_ATT_LOW (decide (2 ^ 20 - s.nv.sigIndex < 104858))

/-- The key that a ROLEKEY_SET carries, unwrapped under the sending session's key (R411). -/
def unwrapKey (s : Hw) (h : Hdr) (wrapped : BitVec 256) : BitVec 256 :=
  let k := match s.session? h with | some x => x.key | none => 0#256
  wrapped ^^^ BitVec.ofNat 256 (Config.kmac256 k (leBytes 4 h.session ++ leBytes 2 h.seq) 256 "EC4608 WRAP")

/-- The role that ROLEKEY_SET needs for the key of role `r` (R411). -/
def roleKeyNeed (s : Hw) (h : Hdr) (r : Nat) : Role :=
  if r ≠ 4 then .service
  else if s.roleOf h = some .safetyOfficer then .safetyOfficer
  else if s.roleKey .safetyOfficer = 0#256 ∧ s.mode = mCommission then .service
  else .safetyOfficer

/-- The body of a quote (Table STO-5). -/
def quoteBody (s : Hw) (nonce : List Byte) : List Byte :=
  let (sec, ns, _) := s.timeNow
  let flags := s.get ALM_STAT_SET + 2 * s.get ALM_STAT_TIME_INVALID + 4 * s.get SYS_MODE_ACTIVE + 16 * s.mode
  leBytes 4 0x3151414B ++ regBytes s [SYS_DEVID] ++ leBytes 8 Config.serial.toNat ++ nonce ++ leBytes 32 s.fwDigest ++
    leBytes 16 s.cfgCheck ++ regBytes s [SAF_CHECK, LOG_HEAD] ++ leBytes 16 s.log.headChain ++ leBytes 6 sec ++ leBytes 2 0 ++
    leBytes 4 ns ++ leBytes 4 flags ++ leBytes 4 s.nv.sigIndex ++ leBytes 4 0

/-- A chunk of a readable object of `size` bytes. -/
def chunkBad (size offset len : Nat) : Bool := decide (1024 < len) || decide (size < offset + len)
def chunk (bs : List Byte) (offset len : Nat) : List Byte := (List.range len).map fun k => bs.getD (offset + k) 0

/-! ### Commands of the Store group (Table STO-8) -/

/-- 0x0300 STORE_STATUS_GET. -/
def execStoreStatusGet (h : Hdr) (s : State) : Host.Outcome State Fault Refusal :=
  .next (s.onHw (hostCmd (Op.plain 0x0300 .viewer) (.storeStatusGet h) h fun s =>
    answer s (regBytes s ([STO_STAT, STO_BANKn 0, STO_BANKn 1] ++ (List.range 4).map STO_CFGCHKj))))

/-- 0x0301 STORE: the snapshot is taken at acceptance; after a STORE_REVERT of the same frame it is the bank in use. -/
def execStore (h : Hdr) (s : State) : Host.Outcome State Fault Refusal :=
  .next (s.onHw (hostCmd (Op.plain 0x0301 .engineer) (.store h) h fun s =>
    checked s [(s.storeBusy, .storeBusy)]
      (let c := if s.sto.revertPend then s.storedNow else s.snapshot
       changeWait ((s.onSto fun t => { t with storing := some c, storeTick := s.ticks }).put STO_STAT_STORING 1)
         (cmdChg 0x0301 (s.nv.bank (s.get STO_STAT_BANK)).gen s.storeGen) .store)))

/-- 0x0302 STORE_REVERT: at the next frame boundary. -/
def execStoreRevert (h : Hdr) (s : State) : Host.Outcome State Fault Refusal :=
  .next (s.onHw (hostCmd (Op.plain 0x0302 .engineer) (.storeRevert h) h fun s =>
    checked s [(!s.cfgMode, .modeNotAllowed)]
      (change (s.onSto fun t => { t with revertPend := true }) (cmdChg 0x0302 0 (s.nv.bank (s.get STO_STAT_BANK)).gen))))

/-- 0x0303 STORE_ERASE: a zero MAGIC in both banks. -/
def execStoreErase (h : Hdr) (s : State) : Host.Outcome State Fault Refusal :=
  .next (s.onHw (hostCmd (Op.plain 0x0303 .service) (.storeErase h) h fun s =>
    checked s [(s.mode != mCommission, .modeNotAllowed), (s.storeBusy, .storeBusy)]
      (let t := s.onNv fun v => { v with bank0 := { v.bank0 with magic := false, erased := true }, bank1 := { v.bank1 with magic := false, erased := true } }
       change (cfgJudge (bankRegs t)) (cmdChg 0x0303 (s.nv.bank (s.get STO_STAT_BANK)).gen 0))))

/-! ### Commands of the Security group -/

/-- 0x0D00 SEC_STATUS_GET. -/
def execSecStatusGet (h : Hdr) (s : State) : Host.Outcome State Fault Refusal :=
  .next (s.onHw (hostCmd (Op.plain 0x0D00 .viewer) (.secStatusGet h) h fun s => answer s (regBytes s [SEC_BOOT, SEC_STAT, SEC_CFG])))

/-- 0x0D01 FW_LOAD: a chunk into a slot that is not running. -/
def execFwLoad (h : Hdr) (slot offset len : Nat) (bytes : List Byte) (s : State) : Host.Outcome State Fault Refusal :=
  .next (s.onHw (hostCmd (Op.sized 0x0D01 .service (7 + len)) (.fwLoad h slot offset len bytes) h fun s =>
    checked s [(decide (1 < slot) || decide (slotSize < offset + len), .range), (decide (bytes.length ≠ len), .length),
      (decide (s.runSlot = some slot), .fwSlotActive)]
      (let at_ := slot * slotSize + offset
       change (s.onNv fun v => { v with flash := memWriteList v.flash at_ bytes }) (digestChg 0x0D01 (memReadList s.nv.flash at_ len) bytes))))

/-- 0x0D02 FW_VERIFY. -/
def execFwVerify (h : Hdr) (slot : Nat) (s : State) : Host.Outcome State Fault Refusal :=
  .next (s.onHw (hostCmd (Op.plain 0x0D02 .service) (.fwVerify h slot) h fun s =>
    checked s [(decide (1 < slot), .range)]
      (let r := fwResult s slot
       let t := s.onSto fun x => { x with verified := smapSet false x.verified slot (r == 0) }
       if r = 0 then answer t (leBytes 1 r) else refuseWith t .fwInvalid (leBytes 1 r))))

/-- 0x0D03 FW_SELECT. -/
def execFwSelect (h : Hdr) (slot : Nat) (s : State) : Host.Outcome State Fault Refusal :=
  .next (s.onHw (hostCmd (Op.plain 0x0D03 .service) (.fwSelect h slot) h fun s =>
    checked s [(decide (1 < slot), .range), (!smapGet false s.sto.verified slot, .fwInvalid)]
      (change ((s.onNv fun v => v.onCnt fun r => { r with prefSlot := slot }).put SEC_BOOT_PREF_SLOT slot)
        (cmdChg 0x0D03 s.nv.prefSlot slot))))

/-- 0x0D04 FW_SVN_COMMIT: MIN_SVN is raised to the SVN of the running image. -/
def execFwSvnCommit (h : Hdr) (s : State) : Host.Outcome State Fault Refusal :=
  .next (s.onHw (hostCmd (Op.plain 0x0D04 .service) (.fwSvnCommit h) h fun s =>
    let v := match s.runSlot with | some b => max s.nv.minSvn (imgField (s.slotBytes b 0 0x40) 0x08 2) | none => s.nv.minSvn
    change ((s.onNv fun x => x.onCnt fun r => { r with minSvn := v }).put SEC_BOOT_MIN_SVN v) (cmdChg 0x0D04 s.nv.minSvn v)))

/-- 0x0D05 KEY_ENROLL (R409). -/
def execKeyEnroll (h : Hdr) (key : List Byte) (s : State) : Host.Outcome State Fault Refusal :=
  .next (s.onHw (hostCmd (Op.plain 0x0D05 .engineer) (.keyEnroll h key) h fun s =>
    checked s [(s.mode != mCommission, .modeNotAllowed), (decide (key.length ≠ 68), .length), (s.nv.custKey.isSome, .keyPresent)]
      (change (secRegs (s.onNv fun v => v.onKey fun r => { r with custKey := some key })) (digestChg 0x0D05 [] key))))

/-- 0x0D06 KEY_REVOKE: the key goes at once, customer images leave at the next frame boundary. -/
def execKeyRevoke (h : Hdr) (s : State) : Host.Outcome State Fault Refusal :=
  .next (s.onHw (hostCmd (Op.plain 0x0D06 .service) (.keyRevoke h) h fun s =>
    checked s [(s.mode != mCommission, .modeNotAllowed), (s.nv.custKey.isNone, .keyNotEnrolled)]
      (let t := (s.onNv fun v => v.onKey fun r => { r with custKey := none }).onSto fun t => { t with revokePend := true }
       change (secRegs t) (digestChg 0x0D06 (s.nv.custKey.getD []) []))))

/-- 0x0D07 ROLEKEY_SET (R411). -/
def execRolekeySet (h : Hdr) (role : Nat) (wrapped : BitVec 256) (s : State) : Host.Outcome State Fault Refusal :=
  .next (s.onHw (hostCmd (Op.plain 0x0D07 (roleKeyNeed s.hw h role)) (.rolekeySet h role wrapped) h fun s =>
    let k := unwrapKey s h wrapped
    checked s [(k == 0#256 && s.mode != mCommission, .modeNotAllowed), (decide (4 < role), .range)]
      (let t := s.onNv fun v => v.onKey fun r => { r with roleKeys := smapSet 0#256 r.roleKeys role k }
       change (secRegs t) (digestChg 0x0D07 (leBytes 32 (smapGet 0#256 s.nv.roleKeys role).toNat) (leBytes 32 k.toNat)))))

/-- 0x0D08 ATTEST_QUOTE (R412, R413). -/
def execAttestQuote (h : Hdr) (nonce : List Byte) (s : State) : Host.Outcome State Fault Refusal :=
  .next (s.onHw (hostCmd (Op.plain 0x0D08 .viewer) (.attestQuote h nonce) h fun s =>
    let early := match s.sto.lastQuote with
      | some t => decide (s.ticks < t + s.get SEC_CFG_ATT_PERIOD * 50000)
      | none => false
    checked s [(decide (nonce.length ≠ 32), .length), (early, .attRate), (decide (2 ^ 20 ≤ s.nv.sigIndex), .attExhausted)]
      (let body := quoteBody s nonce
       let sig := Config.xmssSign s.nv.sigIndex body
       let t := s.onNv fun v => v.onCnt fun r => { r with sigIndex := r.sigIndex + 1 }
       let t := t.onSto fun x => { x with signature := sig, lastQuote := some s.ticks }
       answer (secRegs t) (body ++ leBytes 4 sig.length))))

/-- 0x0D09 ATTEST_READ. -/
def execAttestRead (h : Hdr) (offset len : Nat) (s : State) : Host.Outcome State Fault Refusal :=
  .next (s.onHw (hostCmd (Op.plain 0x0D09 .viewer) (.attestRead h offset len) h fun s =>
    checked s [(chunkBad s.sto.signature.length offset len, .range)] (answer s (chunk s.sto.signature offset len))))

/-- 0x0D0A IDENTITY_GET: over the public key (68 bytes) and the certificate (2,820). -/
def execIdentityGet (h : Hdr) (offset len : Nat) (s : State) : Host.Outcome State Fault Refusal :=
  .next (s.onHw (hostCmd (Op.plain 0x0D0A .viewer) (.identityGet h offset len) h fun s =>
    checked s [(chunkBad 2888 offset len, .range)] (answer s (chunk Config.identity offset len))))

/-- SEC_CFG out of range. -/
def secCfgBad (t : Hw) : Bool := outside 1 600 (t.get SEC_CFG_ATT_PERIOD)

/-- 0x0D0B SEC_CFG_SET. -/
def execSecCfgSet (h : Hdr) (cfg : Nat) (s : State) : Host.Outcome State Fault Refusal :=
  .next (s.onHw (hostCmd (Op.plain 0x0D0B .service) (.secCfgSet h cfg) h fun s =>
    let t := s.setWord SEC_CFG cfg
    checked s [(secCfgBad t, .range)] (change t (regChgs s t [SEC_CFG]))))

/-! ### Commands of the Change log group -/

/-- 0x0E00 LOG_STATUS_GET. -/
def execLogStatusGet (h : Hdr) (s : State) : Host.Outcome State Fault Refusal :=
  .next (s.onHw (hostCmd (Op.plain 0x0E00 .viewer) (.logStatusGet h) h fun s =>
    answer s (regBytes s [LOG_HEAD, LOG_EXP, LOG_CFG, LOG_STAT] ++ leBytes 16 s.log.headChain)))

/-- How far behind the head an entry's SEQ lies. -/
def LogSt.behind (l : LogSt) (seq : Nat) : Nat := (l.count + 2 ^ 32 - 1 - seq % 2 ^ 32) % 2 ^ 32

/-- 0x0E01 LOG_READ (R417). -/
def execLogRead (h : Hdr) (first count : Nat) (s : State) : Host.Outcome State Fault Refusal :=
  .next (s.onHw (hostCmd (Op.plain 0x0E01 .viewer) (.logRead h first count) h fun s =>
    let l := s.log
    let d := l.behind first
    checked s [(outside 1 1024 count, .length), (decide (min l.count logSlots ≤ d) || decide (d + 1 < count), .seqRange)]
      (answer s ((List.range count).flatMap fun k => (smapGet blankLogEntry l.ring ((l.count - 1 - d + k) % logSlots)).bytes))))

/-- 0x0E02 LOG_ACK: between the present EXP_SEQ and the head; an acknowledgement is logged whatever it changes (R417). -/
def execLogAck (h : Hdr) (seq : Nat) (s : State) : Host.Outcome State Fault Refusal :=
  .next (s.onHw (hostCmd (Op.plain 0x0E02 .engineer) (.logAck h seq) h fun s =>
    let l := s.log
    let d := l.behind seq
    checked s [(decide (l.count - l.exported < d) || decide (l.count ≤ d), .seqRange)]
      (let t := ({ s with log := { l with exported := l.count - d } } : Hw).logRegs
       change t [⟨LOG_EXP, (s.reg LOG_EXP).toNat, (t.reg LOG_EXP).toNat, false⟩])))

/-- 0x0E03 LOG_CFG_SET. -/
def execLogCfgSet (h : Hdr) (cfg : Nat) (s : State) : Host.Outcome State Fault Refusal :=
  .next (s.onHw (hostCmd (Op.plain 0x0E03 .service) (.logCfgSet h cfg) h fun s =>
    let t := (s.put LOG_CFG_LOG_POLICY cfg).logRegs
    change t (regChgs s t [LOG_CFG])))

/-! ### Events -/

/-- STORE_COMPLETE. -/
def execStoreComplete (readsBack : Bool) (s : State) : Host.Outcome State Fault Refusal := .next (s.onHw (onRun (storeComplete readsBack)))

/-- CFG_CHECK_DONE. -/
def execCfgCheckDone (s : State) : Host.Outcome State Fault Refusal := .next (s.onHw (onRun checkDone))

end Sys2Proof.Machine
end

