-- ==== Sys2Proof/Machine/Integrity.lean ====
section
/-! DEFINITION. Integrity: escalation, injection, the conditions of the guarantee (R22, R24, R423 to R430). The hand-over of
bundles itself is with the blocks that consume them (`Hw.checkBundle`). -/

namespace Sys2Proof.Machine

/-! ### The end of a tick -/

/-- CONSEC of boundary `b` with the tick that ends. -/
def consecEnd (b : Nat) (s : Hw) : Hw :=
  let s := if bitOf s.int.mmTick b then s.bump (INT_BDRYb_CONSEC b) else s.put (INT_BDRYb_CONSEC b) 0
  if s.liveGet INT_CFG_ESC_N ≤ s.get (INT_BDRYb_CONSEC b) then s.raiseBit INT_STAT_ESC b else s

/-- Escalation with the tick that ends, by INT_CFG as it was in force in it (R17, R423, R424). -/
def escalate (s : Hw) : Hw :=
  let s := s.each (List.range 5) consecEnd
  let run := (List.range 5).any fun b => decide (s.liveGet INT_CFG_ESC_N ≤ s.get (INT_BDRYb_CONSEC b))
  let sub := s.int.subRun.any fun r => decide (s.liveGet INT_CFG_SUB_ESC_N ≤ r.2)
  let s := if sub then s.raise INT_STAT_SUB_ESC else s
  let on := (run || sub) && s.switching
  let s := s.causeActive cIntegrity on
  if on then s.tripNow cIntegrity else s

/-- TI_NOW with the tick that ends (R24, Table TCK-10). -/
def tiEnd (s : Hw) : Hw :=
  let s := if s.haltNow then haltSeen s else s
  let good := !s.int.tiFail
  let begun := s.int.begun || (good && s.modeIn [mBlocked, mEnergize, mForm, mRide])
  ({ s with int := { s.int with begun := begun } }).putb SYS_TISTAT_TI_NOW (good && begun)

/-- The monitors at the end of a tick. -/
def intEnd (s : Hw) : Hw := tiEnd (escalate s)

/-- The monitors as a tick begins: INT_CFG as written comes into force; an injection whose tick has ended without its bundle is
dropped. -/
def intBegin (s : Hw) : Hw :=
  let s := s.latch [INT_CFG]
  let s := { s with int := { s.int with mmTick := 0, tiFail := false, clkFail := false } }
  if s.int.inj.isSome && decide (s.int.injTick < s.ticks) then s.injDone else s

/-! ### Register writes -/

/-- INT_CFG out of range. -/
def intCfgBad (t : Hw) : Bool := t.get INT_CFG_SUB_ESC_N == 0 || t.get INT_CFG_ESC_N == 0

/-- Writes of the integrity registers. -/
def intWrite (s : Hw) (w : Wr) : Judged :=
  let t := s.writeAs w
  if w.addr = INT_CFG then judge [(intCfgBad t, .range)] t
  else if w.addr = INT_STAT then
    let off := (List.range 5).filter fun b => bitOf (w.was INT_STAT_MM) b && !bitOf (w.val INT_STAT_MM) b
    .ok (t.each off fun b t => (t.put (INT_BDRYb_MM_CNT b) 0).put (INT_BDRYb_TEST_CNT b) 0)
  else .ok t

/-! ### Commands (Table INT-3) -/

/-- 0x0F00 INT_STATUS_GET. -/
def execIntStatusGet (h : Hdr) (s : State) : Host.Outcome State Fault Refusal :=
  .next (s.onHw (hostCmd (Op.plain 0x0F00 .viewer) (.intStatusGet h) h fun s =>
    answer s (regBytes s ([INT_CFG, INT_STAT] ++ (List.range 5).map INT_BDRYb ++ [INT_BOOT]))))

/-- 0x0F01 INT_CFG_SET. -/
def execIntCfgSet (h : Hdr) (cfg : Nat) (s : State) : Host.Outcome State Fault Refusal :=
  .next (s.onHw (hostCmd (Op.plain 0x0F01 .engineer) (.intCfgSet h cfg) h fun s =>
    let t := s.setWord INT_CFG cfg
    checked s [(intCfgBad t, .range)] (change t (regChgs s t [INT_CFG]))))

/-- Bundle indices of a boundary. -/
def bundleCount : Nat → Nat
  | 0 => 2
  | 1 => 2
  | 2 => 256 * 24
  | 3 => 2 * 48
  | 4 => 20 * 48
  | _ => 0

/-- The number of the slow cycle to which the coming tick belongs. -/
def Hw.nextSlow (s : Hw) : Nat := ((s.time.sec * nsPerSec + s.time.ns) / 2000 + 1) * 2000 / 1000000

/-- 0x0F02 INT_INJECT (R427). -/
def execIntInject (h : Hdr) (boundary index : Nat) (s : State) : Host.Outcome State Fault Refusal :=
  .next (s.onHw (hostCmd (Op.plain 0x0F02 .engineer) (.intInject h boundary index) h fun s =>
    checked s [(s.mode == mRide, .modeNotAllowed), (decide (bundleCount boundary ≤ index), .range),
      (s.int.inj.isSome || decide (s.int.injSlow = some s.nextSlow), .intBusy),
      (boundary == 3 && s.laneState (index / 2) != lnRun, .laneNotRun)]
      (let t := { s with int := { s.int with inj := some (boundary, index), injTick := s.ticks + 1, injSlow := some s.nextSlow } }
       change (t.put INT_STAT_INJ_PEND 1) (cmdChg 0x0F02 0 (boundary * 2 ^ 16 + index)))))

end Sys2Proof.Machine
end

