-- ==== Sys2Proof/Machine/Supply.lean ====
section
/-! DEFINITION. Supplies, reset and start-up to the power-on mode (R41, R430 to R447, R404). -/

namespace Sys2Proof.Machine

/-! ### Internal reset -/

/-- The part as internal reset leaves it: lasting state, the change log, the AON domain and the supervisor stay (R6, R316, R402, R437). -/
def resetHw (s : Hw) : Hw :=
  let cause := s.reg SYS_RSTCAUSE
  let t : Hw := { nv := s.nv, log := s.log, pwr := s.pwr, free := s.free,
                  time := { aonSec := s.time.aonSec, aonOk := s.time.aonOk } }
  t.setReg SYS_RSTCAUSE cause

/-- Internal reset is asserted: every session closes, and a STORE in progress is cut. -/
def assertReset (s : Hw) : Hw := if s.inReset then s else resetHw (storeCut s)

/-- The same, with the capture memory. -/
def State.onReset (s : State) (f : Hw → Hw) : State :=
  let h := f s.hw
  { s with hw := h, capture := if h.inReset && !s.hw.inReset then [] else s.capture }

/-- A cause is recorded in SYS_RSTCAUSE. -/
def recordCause (f : Fld) (s : Hw) : Hw := s.raise f

/-- `s` with its supervisor changed. -/
def Hw.onPwr (s : Hw) (f : PwrSt → PwrSt) : Hw := { s with pwr := f s.pwr }

/-- The AON domain loses its state (R436). -/
def aonLost (s : Hw) : Hw :=
  let s := s.setReg SYS_RSTCAUSE (SYS_RSTCAUSE_POR.into 0#32 1)
  { s with time := { s.time with aonSec := 0, aonOk := false } }

/-- A rail falls below its brown-out threshold (R436); RAIL is the first to fail while every one was up, whatever holds reset. -/
def brownOut (rail : Nat) (s : Hw) : Hw :=
  let first := !s.inReset || decide (s.pwr.up = 255)
  let s := (assertReset s).onPwr fun p => { p with up := bitClear p.up rail }
  if rail = 0 then (aonLost s).onPwr fun p => { p with anaHold := false }
  else if first then (recordCause SYS_RSTCAUSE_SUPPLY s).put SYS_RSTCAUSE_RAIL rail
  else recordCause SYS_RSTCAUSE_SUPPLY s

/-- VDD_IO33 is up, so the pads of its bank have levels. -/
def Hw.ioUp (s : Hw) : Bool := bitOf s.pwr.up 3

/-- A violation holds every pad in its unpowered state (R434). -/
def Hw.padsHeld (s : Hw) : Bool := s.pwr.hold || s.pwr.holdAon

/-- Pins of the supervisor and of the host SPI port that are driven low; released otherwise (R392, R434, R437, Table PKG-5). -/
def Hw.rstoutLow (s : Hw) : Bool := s.ioUp && s.inReset && !s.padsHeld
def Hw.spiIrqLow (s : Hw) : Bool := s.ioUp && !s.inReset && s.flag NET_CTRL_SPI_EN && s.cmd.spi.reply.isSome

/-- HSPI_MISO is driven while HSPI_CS_N is low (`csLow`) and the port is on (Table PKG-5). -/
def Hw.misoDrives (s : Hw) (csLow : Bool) : Bool := s.ioUp && !s.inReset && csLow && s.flag NET_CTRL_SPI_EN

/-- The boot-flash pads are driven once reset is released, by the boot ROM and the firmware; BF_RESET_N is then high, for boot ends later
than 100 us after release (Table PKG-5). -/
def Hw.bfDrives (s : Hw) : Bool := bitOf s.pwr.up 2 && !s.inReset
def Hw.bfReset (s : Hw) : Option Bool := if s.bfDrives then some true else none

/-- DDR4 command, address and clock are driven from DDR initialisation on; DDR_RESET_N is low until then. DEDUCED (log entry 174):
initialisation has taken place where boot found a memory. -/
def Hw.ddrInit (s : Hw) : Bool := s.get CHR_STAT_DDR_GIB != 0
def Hw.ddrDrives (s : Hw) : Bool := bitOf s.pwr.up 7 && !s.inReset && (s.ddrInit || s.ops.cfgValid)
def Hw.ddrReset (s : Hw) : Option Bool := if bitOf s.pwr.up 7 && !s.inReset then some s.ddrInit else none

/-! ### Power ordering (R433 to R435) -/

/-- The rise of a rail among those of a ramp. -/
def riseOf (rs : List RailRise) (rail : Nat) : Option RailRise := rs.find? fun r => r.rail == rail

/-- A rail of a ramp breaks items 1 to 3 of R433; `up` are the rails that were up before it. -/
def orderBad (up : Nat) (rs : List RailRise) (r : RailRise) : Bool :=
  let before := fun (k : Nat) => match riseOf rs k with | some x => decide (r.leaves < x.up) | none => !bitOf up k
  if r.rail = 0 then false else if r.rail = 1 then before 0 else before 1

/-- It breaks item 4. -/
def slewBad (r : RailRise) : Bool := !r.monotonic || outside 100 20000 (r.up - r.leaves)

/-- POWER_UP: rails that were down rise; the supervisor holds reset on a violation. -/
def powerUp (rises : List RailRise) (s : Hw) : Hw :=
  let rs := rises.filter fun r => decide (r.rail < 8) && !bitOf s.pwr.up r.rail
  if rs.isEmpty then s
  else
    let s := if (riseOf rs 0).isSome then (aonLost s).onPwr fun p => { p with anaHold := false } else s
    let order := rs.filter (orderBad s.pwr.up rs)
    let slew := rs.filter slewBad
    let ana := s.pwr.anaHold
    let bad := order ++ slew
    let s := s.onPwr fun p =>
      { p with up := p.up ||| maskOf (rs.map (·.rail)), anaHold := false
               hold := p.hold || ana || bad.any fun r => r.rail != 0
               holdAon := p.holdAon || slew.any fun r => r.rail == 0 }
    let s := if order.isEmpty && !ana then s else recordCause SYS_RSTCAUSE_ORDER s
    let s := if slew.isEmpty then s else recordCause SYS_RSTCAUSE_SLEW s
    match bad with
    | [] => s
    | r :: rest => s.put SYS_RSTCAUSE_RAIL (rest.foldl (fun (b : RailRise) r => if r.leaves < b.leaves then r else b) r).rail

/-- POWER_DOWN: the rails of a mask go down; an analogue rail has stayed above 10 % for `anaUs` us while VDD_CORE was below 90 %; every
rail but VDD_AON has been down for `allDownUs` us, VDD_AON for `aonDownUs` us. -/
def powerDown (down anaUs allDownUs aonDownUs : Nat) (s : Hw) : Hw :=
  let first := (!s.inReset || decide (s.pwr.up = 255)) && decide (down % 256 ≠ 0)
  let (w, s) := if first then s.fresh else (0#32, s)
  let rails := bitsOf 8 down
  let s := if rails.isEmpty then s else assertReset s
  let s := s.onPwr fun p => { p with up := p.up - (p.up &&& down % 256) }
  let s := if first then (recordCause SYS_RSTCAUSE_SUPPLY s).put SYS_RSTCAUSE_RAIL (rails.getD (w.toNat % rails.length) 0) else s
  let s := if 10000 < anaUs then (recordCause SYS_RSTCAUSE_ANA_HOLD s).onPwr fun p => { p with anaHold := true } else s
  let s := if s.pwr.up / 2 = 0 ∧ 1000 ≤ allDownUs then s.onPwr fun p => { p with hold := false } else s
  if bitOf s.pwr.up 0 then s
  else
    let s := (aonLost s).onPwr fun p => { p with anaHold := false }
    if 1000 ≤ aonDownUs then s.onPwr fun p => { p with holdAon := false } else s

/-! ### RESET_N, SYS_RESET, temperature -/

/-- RESET_N low for `ns` ns; between 100 ns and 1 us `taken` says whether the filter passed it (R437). -/
def resetN (ns : Nat) (taken : Bool) (s : Hw) : Hw :=
  if 1000 ≤ ns ∨ (100 ≤ ns ∧ taken) then recordCause SYS_RSTCAUSE_EXT (assertReset s) else s

/-- SOFT_RESET: the reset that SYS_RESET has announced. -/
def softReset (s : Hw) : Hw := if s.cmd.resetPending then recordCause SYS_RSTCAUSE_SOFT (assertReset s) else s

/-- The die comparator at `deg` degrees (R445). -/
def thermal (deg : Int) (s : Hw) : Hw :=
  let hot := decide (125 < deg) || (s.pwr.hot && decide (115 < deg))
  let rise := hot && !s.pwr.hot
  let s := s.onPwr fun p => { p with hot := hot, warm := decide (115 < deg) }
  if rise then recordCause SYS_RSTCAUSE_THERM (assertReset s) else s

/-! ### Start-up (Table PKG-6) -/

/-- Straps as sampled before release. -/
def bootStraps (b : BootIn) (s : Hw) : Hw :=
  let s := { s with strapReeve := b.reeve, strapTwinB := b.twinB, strapRef := b.ref % 4 }
  let path := if b.ref % 4 = 0 then 0 else if b.ref % 4 = 1 then 1 else 2
  ((s.put ORY_REFCFG_REF_PATH path).putb SYS_MODE_REEVE b.reeve).putb SYS_MODE_TWIN_ID b.twinB

/-- The loops have locked (R320). -/
def bootLoops (b : BootIn) (s : Hw) : Hw :=
  s.each (List.range 4) fun m s =>
    ((s.put (ORY_MDLLm_STAT_STATE m) 3).put (ORY_MDLLm_STAT_BAND_FOUND m) (b.bands.getD m 0)).put (ORY_MDLLm_STAT_ACQ_CNT m) 1

/-- A slot failed with MAJOR alone: no later cause of R407's list applies. DEDUCED (log entry 173). -/
def majorAlone (s : Hw) (b : Nat) : Bool := fwResult s b == 4 && decide (s.nv.minSvn ≤ imgField (s.slotBytes b 0 0x40) 0x08 2)

/-- Firmware slots (R407): the results of both, the slot that runs; RUN_SLOT is open where none does. -/
def bootFirmware (s : Hw) : Hw :=
  let pref := s.nv.prefSlot % 2
  let r1 := fwResult s pref
  let r2 := fwResult s (1 - pref)
  let (w, s) := s.fresh
  let res := fun (b : Nat) => if b = pref then r1 else r2
  let rom := decide (r1 ≠ 0) && decide (r2 ≠ 0)
  let run := if r1 = 0 then pref else if r2 = 0 then 1 - pref else w.toNat % 2
  let s := ((s.put SEC_BOOT_RES0 (res 0)).put SEC_BOOT_RES1 (res 1)).putb SEC_BOOT_ROM_SERVER rom
  let s := ((s.put SEC_BOOT_RUN_SLOT run).put SEC_BOOT_PREF_SLOT pref).put SEC_BOOT_MIN_SVN s.nv.minSvn
  let s := s.onSto fun t => { t with fwVersion := if rom then 0 else imgField (s.slotBytes run 0 0x40) 0x04 4 }
  let major := majorAlone s 0 || majorAlone s 1
  (s.putb SYS_MODE_FW_UNVERIFIED (rom && !major)).putb SYS_MODE_DEVID_MISMATCH (rom && major)

/-- Boot tests (R430). -/
def bootTests (fail : Nat) (s : Hw) : Hw :=
  let s := (((s.put INT_BOOT_DONE 1).put INT_BOOT_ALM_FAIL (fail / 4)).put INT_BOOT_MGMT_FAIL (fail / 2)).put INT_BOOT_MDLL_FAIL fail
  if fail % 8 = 0 then s else s.tripNow cIntegrity

/-- The bank in use (R404), by the banks' states. -/
def bootBank (s : Hw) : Nat :=
  if s.nv.bank0.valid ∧ s.nv.bank1.valid then (if s.nv.bank0.gen < s.nv.bank1.gen then 1 else 0)
  else if s.nv.bank1.valid then 1 else 0

/-- A bank whose header is present and whose DIGEST fails. -/
def Bank.torn (b : Bank) : Bool := b.magic && !b.digestOk

/-- The newest entry of the ring about one of `objects`, a RECOVERED entry that names one among them. -/
def LogSt.lastAbout (l : LogSt) (objects : List Nat) : Option LogEntry :=
  (l.ring.map (·.2)).foldl (fun (x : Option LogEntry) e =>
    if objects.contains e.object || (e.object == 0xF2000002 && objects.contains e.old) then
      match x with
      | some y => if l.behind y.seq ≤ l.behind e.seq then some y else some e
      | none => some e
    else x) none

/-- The persistent objects (R415): the opcodes whose entries are about each, and whether the state agrees with such an entry. A
ROLEKEY_SET entry names no role, so it agrees where some role has its key. -/
def persistents (s : Hw) : List (List Nat × (LogEntry → Bool)) :=
  let dig := fun (bs : List Byte) => Config.shake256 bs 64 % 2 ^ 64
  [([0xF1000D05, 0xF1000D06], fun e => e.new == dig (s.nv.custKey.getD [])),
   ([0xF1000D07], fun e => (List.range 5).any fun r => e.new == dig (leBytes 32 (smapGet 0#256 s.nv.roleKeys r).toNat)),
   ([0xF1000C03], fun e => match s.nv.spb with | some b => e.new == spbCheck b | none => false),
   ([0xF1000301, 0xF1000303], fun e => e.new == (match s.bankUsed with | some b => b.gen | none => 0)),
   ([0xF1000D03], fun e => e.new == s.nv.prefSlot)]

/-- RECOVERED entries at boot: one for each persistent object whose state disagrees with the last entry about it (R415). -/
def bootRecovered (s : Hw) : Hw :=
  (persistents s).foldl (fun s p =>
    match s.log.lastAbout p.1 with
    | some e => if e.object = 0xF2000002 ∨ p.2 e then s else s.logInternal 0xF2000002 e.object 0
    | none => s) s

/-- The head found at boot (R416): the entry with the highest SEQ whose CHAIN follows from its predecessor's. One that does not is
discarded and its slot reused. -/
def LogSt.findHead : Nat → LogSt → LogSt
  | 0, l => l
  | n + 1, l =>
    if l.count = 0 then l
    else
      let e := smapGet blankLogEntry l.ring ((l.count - 1) % logSlots)
      let before := ({ l with count := l.count - 1 } : LogSt)
      if e.chain = Config.shake256 (leBytes 16 before.headChain ++ e.head) 128 then l
      else ({ before with ring := smapSet blankLogEntry l.ring ((l.count - 1) % logSlots) blankLogEntry,
                          exported := min l.exported (l.count - 1) } : LogSt).findHead n

/-- Keamen's tasks and the generators of LE22 and LE23 (R79). -/
def bootTasks (s : Hw) : Hw :=
  if s.flag SEC_BOOT_ROM_SERVER then s
  else
    let s := s.each (List.range 12) fun n s => loadTasks n [kernelDecl n] s
    s.each [22, 23] fun n s => loadTasks n (generatorDecls s.fwVersion n) s

/-- The working copy (R404, R405): the bank in use loaded, everything in force. -/
def bootStore (s : Hw) : Hw :=
  let torn := s.nv.bank0.torn || s.nv.bank1.torn
  let s := (s.put STO_STAT_BANK (bootBank s)).putb STO_STAT_TORN torn
  let s := loadStored s.storedNow (bankRegs s)
  let s := gooseBoot (groupsLoad (shfStat { s with live := s.regs }))
  let s := segbAll (kernelLoad (userActive s))
  cfgJudge (checkEnter s.checkValue (shapeReport (rampInit s)))

/-- The converters: foreground calibration (R51), the spares' jobs, the housekeeping sequences. -/
def bootConverters (fits : List (Option (Int × Int))) (s : Hw) : Hw :=
  let s := calRecordAll fits s
  let s := s.each (List.range 32) calApply
  let s := s.each [0, 1] fun n s => s.onSpare n fun p => { p with modeDue := true }
  s.each [0, 1] fun n s => if s.flag (HKCn_CFG_EN n) then hkcEnable n true s else s

/-- The safety island (R367, R368, R369): the confirmed block, PROOF_AGE; a stored block that fails its check value is an island
fault. -/
def bootSafety (ok : Bool) (s : Hw) : Hw :=
  let conf := match s.nv.spb with | some b => spbOk b | none => false
  let s := s.onSaf fun c => { c with spb := s.nv.spb, apply := conf, ready := ok }
  let s := match s.nv.spb with
    | some b =>
      let s := s.put SAF_CHECK_CHECK (spbCheck b)
      if leNat (b.drop 0xFC) = spbCheck b then s else safFault SAF_FAULT_CFG_CRC s
    | none => s
  ((s.put SAF_PROOF_PROOF_AGE s.nv.proofAge).putb SAF_STAT_PROOF_DUE (decide (365 < s.nv.proofAge))).putb SYS_MODE_SAFETY_UNCONF (!conf)

/-- Almanac, twins and the Chronograph as boot finds them. -/
def bootBlocks (b : BootIn) (s : Hw) : Hw :=
  let n := min b.ticks 50000
  let s := { s with time := { s.time with ns := 2000 * n, tickNo := n, ticks := n, base := 512 * n } }
  let s := if s.time.aonOk then ((s.put ALM_STAT_BK_VALID 1).put ALM_BKSEC_BKSEC ((s.time.aonSec + b.aonSec) % 2 ^ 32)) else s
  let s := s.putb SYS_MODE_ACTIVE (!b.reeve && !s.flag TW_CFG_TWIN_EN)
  (s.put CHR_STAT_DDR_GIB b.ddrGib).putb CHR_STAT_DDR_OK (decide (b.ddrGib ≠ 0))

/-- The power-on mode (R41), and the BOOT entry; a part strapped to REEVE reports 0b111 (Table MOD-1). -/
def bootMode (s : Hw) : Hw :=
  let reasons := s.get SYS_MODE_FW_UNVERIFIED + s.get SYS_MODE_DEVID_MISMATCH + s.get SYS_MODE_CFG_INVALID + s.get SYS_MODE_SAFETY_UNCONF
  let m := if s.strapReeve then 7 else if reasons = 0 then mBlocked else mCommission
  let s := s.put SYS_MODE_MODE m
  let s := { s with ops := { s.ops with modeTick := s.ticks }, inReset := false }
  let s := s.putb GFL_STAT_TRACK (decide (m = mBlocked))
  let s := s.logInternal 0xF2000001 (s.get SEC_BOOT_RES0 + 16 * s.get SEC_BOOT_RES1)
    (s.get STO_STAT_BANK + 2 * s.get STO_STAT_TORN)
  bootRecovered s

/-- RESET_RELEASE: 2 ms after the last reset condition ends; boot runs to the mode decision. A part strapped to the reserved code of
REF_FSEL stays in reset (R319). -/
def resetRelease (b : BootIn) (s : Hw) : Hw :=
  let p := s.pwr
  if !s.inReset || p.hold || p.holdAon || p.hot || decide (p.up ≠ 255) || decide (b.ref % 4 = 3) then s
  else
    let s := { s with log := s.log.findHead (min s.log.count logSlots) }
    let s := bootFirmware (bootLoops b (bootStraps b s))
    let s := bootTests b.testFail s
    let s := bootStore (bootTasks s)
    let s := bootSafety b.safOk (bootConverters b.fits s)
    bootMode ((secRegs s).logRegs |> bootBlocks b)

/-! ### Register writes: SYS_IOCFG -/

/-- SYS_IOCFG out of range (R442, Table PKG-14). -/
def ioCfgBad (t : Hw) : Bool :=
  decide (1 < t.get SYS_IOCFG_SLEW2) || decide (64 < t.get SYS_IOCFG_LOS_FLT) || (List.range 4).any (clkoutBad t)

/-! ### Events -/

/-- POWER_UP. -/
def execPowerUp (rises : List RailRise) (s : State) : Host.Outcome State Fault Refusal := .next (s.onReset (powerUp rises))

/-- POWER_DOWN. -/
def execPowerDown (down anaUs allDownUs aonDownUs : Nat) (s : State) : Host.Outcome State Fault Refusal :=
  .next (s.onReset (powerDown down anaUs allDownUs aonDownUs))

/-- BROWN_OUT. -/
def execBrownOut (rail : Nat) (s : State) : Host.Outcome State Fault Refusal :=
  .next (s.onReset fun s => if rail < 8 then brownOut rail s else s)

/-- RESET_N_LOW. -/
def execResetNLow (ns : Nat) (taken : Bool) (s : State) : Host.Outcome State Fault Refusal := .next (s.onReset (resetN ns taken))

/-- THERMAL_LIMIT. -/
def execThermalLimit (deg : Int) (s : State) : Host.Outcome State Fault Refusal := .next (s.onReset (thermal deg))

/-- SOFT_RESET. -/
def execSoftReset (s : State) : Host.Outcome State Fault Refusal := .next (s.onReset softReset)

/-- RESET_RELEASE. -/
def execResetRelease (boot : BootIn) (s : State) : Host.Outcome State Fault Refusal := .next (s.onHw (resetRelease boot))

end Sys2Proof.Machine
end

