-- ==== Sys2Proof/Machine/RegAccess.lean ====
section
/-! DEFINITION. Register access (R4, R27, R28, R398 to R400, R414): the windows, reads with their side effects, writes as the owning
block judges them, STORE_REVERT through the same writes, and the end or the cancelling of a rest time (R40). -/

namespace Sys2Proof.Machine

/-! ### The address map (Table TCK-13) -/

/-- A window: its first and last address, and whether register access may write it. -/
structure Window where
  first : Nat
  last : Nat
  writable : Bool
deriving DecidableEq, Repr

/-- The windows. Safety island and change log are read only (R28, R398). -/
def windows : List Window :=
  [⟨0, 0x3FFFF, false⟩, ⟨0x10000000, 0x101FFFFF, false⟩] ++
  ((List.range 20).map fun k => ⟨0x20000000 + 0x10000 * k, 0x2000FFFF + 0x10000 * k, k != 13 && k != 18⟩) ++
  [⟨0x21000000, 0x2117FFFF, true⟩, ⟨0x22000000, 0x2202FFFF, true⟩, ⟨0x30000000, 0x31FFFFFF, false⟩]

/-- The window of an address. -/
def windowOf (a : Nat) : Option Window := windows.find? fun w => decide (w.first ≤ a) && decide (a ≤ w.last)

/-! ### Reads (R400) -/

/-- A word of bank `b`'s copy of an alternated record, `o` bytes from its start at `base`: its header has the form of a bank's (R402);
of a copy that was never written nothing is known. -/
def recordRead {α : Type} (r : AltRec α) (b base o magic : Nat) : Word :=
  let c := r.copy b
  if !c.magic then Config.storeWord b c.writes (base + o)
  else if o = 0 then BitVec.ofNat 32 magic
  else if o = 4 then BitVec.ofNat 32 c.gen
  else if o = 8 then BitVec.ofNat 32 c.writes
  else if 0x14 ≤ o ∧ o < 0x20 then 0#32
  else Config.storeWord b c.writes (base + o)

/-- A word of the configuration store (Tables STO-1 and STO-2), `o` bytes from the start of bank `b`: the headers of the records, the
identity, then the configuration regions. -/
def storeRead (s : Hw) (b o : Nat) : Word :=
  let x := s.nv.bank b
  if 0xF0000 ≤ o ∧ o < 0xF4000 then recordRead s.nv.keyRec b 0xF0000 (o - 0xF0000) 0x31524B4B
  else if 0xF4000 ≤ o ∧ o < 0xF4000 + 2888 then BitVec.ofNat 32 (leNat (chunk Config.identity (o - 0xF4000) 4))
  else if 0xF8000 ≤ o ∧ o < 0xFA000 then recordRead s.nv.safRec b 0xF8000 (o - 0xF8000) 0x3152534B
  else if 0xFA000 ≤ o ∧ o < 0xFC000 then recordRead s.nv.cntRec b 0xFA000 (o - 0xFA000) 0x3152434B
  else if o = 0 ∧ x.erased ∧ !x.magic then 0#32
  else if x.writes = 0 then Config.storeWord b 0 o
  else if o = 0 then (if x.magic then 0x3153434B#32 else Config.storeWord b x.writes 0)
  else if o = 4 then BitVec.ofNat 32 x.gen
  else if o = 8 then BitVec.ofNat 32 x.writes
  else if o = 12 then BitVec.ofNat 32 x.cfgFmt
  else if 0x14 ≤ o ∧ o < 0x20 then 0#32
  else if 0x30 ≤ o ∧ o < 0x40 then BitVec.ofNat 32 (x.cfgCheck / 2 ^ (8 * (o - 0x30)))
  else Config.storeWord b x.writes o

/-- The address is that of a slot register. -/
def isSlotReg (a : Nat) : Bool := decide (VSQ_SLOTa_j 0 0 ≤ a) && decide (a < 0x20087000) && decide (a % 0x1000 < 3072)

/-- The word at address `a` as it stands, with no side effect (R388); `m` is the capture memory. -/
def Hw.peek (s : Hw) (m : Memory) (a : Nat) : Word :=
  if a < 0x40000 then BitVec.ofNat 32 (leNat ((List.range 4).map fun i => Config.bootRom (a + i)))
  else if a < 0x20000000 then storeRead s ((a - 0x10000000) / 0x100000) (a % 0x100000)
  else if 0x30000000 ≤ a then BitVec.ofNat 32 (leNat ((List.range 4).map fun i => sramByte s m (a - 0x30000000 + i)))
  else if isSlotReg a then s.slotView ((a - VSQ_SLOTa_j 0 0) / 0x1000) (a % 0x1000 / 4)
  else s.view a

/-- What lazily computed blocks show is brought up to the present instant before their registers are accessed. -/
def prepared (a : Nat) (s : Hw) : Hw := if a / 0x10000 = 0x200A then legsNow s else s

/-- A read of the word at `a` with its side effects (R64, R77, R302, R312). -/
def readWord (m : Memory) (a : Nat) (s : Hw) : Word × Hw :=
  if a = ALM_NS then almCapture s
  else if a = HKCn_DATA 0 then hkcReadData 0 s
  else if a = HKCn_DATA 1 then hkcReadData 1 s
  else if a = ALM_TXTSp_ID 0 then txReadId 0 s
  else if a = ALM_TXTSp_ID 1 then txReadId 1 s
  else if SVn_TDm_MAG2 0 0 ≤ a ∧ a ≤ SVn_TDm_MAG2 1 15 ∧ (a - SVn_TDm_MAG2 0 0) % 0x10 = 0 ∧ (a - SVn_TDm_MAG2 0 0) % 0x200 < 0x100 then
    toneReadMag2 ((a - SVn_TDm_MAG2 0 0) / 0x200) ((a - SVn_TDm_MAG2 0 0) % 0x200 / 0x10) s
  else
    let s := prepared a s
    (s.peek m a, s)

/-- `n` words from `a` upwards, in ascending address order. -/
def readWords (m : Memory) : Nat → Nat → Hw → List Byte × Hw
  | _, 0, s => ([], s)
  | a, n + 1, s =>
    let (w, s) := readWord m a s
    let (bs, s) := readWords m (a + 4) n s
    (leBytes 4 w.toNat ++ bs, s)

/-- The body of REG_READ. A count that is out of range or runs past the end of the window comes first (R448). -/
def regRead (m : Memory) (a n : Nat) (s : Hw) : Done :=
  match windowOf a with
  | none => if outside 1 256 n then refuse s .range else refuse s .addrUnmapped
  | some w =>
    checked s [(outside 1 256 n || decide (w.last < a + 4 * (n - 1)), .range), (decide (a % 4 ≠ 0), .align)]
      (let (bs, t) := readWords m a n s
       answer t bs)

/-! ### Writes (R398) -/

/-- Writes in the SYS window (R21, R25, R36, R37, R442). -/
def sysWrite (s : Hw) (w : Wr) : Judged :=
  let t := s.writeAs w
  if w.addr = SYS_TICKCFG then
    judge [(!s.cfgMode, .modeNotAllowed), (outside 880 1980 (w.val SYS_TICKCFG_LAUNCH_OFS), .range)]
      (shfStat (t.putb SYS_TICKCFG_LO_PEND (decide (t.get SYS_TICKCFG_LAUNCH_OFS ≠ s.liveGet SYS_TICKCFG_LAUNCH_OFS))))
  else if w.addr = SYS_TLMAX then .ok ((t.put SYS_TLMAX_SEQ_DONE_MAX 0).put SYS_TLMAX_SIEVE_DONE_MAX 0)
  else if w.addr = SYS_MODECFG then
    judge [(!s.cfgMode, .modeNotAllowed), (modecfgRangeBad t, .range),
        (w.touches SYS_MODECFG_HOLD_STYLE && holdRefused s (t.get SYS_MODECFG_HOLD_STYLE) (s.geti SYS_BLKCFG_BYPASS_VDC_MAX), .conditionUnmet)]
      (if w.touches SYS_MODECFG_HOLD_STYLE then holdWritten t else t)
  else if w.addr = SYS_BLKCFG then judge [(!s.cfgMode, .modeNotAllowed), (modecfgRangeBad t, .range)] t
  else if w.addr = SYS_IOCFG then judge [(!s.cfgMode, .modeNotAllowed), (ioCfgBad t, .range)] t
  else .ok t

/-- Writes in the Security window (R414). -/
def storeWrite (s : Hw) (w : Wr) : Judged :=
  let t := s.writeAs w
  if w.addr = SEC_CFG then judge [(secCfgBad t, .range)] t else .ok t

/-- A write as the block that owns the register judges it. -/
def blockWrite (s : Hw) (w : Wr) : Judged :=
  let p := w.addr / 0x10000
  if p = 0x2000 then sysWrite s w
  else if p = 0x2001 then oryWrite s w
  else if p = 0x2002 then almWrite s w
  else if p = 0x2003 then fchWrite s w
  else if p = 0x2004 then sieveWrite s w
  else if p = 0x2005 then hkcWrite s w
  else if p = 0x2006 then
    if w.addr < 0x20061000 then leWrite s w
    else if w.addr < 0x20061100 then gflWrite s w
    else if w.addr < 0x20061200 then lftWrite s w
    else engWrite s w
  else if p = 0x2007 then rampWrite s w
  else if p = 0x2008 then vsqWrite s w
  else if p = 0x2009 then if w.addr < 0x20090200 then shlWrite s w else shfWrite s w
  else if p = 0x200A then lstWrite s w
  else if p = 0x200B then swpWrite s w
  else if p = 0x200C then chrWrite s w
  else if p = 0x200E then twinWrite s w
  else if p = 0x200F then netWrite s w
  else if p = 0x2011 then storeWrite s w
  else if p = 0x2013 then if w.addr < 0x20130100 then cdcWrite s w else intWrite s w
  else if 0x2100 ≤ p ∧ p < 0x2200 then leWrite s w
  else if w.addr % 0x1000 < 0x100 then shlWrite s w
  else shfWrite s w

/-- A write of `value` under `mask` to a register described by `d`: value bits replaced, W1C flags cleared, WO bits to act. -/
def formWr (s : Hw) (d : RegDesc) (a mask value : Nat) : Wr :=
  let m := mask &&& (d.rws ||| d.rw)
  let c := mask &&& value &&& d.w1c
  let old := (s.reg a).toNat
  { addr := a, mask := m ||| c, old := s.reg a, acts := mask &&& value &&& d.wo
    new := BitVec.ofNat 32 ((old - (old &&& (m ||| c))) + (value &&& m)) }

/-- The role that a change of value bits needs, by the opcodes that write the field (R414). -/
def valueRole (a : Nat) : Role :=
  if a = SEC_CFG then .service
  else if a = ALM_INCL ∨ a = ALM_INCH then .operator
  else if SVn_TDm_CFG 0 0 ≤ a ∧ a < 0x20042400 then .operator
  else if LEGn_CFG 0 ≤ a ∧ a < LEGn_CFG 12 ∧ ((a - LEGn_CFG 0) % 0x20 = 4 ∨ (a - LEGn_CFG 0) % 0x20 = 8) then .operator
  else .engineer

/-- The role that a W1C flag or a WO action needs: that of the opcode that performs it, else OPERATOR. -/
def actRole (a : Nat) : Role :=
  if a = SV_USERCTL ∨ a = SHAPE_CTRL ∨ (CHR_HISTh_CFG 0 ≤ a ∧ a < CHR_XSP_CFG) then .engineer else .operator

/-- A write changes a field that the role does not reach. An increment word acts whatever its value. -/
def roleBars (own : Option Role) (d : RegDesc) (w : Wr) : Bool :=
  let vbits := ((w.old ^^^ w.new).toNat &&& (d.rws ||| d.rw))
  let value := decide (vbits ≠ 0) || ((w.addr == ALM_INCL || w.addr == ALM_INCH) && decide (w.mask ≠ 0))
  let act := decide (w.acts ≠ 0) || decide ((w.old ^^^ w.new).toNat &&& d.w1c ≠ 0)
  match own with
  | some r => (value && !roleMeets r (valueRole w.addr)) || (act && !roleMeets r (actRole w.addr))
  | none => value || act

/-- A masked bit of an RO or reserved field differs from its present read value. -/
def roBars (s : Hw) (d : RegDesc) (a mask value : Nat) : Bool :=
  let ro := mask - (mask &&& (d.rws ||| d.rw ||| d.w1c ||| d.wo))
  decide (ro &&& (value ^^^ (s.peek [] a).toNat) ≠ 0)

/-- The address is that of a loop's configuration. -/
def isMdllCfg (a : Nat) : Bool := (List.range 4).any fun m => a == ORY_MDLLm_CFG m

/-- The entries of an accepted write: its register's, or its action's; an increment's are summarised (R306, R415). -/
def writeLog (s t : Hw) (w : Wr) : List Chg :=
  let d := regChg s t w.addr
  if w.addr = ALM_INCL ∨ w.addr = ALM_INCH then []
  else if isMdllCfg w.addr ∧ d = [] ∧ w.old ≠ w.new then [⟨w.addr, w.old.toNat, w.new.toNat, false⟩]
  else if d = [] ∧ w.acts ≠ 0 then [⟨w.addr, 0, w.acts, false⟩]
  else d

/-- One word written: refused with a status, or the new state, its log entries and whether its effect is deferred. -/
def writeWord (own : Option Role) (a mask value : Nat) (s : Hw) : Except Status (Hw × List Chg × Bool) :=
  match windowOf a with
  | none => .error .addrUnmapped
  | some win =>
    if !win.writable then .error .addrDenied
    else if a % 4 ≠ 0 then .error .align
    else match regDesc a with
      | none => .ok (s, [], false)
      | some d =>
        let u := prepared a s
        let w := formWr u d a mask value
        if roBars u d a mask value then .error .regRo
        else if roleBars own d w then .error .roleDenied
        else if w.mask = 0 ∧ w.acts = 0 then .ok (s, [], false)
        else match blockWrite u w with
          | .error st => .error st
          | .ok t => .ok (t, writeLog u t w, isMdllCfg a && (t.mdllPend ((a - ORY_MDLLm_CFG 0) / 0x10)).isSome)

/-- Bits [35:32] that a masked write of ALM_INCH submits. -/
def inchWritten (s : Hw) (mask value : Nat) : Nat :=
  let m := mask % 16
  let old := s.get ALM_INCH_INCH
  (old - (old &&& m)) + (value &&& m)

/-- A single register write: REG_WRITE, and the writes that the operation table lists by themselves. An increment that only some
modes admit waits for its tick (R304). -/
def regWrite (h : Hdr) (a mask value : Nat) (s : Hw) : Done :=
  let inc := decide (a = ALM_INCH) && decide (mask % 16 ≠ 0)
  match writeWord (s.roleOf h) a mask value s with
  | .error st =>
    if inc && !(st == .regRo || st == .roleDenied) then incSubmit h 0x1001 (s.incStaged (inchWritten s mask value)) s else refuse s st
  | .ok (t, log, late) =>
    if inc then incSubmit h 0x1001 (s.incStaged (inchWritten s mask value)) s
    else { hw := t, log := log, status := if late then .enableDeferred else .ok }

/-- A block of words: each judged with the words before it in place; the first refused one and its index (R399). -/
def writeWords (own : Option Role) : Nat → Nat → List Nat → Hw → Except (Status × Nat) (Hw × List Chg × Bool)
  | _, _, [], s => .ok (s, [], false)
  | a, i, v :: vs, s =>
    match writeWord own a 0xFFFFFFFF v s with
    | .error st => .error (st, i)
    | .ok (t, log, late) =>
      match writeWords own (a + 4) (i + 1) vs t with
      | .error e => .error e
      | .ok (u, log', late') => .ok (u, log ++ log', late || late')

/-- The block submits an increment that only some modes admit: its tick's mode decides (R304). -/
def blockIncFar (a : Nat) (vs : List Nat) (s : Hw) : Bool :=
  let at_ := fun (r : Nat) => if a ≤ r then vs[(r - a) / 4]? else none
  match at_ ALM_INCH with
  | none => false
  | some hi =>
    let v := hi % 16 * 2 ^ 32 + ((at_ ALM_INCL).getD (s.time.stageLow.getD (s.get ALM_INCL_INCL))) % 2 ^ 32
    a % 4 == 0 && incNear limAny v && !incNear limRun v

/-- A block judged and written in the tick in progress. A refused one performs nothing of any word (R399). -/
def blockNow (own : Option Role) (a : Nat) (vs : List Nat) (s : Hw) : Done :=
  match writeWords own a 0 vs s with
  | .error (st, i) => refuseWith s st (leBytes 2 i)
  | .ok (t, log, late) => { hw := t, log := log, status := if late then .enableDeferred else .ok }

/-- The body of REG_WRITE_BLOCK. A block whose increment its tick's mode decides is judged and written as a whole in that tick. -/
def regWriteBlock (h : Hdr) (a : Nat) (vs : List Nat) (s : Hw) : Done :=
  if outside 1 256 vs.length then refuse s .range
  else match windowOf a with
  | none => refuseWith s .addrUnmapped (leBytes 2 0)
  | some w =>
    if w.last < a + 4 * (vs.length - 1) then refuseWith s .range (leBytes 2 ((w.last - a) / 4 + 1))
    else if blockIncFar a vs s then
      { hw := { s with time := { s.time with blkNext := s.time.blkNext ++ [(h, a, vs)] } }, wait := some .inc }
    else blockNow (s.roleOf h) a vs s

/-- The blocks that wait for the mode of the tick that begins (R304, R399). -/
def blocksBoundary (s : Hw) : Hw :=
  s.time.blkNext.foldl (fun s r =>
    let d := blockNow (s.roleOf r.1) r.2.1 r.2.2 s
    let d := if d.refused s then refuse s .logFull else d
    let t := if d.log.isEmpty then d.hw
      else (d.hw.logAll (fun _ => s.time.tickNo) (logOrigin r.1.transport (s.roleOf r.1) r.1.port) r.1.session d.log).raise STO_STAT_CHK_BUSY
    t.finish (fun w => decide (w.kind = .inc) && decide (w.hdr = r.1)) (fun _ => d.status) (fun _ => d.data))
    { s with time := { s.time with blkNext := [] } }

/-! ### STORE_REVERT (R404, R405) -/

/-- The registers that a hub's configuration is made of (R248). -/
def isHubReg (a : Nat) : Bool := a == SHF_CTRL || a == SHF_TOL || (List.range numLanes).any fun n => decide (LNn_FBk n 0 ≤ a) && decide (a ≤ LNn_FBk n 2)

/-- A register of the working copy takes its stored value, as a write of the owning block where it allows it; those of the hubs'
configuration, CFG_SEQ among them, are copied as they are. -/
def revertReg (c : Stored) (a : Nat) (s : Hw) : Hw :=
  let v := storedWord c a (s.reg a)
  if v = s.reg a then s
  else if isHubReg a then s.setReg a v
  else if SVn_CHk 0 0 ≤ a ∧ a < SVn_STAT 1 ∧ (a - SVn_CHk 0 0) % 0x100 < 0x40 then
    -- a selection takes effect with the user sets that the copy brings (R71, R405)
    let n := (a - SVn_CHk 0 0) / 0x100
    let k := (a - SVn_CHk 0 0) % 0x100 / 4
    chSelect n k (some ((SVn_CHk_CTL_SET n k).of v)) (some ((SVn_CHk_REC_SET n k).of v)) s
  else
    let w : Wr := { addr := a, mask := storedBits a, old := s.reg a, new := v, acts := 0 }
    match blockWrite s w with
    | .ok t => t.setReg a (storedWord c a (t.reg a))
    | .error _ => s.setReg a v

/-- A configuration of the hubs that the copy has changed is sent again (R248). -/
def hubRevert (old s : Hw) : Hw :=
  if old.get SHF_CTRL_CFG_SEQ = s.get SHF_CTRL_CFG_SEQ ∧ old.get SHF_TOL_HUB_L = s.get SHF_TOL_HUB_L ∧
      (List.range numLanes).all (fun n => old.fallback n == s.fallback n) then s
  else hubsConfigure s

/-- The bank in use is copied back at a frame boundary. -/
def revertFrame (s : Hw) : Hw :=
  if !s.sto.revertPend then s
  else
    let old := s
    let c := s.storedNow
    let s := s.onSto fun t => { t with revertPend := false }
    -- an image's own Region Selector settings come first: the stored words stand over them, as at boot
    let s := loadImage c s
    let s := loadGains c (s.each (s.storedAddrs c) (revertReg c))
    let s := (bankSet s (SHAPE_Aj 0) (bankWords s (SHAPE_Sj 0))).raise STO_STAT_CHK_BUSY
    let s := s.onSieve fun v => { v with user := [0, 1].foldl (fun u m => smapSet {} u m { smapGet {} u m with coefs := s.shadow m }) v.user }
    shfStat (hubRevert old (shapeReport (kernelLoad s)))

/-! ### Rest times and pending enables (R40) -/

/-- Every leg whose rest has elapsed. -/
def legsRestEnd (s : Hw) : Hw := s.each (List.range numLegs) restEnd

/-- REST_TIME_END, by the classes of Table MOD-6. -/
def restTimeEnd (cls : Nat) (s : Hw) : Hw :=
  match cls with
  | 0 => legsRestEnd s
  | 1 => valveRestEnd s
  | 2 => laneRestEnd s
  | 3 => chrRestEnd s
  | 4 => safRestEnd s
  | 5 => mdllRestEnd s
  | _ => s

/-- The pending enable of a class is cancelled. -/
def enableCancel (cls : Nat) (s : Hw) : Hw :=
  match cls with
  | 0 => legPend (s.each (List.range numLegs) fun n s => s.put (LEGn_STAT_PEND n) 0)
  | 1 => s.setPend 1 none
  | 2 => laneCancel s
  | 3 => chrCancel s
  | 4 => safCancel s
  | 5 => mdllCancel s
  | _ => s

/-- 0x0108 ENABLE_CANCEL (R40). -/
def execEnableCancel (h : Hdr) (cls : Nat) (s : State) : Host.Outcome State Fault Refusal :=
  .next (s.onHw (hostCmd (Op.plain 0x0108 .operator) (.enableCancel h cls) h fun s =>
    checked s [(decide (5 < cls), .range), (!bitOf (s.get SYS_PEND_PENDING) cls, .nothingPending), (s.twohandBars h, .twohandReq)]
      (change (enableCancel cls s) (cmdChg 0x0108 (2 ^ cls) 0))))

/-- REST_TIME_END of a class. -/
def execRestTimeEnd (cls : Nat) (s : State) : Host.Outcome State Fault Refusal := .next (s.onCap (onRun (restTimeEnd cls)))

/-! ### Register-access commands (Table CMD-12) -/

/-- A register read as a host command. -/
def readCmd (self : Instr) (h : Hdr) (addr count : Nat) (s : State) : Host.Outcome State Fault Refusal :=
  .next (s.onHw (hostCmd (Op.plain 0x1000 .viewer) self h (regRead s.capture addr count)))

/-- The row of REG_WRITE. -/
def writeOp : Op := Op.plain 0x1001 .viewer

/-- A register write as a host command. The role is judged for the fields that the write changes (R414), so step 9 of Table CMD-3
asks for none. A change of the management address closes the UDP sessions after the reply (R382). -/
def writeCmd (self : Instr) (h : Hdr) (op : Op) (body : Hw → Done) (s : State) : Host.Outcome State Fault Refusal :=
  .next (s.onCap fun hw => addressChange hw (hostCmd op self h body hw))

/-- 0x1000 REG_READ (R400). -/
def execRegRead (h : Hdr) (addr count : Nat) (s : State) : Host.Outcome State Fault Refusal :=
  readCmd (.regRead h addr count) h addr count s

/-- 0x1001 REG_WRITE (R398). -/
def execRegWrite (h : Hdr) (addr mask value : Nat) (s : State) : Host.Outcome State Fault Refusal :=
  writeCmd (.regWrite h addr mask value) h writeOp (regWrite h addr mask value) s

/-- 0x1002 REG_WRITE_BLOCK (R399). -/
def execRegWriteBlock (h : Hdr) (addr : Nat) (values : List Nat) (s : State) : Host.Outcome State Fault Refusal :=
  writeCmd (.regWriteBlock h addr values) h (Op.sized 0x1002 .viewer (8 + 4 * values.length)) (regWriteBlock h addr values) s

/-- SV_USERCTL.COMMIT written (R72). -/
def execSvUserctlCommit (h : Hdr) (s : State) : Host.Outcome State Fault Refusal :=
  writeCmd (.svUserctlCommit h) h writeOp (regWrite h SV_USERCTL 0x80000000 0x80000000) s

/-- SHAPE_CTRL.COMMIT written (R178). -/
def execShapeCtrlCommit (h : Hdr) (s : State) : Host.Outcome State Fault Refusal :=
  writeCmd (.shapeCtrlCommit h) h writeOp (regWrite h SHAPE_CTRL 0x80000000 0x80000000) s

/-- SYS_TLMAX.CLR written (R25). -/
def execSysTlmaxClr (h : Hdr) (s : State) : Host.Outcome State Fault Refusal :=
  writeCmd (.sysTlmaxClr h) h writeOp (regWrite h SYS_TLMAX 0x80000000 0x80000000) s

/-- LST_COMMIT written (R258). -/
def execLstCommit (h : Hdr) (legs : Nat) (s : State) : Host.Outcome State Fault Refusal :=
  writeCmd (.lstCommit h legs) h writeOp (regWrite h LST_COMMIT legs legs) s

/-- CLR of a histogram or of the map written (R348, R349). -/
def execChrHistClr (h : Hdr) (statUnit : Nat) (s : State) : Host.Outcome State Fault Refusal :=
  writeCmd (.chrHistClr h statUnit) h writeOp (regWrite h (statCfg statUnit) 0x40000000 0x40000000) s

/-- ALM_INCL written: only the low word is staged (R304). -/
def execAlmInclWrite (h : Hdr) (value : Nat) (s : State) : Host.Outcome State Fault Refusal :=
  writeCmd (.almInclWrite h value) h writeOp (regWrite h ALM_INCL 0xFFFFFFFF value) s

/-- ALM_INCH written: the 36-bit value is submitted (R304). -/
def execAlmInchWrite (h : Hdr) (value : Nat) (s : State) : Host.Outcome State Fault Refusal :=
  writeCmd (.almInchWrite h value) h writeOp (regWrite h ALM_INCH 0xFFFFFFFF value) s

/-- HKCn_DATA read (R64). -/
def execHkcnDataRead (h : Hdr) (conv : Nat) (s : State) : Host.Outcome State Fault Refusal :=
  readCmd (.hkcnDataRead h conv) h (HKCn_DATA conv) 1 s

/-- SVn_TDm_MAG2 read (R77). -/
def execTdMag2Read (h : Hdr) (engine det : Nat) (s : State) : Host.Outcome State Fault Refusal :=
  readCmd (.tdMag2Read h engine det) h (SVn_TDm_MAG2 engine det) 1 s

/-- ALM_NS read (R302). -/
def execAlmNsRead (h : Hdr) (s : State) : Host.Outcome State Fault Refusal := readCmd (.almNsRead h) h ALM_NS 1 s

/-- ALM_TXTSp_ID read (R312). -/
def execAlmTxtsIdRead (h : Hdr) (port : Nat) (s : State) : Host.Outcome State Fault Refusal :=
  readCmd (.almTxtsIdRead h port) h (ALM_TXTSp_ID port) 1 s

end Sys2Proof.Machine
end

