-- ==== Sys2Proof/Machine/Tick.lean ====
section
/-! DEFINITION. The fixed points of a tick that concern every block (Table TCK-3, R10 to R17, R308): the tick boundary, ADC strobes,
input release, Sequencer latch, frame release, and the application of a time step. -/

namespace Sys2Proof.Machine

/-! ### The inputs of a tick (R17, R84, Table LPE-3) -/

/-- The tick header, by word: tick number (low word first), position in frame, position in slow cycle, mode, TICK_STEP, ACTIVE. The
spec lists the items and not their places. -/
def headerWords (s : Hw) : List Nat :=
  [s.time.tickNo % 65536, s.time.tickNo / 65536, s.time.tickNo % 16, s.slowPos, s.mode, if s.time.tickStep then 1 else 0,
   if s.active then 1 else 0]

/-- HKC0_DATA and HKC1_DATA as words 0x100 to 0x103. -/
def hkcWords (s : Hw) : List Nat :=
  [0, 1].flatMap fun n => let w := (s.reg (HKCn_DATA n)).toNat; [w % 65536, w / 65536]

/-- The inputs latched at cycle 0: what arrived before it, beside what the Sieve and the ramps deliver for the tick. -/
def latchInputs (s : Hw) : Hw :=
  let old : SMap Nat := s.xin.filter fun p => decide (0x20 ≤ p.1) && decide (p.1 < 0x40)
  let late : SMap Nat := s.xin.filter fun p => decide (0x5000 ≤ p.1)
  let arr : SMap Nat := s.xarr.filter fun p => decide (0x40 ≤ p.1) && decide (p.1 < 0x5000)
  let x : SMap Nat := old ++ arr ++ late
  let x := (headerWords s).zipIdx.foldl (fun x p => smapSet 0 x p.2 p.1) x
  { s with xin := (hkcWords s).zipIdx.foldl (fun x p => smapSet 0 x (0x100 + p.2) p.1) x }

/-- Input release at cycle 110: the input area holds the tick's inputs; in a frame's first tick they are what its FRAME tasks read. -/
def inputRelease (s : Hw) : Hw :=
  let s := snapLe (s.atCyc 110)
  let s := { s with xram := (s.xin.filter fun (p : Nat × Nat) => decide (p.1 < 0x5010)) ++ s.xram.filter fun (p : Nat × Nat) => decide (0x5010 ≤ p.1) }
  if s.frameStart then
    s.onLe fun c => { c with
      frameX := s.xram
      frameSlots := (s.regs.filter fun r => decide (VSQ_SLOTa_j 0 0 ≤ r.1) && decide (r.1 < 0x20087000)).map fun r =>
        (r.1, s.inForce ((r.1 - VSQ_SLOTa_j 0 0) / 0x1000) (r.1 % 0x1000 / 4) r.2) }
  else s

/-! ### Time at a boundary (R10 to R12) -/

/-- The next tick begins: Almanac stands at its cycle 0. -/
def nextTickBegins (s : Hw) : Hw :=
  let n := s.tickLen
  let (sec, ns, frac) := s.timeAt n
  let t := s.time
  { s with time := { t with
    sec := sec, ns := ns, frac := frac, base := t.base + n, cyc := 0, gapTo := none, tickNo := tickNumber sec ns,
    tickStep := t.gapTo.isSome, ticks := t.ticks + 1, firstOfSlow := decide (ns % 1000000 / 2000 = 0) } }

/-- The crossing SAFE → CORE of the safety state (Table ORY-5, XID by the domain ids of Table ORY-3). -/
def xidSafety : Nat := 0x9000

/-- The states of the safety island that the tick has latched, and its cause (R17, R364); `held` says that their crossing was unstable, so
that the values accepted last stand (R329). -/
def safetyLatch (held : Bool) (s : Hw) : Hw :=
  let stop := if held then s.ops.safStop else s.flag SAF_STAT_STOP_REQ
  let s := if held then s else
    { s with ops := { s.ops with safStop := stop, safPerm := s.flag SAF_STAT_DEBLOCK_PERM, safTwohand := s.flag SAF_STAT_TWOHAND_OK } }
  let s := s.causeActive cSafety stop
  if stop then s.tripNow cSafety else s

/-! ### The tick boundary -/

/-- What a time step ends and starts anew, in the first tick under the new time (R200, R224, R308, R356). -/
def stepBoundary (s : Hw) : Hw := chrStepTick (lanesStep (vsqStep s))

/-- What takes effect at a frame boundary, in a part that is no Reeve. -/
def frameBoundary (s : Hw) : Hw :=
  let s := injTick (mirrorFrame (modeFrame s))
  let s := telemFrame (netSubFrame s)
  let s := sieveFrame (fchFrame s)
  let s := leFrame (xspFrame s)
  let s := shapeFrame (stageFrame s)
  lanesFrame (vsqFrame s)

/-- The blocks at cycle 0 of a tick, after mode and role: `tripped` marks the first tick in TRIPPED, `step` one that a time step
began, `ti` that the tick that ended met every condition of Table TCK-6. -/
def blockBoundary (tripped step ti : Bool) (s : Hw) : Hw :=
  let s := sieveTick (fchTick (chrTick ti s))
  let s := if s.time.firstOfSlow then hkcSlow s else s
  let s := leTick s.frameStart s.time.firstOfSlow s
  let s := vsqBoundary (rampTick (kernelTick step false s))
  -- a latch that an enable of this tick sets belongs to the next (R271)
  let s := legsTick tripped (swpTick (s.latch [SHF_CTRL, LE_CLCFG]))
  gooseClear (gooseTick (latchInputs (lanesLost s)))

/-- Mode, role and blocks of a part that is no Reeve. -/
def valveBoundary (held step ti : Bool) (s : Hw) : Hw :=
  let old := s.mode
  let s := safetyLatch held (blocksBoundary (modeBoundary s))
  let s := injTick (bringupTick (losAll (twinRole step (if step then stepBoundary s else s))))
  let s := incBoundary old (if s.frameStart then frameBoundary s else s)
  blockBoundary (decide (s.mode = mTripped) && decide (old ≠ mTripped)) step ti s

/-- The tick in progress ends and the next begins, for the clocks. -/
def tickOver (s : Hw) : Hw := searchTick (nextTickBegins (outsSettle (s.atCyc (s.tickLen - 1))))

/-- The spread generator where a frame begins (R324). -/
def spreadBoundary (s : Hw) : Hw := if s.frameStart then sscFrame s else s

/-- TICK_BOUNDARY: the tick in progress ends and the next begins. Once the core clock is lost, only what runs from
the timebase goes on: Almanac with its increments, the legs and the ramps (R165, R326), beside the loops; and no tick is guaranteed
(R24). -/
def tickBoundary (held : Bool) (s : Hw) : Hw :=
  if s.inReset || s.time.clockLost then s
  else if s.flag ORY_MON_CORE_LOSS then
    let s := spreadBoundary (tickOver ((legsNow s).put SYS_TISTAT_TI_NOW 0))
    let s := rampTick (legsNow (incBoundary s.mode (blocksBoundary s)))
    { s with twin := { s.twin with hbRun := false } }
  else
    let s := twinEnd (intEnd s)
    let ti := s.flag SYS_TISTAT_TI_NOW
    let s := intBegin (incSummary (tickOver s))
    let s := spreadBoundary s
    let s := if s.frameStart then (revertFrame s).latch [SYS_IOCFG] else s
    if s.strapReeve then reeveTick (incBoundary s.mode (blocksBoundary s)) else valveBoundary held s.time.tickStep ti s

/-! ### Strobes, releases, steps -/

/-- ADC_STROBE: the next strobe, in the cycle in which Almanac time reaches or crosses a multiple of 125 ns (R48). The strobes go on
between a time step and the boundary after it (R49). -/
def adcStrobe (s : Hw) : Hw :=
  if s.time.clockLost || (decide (16 ≤ s.fch.strobe) && s.time.gapTo.isNone) then s
  else fchStrobe (chrStrobe (s.atCyc (max s.time.cyc s.strobeCyc)))

/-- FRAME_RELEASE at cycle 221; `done` is the Sequencer's completion in cycles (R25), `bad` the corrupted bundles of boundary 3. -/
def frameRelease (bad : List Nat) (done : Nat) (s : Hw) : Hw :=
  let s := (s.atCyc 221).put SYS_TLMAX_SEQ_DONE_MAX (max (s.get SYS_TLMAX_SEQ_DONE_MAX) (min done 511))
  let s := if 221 < done then s.clockTol else { s with twin := { s.twin with released := true } }
  snapRelease (telemRelease (chrRelease (releaseFrames bad s)))

/-- STEP_APPLY: a step that changes the time ends the tick in progress (R308). -/
def stepNow (s : Hw) : Hw :=
  let (done, s) := stepApply s
  if done then lanesCut (chrStep (tonesAbort { s with vsq := { s.vsq with lastOld := s.time.tickNo } })) else s

/-- TICK_BOUNDARY; `unstable` and `overflow` name crossings that have reported CDC_UNSTABLE or PULSE_OVF (R329 to R331). -/
def execTickBoundary (unstable overflow : List Nat) (s : State) : Host.Outcome State Fault Refusal :=
  .next (s.onCap (onRun fun s => overflow.foldl (fun s x => cdcOverflow x s) (unstable.foldl (fun s x => cdcUnstable x s)
    (tickBoundary (unstable.contains xidSafety) s))))

/-- ADC_STROBE. -/
def execAdcStrobe (s : State) : Host.Outcome State Fault Refusal := .next (s.onCap (onCore adcStrobe))

/-- INPUT_RELEASE. -/
def execInputRelease (s : State) : Host.Outcome State Fault Refusal := .next (s.onHw (onTick inputRelease))

/-- SEQUENCER_LATCH: `bad` are the genuine boundary-2 failures, `shadowBad` a difference of the shadow unit. -/
def execSequencerLatch (bad : List Nat) (shadowBad : Bool) (s : State) : Host.Outcome State Fault Refusal :=
  .next (s.onHw (onTick fun s => legsLatch (sequencerLatch bad shadowBad s)))

/-- FRAME_RELEASE. -/
def execFrameRelease (bad : List Nat) (done : Nat) (s : State) : Host.Outcome State Fault Refusal :=
  .next (s.onCap (onTick (frameRelease bad done)))

/-- STEP_APPLY. -/
def execStepApply (s : State) : Host.Outcome State Fault Refusal :=
  .next (s.onCap (onRun fun s => if s.time.clockLost || s.time.gapTo.isSome then s else stepNow s))

end Sys2Proof.Machine
end

