-- ==== Sys2Proof/Machine/Dispatch.lean ====
section
/-! DEFINITION. The dispatch of a command to its meaning: one arm for each constructor of `Instr`. -/

namespace Sys2Proof.Machine

def exec (i : Instr) (s : State) : Host.Outcome State Fault Refusal :=
  match i with
  | .modeGet h => Sys2Proof.Machine.execModeGet h s
  | .enterCommission h => Sys2Proof.Machine.execEnterCommission h s
  | .leaveCommission h => Sys2Proof.Machine.execLeaveCommission h s
  | .energize h method => Sys2Proof.Machine.execEnergize h method s
  | .deblockForm h => Sys2Proof.Machine.execDeblockForm h s
  | .block h => Sys2Proof.Machine.execBlock h s
  | .trip h => Sys2Proof.Machine.execTrip h s
  | .tripReset h causes => Sys2Proof.Machine.execTripReset h causes s
  | .enableCancel h cls => Sys2Proof.Machine.execEnableCancel h cls s
  | .modecfgSet h modecfg blkcfg => Sys2Proof.Machine.execModecfgSet h modecfg blkcfg s
  | .fchStatusGet h => Sys2Proof.Machine.execFchStatusGet h s
  | .fchCalibrate h => Sys2Proof.Machine.execFchCalibrate h s
  | .spareSubst h bank index => Sys2Proof.Machine.execSpareSubst h bank index s
  | .spareRelease h bank => Sys2Proof.Machine.execSpareRelease h bank s
  | .hkcConfig h conv cfg seqs injs injcfg => Sys2Proof.Machine.execHkcConfig h conv cfg seqs injs injcfg s
  | .hkcInject h mask => Sys2Proof.Machine.execHkcInject h mask s
  | .hkcRead h conv => Sys2Proof.Machine.execHkcRead h conv s
  | .sieveStatusGet h engine setCode => Sys2Proof.Machine.execSieveStatusGet h engine setCode s
  | .sieveSetSelect h engine mask ctlSet recSet => Sys2Proof.Machine.execSieveSetSelect h engine mask ctlSet recSet s
  | .sieveCoefLoad h setNo taps coefs => Sys2Proof.Machine.execSieveCoefLoad h setNo taps coefs s
  | .sieveCoefCommit h => Sys2Proof.Machine.execSieveCoefCommit h s
  | .toneConfig h engine det cfg freq => Sys2Proof.Machine.execToneConfig h engine det cfg freq s
  | .toneRead h engine mask => Sys2Proof.Machine.execToneRead h engine mask s
  | .leStatusGet h engine => Sys2Proof.Machine.execLeStatusGet h engine s
  | .leImageLoad h offset len bytes final => Sys2Proof.Machine.execLeImageLoad h offset len bytes final s
  | .leImageActivate h => Sys2Proof.Machine.execLeImageActivate h s
  | .leClcfgSet h k degTmo => Sys2Proof.Machine.execLeClcfgSet h k degTmo s
  | .leMissClear h mask => Sys2Proof.Machine.execLeMissClear h mask s
  | .leRotate h engine shadowM1 => Sys2Proof.Machine.execLeRotate h engine shadowM1 s
  | .leRegionCfg h engine inputs maps force forceSet => Sys2Proof.Machine.execLeRegionCfg h engine inputs maps force forceSet s
  | .leGainsetLoad h engine setNo gains => Sys2Proof.Machine.execLeGainsetLoad h engine setNo gains s
  | .leInjStart h engine point gen signal lim mon => Sys2Proof.Machine.execLeInjStart h engine point gen signal lim mon s
  | .leInjStop h engine mask => Sys2Proof.Machine.execLeInjStop h engine mask s
  | .leVarRead h space engine addr count => Sys2Proof.Machine.execLeVarRead h space engine addr count s
  | .gflParamSet h offset value => Sys2Proof.Machine.execGflParamSet h offset value s
  | .gflParamGet h offset => Sys2Proof.Machine.execGflParamGet h offset s
  | .gflStatusGet h => Sys2Proof.Machine.execGflStatusGet h s
  | .lftParamSet h offset value => Sys2Proof.Machine.execLftParamSet h offset value s
  | .lftParamGet h offset => Sys2Proof.Machine.execLftParamGet h offset s
  | .lftStatusGet h => Sys2Proof.Machine.execLftStatusGet h s
  | .engParamSet h offset value => Sys2Proof.Machine.execEngParamSet h offset value s
  | .engParamGet h offset => Sys2Proof.Machine.execEngParamGet h offset s
  | .engStatusGet h => Sys2Proof.Machine.execEngStatusGet h s
  | .rampStatusGet h ch => Sys2Proof.Machine.execRampStatusGet h ch s
  | .rampMove h ch target vcap => Sys2Proof.Machine.execRampMove h ch target vcap s
  | .rampReplace h ch target vcap => Sys2Proof.Machine.execRampReplace h ch target vcap s
  | .rampStop h mask => Sys2Proof.Machine.execRampStop h mask s
  | .rampCfgSet h ch cfg vmax amax dmax jmax range task initial => Sys2Proof.Machine.execRampCfgSet h ch cfg vmax amax dmax jmax range task initial s
  | .shapeLoad h first count entries => Sys2Proof.Machine.execShapeLoad h first count entries s
  | .shapeCommit h => Sys2Proof.Machine.execShapeCommit h s
  | .shapeSelect h src => Sys2Proof.Machine.execShapeSelect h src s
  | .vsqStatusGet h => Sys2Proof.Machine.execVsqStatusGet h s
  | .vsqArmCfgSet h arm cfg cfg2 => Sys2Proof.Machine.execVsqArmCfgSet h arm cfg cfg2 s
  | .vsqSlotTypeSet h arm first count types => Sys2Proof.Machine.execVsqSlotTypeSet h arm first count types s
  | .slotExclude h arm slot => Sys2Proof.Machine.execSlotExclude h arm slot s
  | .slotRestore h arm slot => Sys2Proof.Machine.execSlotRestore h arm slot s
  | .vsqSlotRead h arm first count => Sys2Proof.Machine.execVsqSlotRead h arm first count s
  | .laneStatusGet h mask => Sys2Proof.Machine.execLaneStatusGet h mask s
  | .laneCfgSet h lane cfg asym => Sys2Proof.Machine.execLaneCfgSet h lane cfg asym s
  | .laneBringup h mask => Sys2Proof.Machine.execLaneBringup h mask s
  | .laneIdleEnter h mask => Sys2Proof.Machine.execLaneIdleEnter h mask s
  | .laneIdleExit h mask => Sys2Proof.Machine.execLaneIdleExit h mask s
  | .shlCfgSet h ctrl => Sys2Proof.Machine.execShlCfgSet h ctrl s
  | .shfStatusGet h mask => Sys2Proof.Machine.execShfStatusGet h mask s
  | .shfCfgSet h ctrl tol => Sys2Proof.Machine.execShfCfgSet h ctrl tol s
  | .hubDiscover h mask => Sys2Proof.Machine.execHubDiscover h mask s
  | .hubFallbackSet h lane fb0 fb1 fb2 => Sys2Proof.Machine.execHubFallbackSet h lane fb0 fb1 fb2 s
  | .hubMsg h lane mtype tag body => Sys2Proof.Machine.execHubMsg h lane mtype tag body s
  | .lstStatusGet h => Sys2Proof.Machine.execLstStatusGet h s
  | .lstLegCfgSet h leg cfg per dt src => Sys2Proof.Machine.execLstLegCfgSet h leg cfg per dt src s
  | .lstLegEnable h mask => Sys2Proof.Machine.execLstLegEnable h mask s
  | .lstLegDisable h mask => Sys2Proof.Machine.execLstLegDisable h mask s
  | .lstUpdate h leg perValid cmpValid commit per cmp => Sys2Proof.Machine.execLstUpdate h leg perValid cmpValid commit per cmp s
  | .lstGroupSet h group cfg pats => Sys2Proof.Machine.execLstGroupSet h group cfg pats s
  | .legClearClk h => Sys2Proof.Machine.execLegClearClk h s
  | .lstCtrlSet h ctrl evt0 evt1 => Sys2Proof.Machine.execLstCtrlSet h ctrl evt0 evt1 s
  | .swpStatusGet h => Sys2Proof.Machine.execSwpStatusGet h s
  | .swpCfgSet h sw cfg uv => Sys2Proof.Machine.execSwpCfgSet h sw cfg uv s
  | .swpClear h mask => Sys2Proof.Machine.execSwpClear h mask s
  | .swpTest h mask => Sys2Proof.Machine.execSwpTest h mask s
  | .swpCtrlSet h ctrl => Sys2Proof.Machine.execSwpCtrlSet h ctrl s
  | .twinStatusGet h => Sys2Proof.Machine.execTwinStatusGet h s
  | .twinCfgSet h cfg => Sys2Proof.Machine.execTwinCfgSet h cfg s
  | .twinHandover h => Sys2Proof.Machine.execTwinHandover h s
  | .twinPathTest h mask durationMs => Sys2Proof.Machine.execTwinPathTest h mask durationMs s
  | .reeveStatusGet h => Sys2Proof.Machine.execReeveStatusGet h s
  | .reeveCfgSet h cfg => Sys2Proof.Machine.execReeveCfgSet h cfg s
  | .reeveForce h twin => Sys2Proof.Machine.execReeveForce h twin s
  | .almTimeGet h => Sys2Proof.Machine.execAlmTimeGet h s
  | .almStep h kind sec ns => Sys2Proof.Machine.execAlmStep h kind sec ns s
  | .almIncSet h inc => Sys2Proof.Machine.execAlmIncSet h inc s
  | .almTxtsRead h port count => Sys2Proof.Machine.execAlmTxtsRead h port count s
  | .almCfgSet h ctrl utc lat0 lat1 => Sys2Proof.Machine.execAlmCfgSet h ctrl utc lat0 lat1 s
  | .oryStatusGet h => Sys2Proof.Machine.execOryStatusGet h s
  | .oryMdllSet h mdll cfg => Sys2Proof.Machine.execOryMdllSet h mdll cfg s
  | .orySscSet h cfg profile dutyTrim => Sys2Proof.Machine.execOrySscSet h cfg profile dutyTrim s
  | .oryClkoutSet h out cfg => Sys2Proof.Machine.execOryClkoutSet h out cfg s
  | .cdcStatusGet h => Sys2Proof.Machine.execCdcStatusGet h s
  | .chrStatusGet h => Sys2Proof.Machine.execChrStatusGet h s
  | .chrTrgCfg h trgUnit cfg thr => Sys2Proof.Machine.execChrTrgCfg h trgUnit cfg thr s
  | .chrRecCfg h rec cfg trg src len nseg base levs => Sys2Proof.Machine.execChrRecCfg h rec cfg trg src len nseg base levs s
  | .chrArm h mask => Sys2Proof.Machine.execChrArm h mask s
  | .chrStop h mask => Sys2Proof.Machine.execChrStop h mask s
  | .chrForce h mask => Sys2Proof.Machine.execChrForce h mask s
  | .chrRead h offset len => Sys2Proof.Machine.execChrRead h offset len s
  | .chrStatCfg h statUnit cfg lo freq => Sys2Proof.Machine.execChrStatCfg h statUnit cfg lo freq s
  | .chrXspStart h cfg sig blk avg leaddr bins => Sys2Proof.Machine.execChrXspStart h cfg sig blk avg leaddr bins s
  | .chrXspStop h => Sys2Proof.Machine.execChrXspStop h s
  | .chrSyncArm h => Sys2Proof.Machine.execChrSyncArm h s
  | .chrSelftest h => Sys2Proof.Machine.execChrSelftest h s
  | .safetyStatusGet h => Sys2Proof.Machine.execSafetyStatusGet h s
  | .safetyParamLoad h block => Sys2Proof.Machine.execSafetyParamLoad h block s
  | .safetyParamRead h copy => Sys2Proof.Machine.execSafetyParamRead h copy s
  | .safetyConfirm h check => Sys2Proof.Machine.execSafetyConfirm h check s
  | .safetyProofTest h => Sys2Proof.Machine.execSafetyProofTest h s
  | .sysIdent h => Sys2Proof.Machine.execSysIdent h s
  | .sessionOpen h role options nonce => Sys2Proof.Machine.execSessionOpen h role options nonce s
  | .sessionOpenProof h proof => Sys2Proof.Machine.execSessionOpenProof h proof s
  | .sessionClose h => Sys2Proof.Machine.execSessionClose h s
  | .sysStatusGet h => Sys2Proof.Machine.execSysStatusGet h s
  | .sysReset h => Sys2Proof.Machine.execSysReset h s
  | .netCfgSet h ctrl ip mask gw => Sys2Proof.Machine.execNetCfgSet h ctrl ip mask gw s
  | .svSubSet h stream cfg addr confrev sel => Sys2Proof.Machine.execSvSubSet h stream cfg addr confrev sel s
  | .gooseSubSet h sub cfg addr confrev => Sys2Proof.Machine.execGooseSubSet h sub cfg addr confrev s
  | .netStatusGet h => Sys2Proof.Machine.execNetStatusGet h s
  | .netFrameSend h port request ingress frame => Sys2Proof.Machine.execNetFrameSend h port request ingress frame s
  | .netRxCfg h base count ethertypes => Sys2Proof.Machine.execNetRxCfg h base count ethertypes s
  | .telemCfgSet h base count rate decim words => Sys2Proof.Machine.execTelemCfgSet h base count rate decim words s
  | .regRead h addr count => Sys2Proof.Machine.execRegRead h addr count s
  | .regWrite h addr mask value => Sys2Proof.Machine.execRegWrite h addr mask value s
  | .regWriteBlock h addr values => Sys2Proof.Machine.execRegWriteBlock h addr values s
  | .packetDiscard transport tagFailed => Sys2Proof.Machine.execPacketDiscard transport tagFailed s
  | .storeStatusGet h => Sys2Proof.Machine.execStoreStatusGet h s
  | .store h => Sys2Proof.Machine.execStore h s
  | .storeRevert h => Sys2Proof.Machine.execStoreRevert h s
  | .storeErase h => Sys2Proof.Machine.execStoreErase h s
  | .secStatusGet h => Sys2Proof.Machine.execSecStatusGet h s
  | .fwLoad h slot offset len bytes => Sys2Proof.Machine.execFwLoad h slot offset len bytes s
  | .fwVerify h slot => Sys2Proof.Machine.execFwVerify h slot s
  | .fwSelect h slot => Sys2Proof.Machine.execFwSelect h slot s
  | .fwSvnCommit h => Sys2Proof.Machine.execFwSvnCommit h s
  | .keyEnroll h key => Sys2Proof.Machine.execKeyEnroll h key s
  | .keyRevoke h => Sys2Proof.Machine.execKeyRevoke h s
  | .rolekeySet h role wrapped => Sys2Proof.Machine.execRolekeySet h role wrapped s
  | .attestQuote h nonce => Sys2Proof.Machine.execAttestQuote h nonce s
  | .attestRead h offset len => Sys2Proof.Machine.execAttestRead h offset len s
  | .identityGet h offset len => Sys2Proof.Machine.execIdentityGet h offset len s
  | .secCfgSet h cfg => Sys2Proof.Machine.execSecCfgSet h cfg s
  | .logStatusGet h => Sys2Proof.Machine.execLogStatusGet h s
  | .logRead h first count => Sys2Proof.Machine.execLogRead h first count s
  | .logAck h seq => Sys2Proof.Machine.execLogAck h seq s
  | .logCfgSet h cfg => Sys2Proof.Machine.execLogCfgSet h cfg s
  | .intStatusGet h => Sys2Proof.Machine.execIntStatusGet h s
  | .intCfgSet h cfg => Sys2Proof.Machine.execIntCfgSet h cfg s
  | .intInject h boundary index => Sys2Proof.Machine.execIntInject h boundary index s
  | .svUserctlCommit h => Sys2Proof.Machine.execSvUserctlCommit h s
  | .shapeCtrlCommit h => Sys2Proof.Machine.execShapeCtrlCommit h s
  | .lstCommit h legs => Sys2Proof.Machine.execLstCommit h legs s
  | .sysTlmaxClr h => Sys2Proof.Machine.execSysTlmaxClr h s
  | .chrHistClr h statUnit => Sys2Proof.Machine.execChrHistClr h statUnit s
  | .almInclWrite h value => Sys2Proof.Machine.execAlmInclWrite h value s
  | .almInchWrite h value => Sys2Proof.Machine.execAlmInchWrite h value s
  | .almNsRead h => Sys2Proof.Machine.execAlmNsRead h s
  | .hkcnDataRead h conv => Sys2Proof.Machine.execHkcnDataRead h conv s
  | .tdMag2Read h engine det => Sys2Proof.Machine.execTdMag2Read h engine det s
  | .almTxtsIdRead h port => Sys2Proof.Machine.execAlmTxtsIdRead h port s
  | .mbDb slot => Sys2Proof.Machine.execMbDb slot s
  | .mbReadyRelease mask => Sys2Proof.Machine.execMbReadyRelease mask s
  | .writePacket bytes => Sys2Proof.Machine.execWritePacket bytes s
  | .readStatus => Sys2Proof.Machine.execReadStatus s
  | .readReply count => Sys2Proof.Machine.execReadReply count s
  | .powerUp rises => Sys2Proof.Machine.execPowerUp rises s
  | .powerDown down anaUs allDownUs aonDownUs => Sys2Proof.Machine.execPowerDown down anaUs allDownUs aonDownUs s
  | .brownOut rail => Sys2Proof.Machine.execBrownOut rail s
  | .resetNLow ns taken => Sys2Proof.Machine.execResetNLow ns taken s
  | .thermalLimit deg => Sys2Proof.Machine.execThermalLimit deg s
  | .resetRelease boot => Sys2Proof.Machine.execResetRelease boot s
  | .tbClockLoss => Sys2Proof.Machine.execTbClockLoss s
  | .tbClockReturn => Sys2Proof.Machine.execTbClockReturn s
  | .coreClockLoss => Sys2Proof.Machine.execCoreClockLoss s
  | .laneClockLoss => Sys2Proof.Machine.execLaneClockLoss s
  | .ddrClockLoss => Sys2Proof.Machine.execDdrClockLoss s
  | .monitorWindow counts => Sys2Proof.Machine.execMonitorWindow counts s
  | .mdllLockLost mdll => Sys2Proof.Machine.execMdllLockLost mdll s
  | .mdllLocked mdll band => Sys2Proof.Machine.execMdllLocked mdll band s
  | .cdcTimeout xid => Sys2Proof.Machine.execCdcTimeout xid s
  | .tickBoundary unstable overflow => Sys2Proof.Machine.execTickBoundary unstable overflow s
  | .adcStrobe => Sys2Proof.Machine.execAdcStrobe s
  | .conversionDone conv code bad => Sys2Proof.Machine.execConversionDone conv code bad s
  | .conversionFault conv bad => Sys2Proof.Machine.execConversionFault conv bad s
  | .sieveControlBurst done bad => Sys2Proof.Machine.execSieveControlBurst done bad s
  | .sieveRecorderEval strobe bad => Sys2Proof.Machine.execSieveRecorderEval strobe bad s
  | .coefEccError setNo => Sys2Proof.Machine.execCoefEccError setNo s
  | .toneBlockDone engine det => Sys2Proof.Machine.execToneBlockDone engine det s
  | .inputRelease => Sys2Proof.Machine.execInputRelease s
  | .taskStart engine task run => Sys2Proof.Machine.execTaskStart engine task run s
  | .taskEnd engine task differs => Sys2Proof.Machine.execTaskEnd engine task differs s
  | .taskDeadline engine task shadowMiss => Sys2Proof.Machine.execTaskDeadline engine task shadowMiss s
  | .degTmoExpiry => Sys2Proof.Machine.execDegTmoExpiry s
  | .sequencerLatch bad shadowBad => Sys2Proof.Machine.execSequencerLatch bad shadowBad s
  | .frameRelease bad done => Sys2Proof.Machine.execFrameRelease bad done s
  | .launch => Sys2Proof.Machine.execLaunch s
  | .granaryLaunch => Sys2Proof.Machine.execGranaryLaunch s
  | .uplinkFrameReceive lane spaced train marker line arr bad => Sys2Proof.Machine.execUplinkFrameReceive lane spaced train marker line arr bad s
  | .bulkMessageReceive lane => Sys2Proof.Machine.execBulkMessageReceive lane s
  | .lossOfLock lane => Sys2Proof.Machine.execLossOfLock lane s
  | .losAssert lane high => Sys2Proof.Machine.execLosAssert lane high s
  | .uplinkLossTol lane => Sys2Proof.Machine.execUplinkLossTol lane s
  | .idleEntryComplete lane => Sys2Proof.Machine.execIdleEntryComplete lane s
  | .exitBurst lane => Sys2Proof.Machine.execExitBurst lane s
  | .bringupTmoExpiry => Sys2Proof.Machine.execBringupTmoExpiry s
  | .bulkResend lane => Sys2Proof.Machine.execBulkResend lane s
  | .hubReplyTimeout => Sys2Proof.Machine.execHubReplyTimeout s
  | .granaryFrameReceive lane spaced train marker line arr items status => Sys2Proof.Machine.execGranaryFrameReceive lane spaced train marker line arr items status s
  | .activeInEdge cyc => Sys2Proof.Machine.execActiveInEdge cyc s
  | .activeInTimeout => Sys2Proof.Machine.execActiveInTimeout s
  | .healthWordReceive twin clean word => Sys2Proof.Machine.execHealthWordReceive twin clean word s
  | .heartbeatLoss twin => Sys2Proof.Machine.execHeartbeatLoss twin s
  | .reeveFirstGrant => Sys2Proof.Machine.execReeveFirstGrant s
  | .handoverTmo => Sys2Proof.Machine.execHandoverTmo s
  | .pathTestEnd => Sys2Proof.Machine.execPathTestEnd s
  | .restTimeEnd cls => Sys2Proof.Machine.execRestTimeEnd cls s
  | .rtMaxExpiry => Sys2Proof.Machine.execRtMaxExpiry s
  | .blockingRampEnd => Sys2Proof.Machine.execBlockingRampEnd s
  | .detectorCount det => Sys2Proof.Machine.execDetectorCount det s
  | .acRecovery => Sys2Proof.Machine.execAcRecovery s
  | .dcStageTimer => Sys2Proof.Machine.execDcStageTimer s
  | .dcfNoclr => Sys2Proof.Machine.execDcfNoclr s
  | .energizeFail => Sys2Proof.Machine.execEnergizeFail s
  | .rampStepTimer ch => Sys2Proof.Machine.execRampStepTimer ch s
  | .shapeCopyDone => Sys2Proof.Machine.execShapeCopyDone s
  | .cfgCheckDone => Sys2Proof.Machine.execCfgCheckDone s
  | .hkcEntryComplete conv code => Sys2Proof.Machine.execHkcEntryComplete conv code s
  | .hkcInjTrigger conv src sel => Sys2Proof.Machine.execHkcInjTrigger conv src sel s
  | .foregroundCalDone fits => Sys2Proof.Machine.execForegroundCalDone fits s
  | .calDwellEnd bank => Sys2Proof.Machine.execCalDwellEnd bank s
  | .refselSettleEnd => Sys2Proof.Machine.execRefselSettleEnd s
  | .rotationCopyDone => Sys2Proof.Machine.execRotationCopyDone s
  | .rotationShadowEnd => Sys2Proof.Machine.execRotationShadowEnd s
  | .leBistDone pass => Sys2Proof.Machine.execLeBistDone pass s
  | .debugHalt blk => Sys2Proof.Machine.execDebugHalt blk s
  | .debugHaltEnd blk => Sys2Proof.Machine.execDebugHaltEnd blk s
  | .haltHoldExpiry => Sys2Proof.Machine.execHaltHoldExpiry s
  | .legReload leg => Sys2Proof.Machine.execLegReload leg s
  | .softTurnoffEnd leg => Sys2Proof.Machine.execSoftTurnoffEnd leg s
  | .legRestEnd leg => Sys2Proof.Machine.execLegRestEnd leg s
  | .evtPinChange pin cyc high => Sys2Proof.Machine.execEvtPinChange pin cyc high s
  | .desatDetect sw cyc high => Sys2Proof.Machine.execDesatDetect sw cyc high s
  | .uvAccept sw cyc neg => Sys2Proof.Machine.execUvAccept sw cyc neg s
  | .safetyEvaluation levels moved readback apart osc => Sys2Proof.Machine.execSafetyEvaluation levels moved readback apart osc s
  | .discrepancyTimeout input => Sys2Proof.Machine.execDiscrepancyTimeout input s
  | .stop1DelayEnd fn => Sys2Proof.Machine.execStop1DelayEnd fn s
  | .outputTestPulse out chan readsBack => Sys2Proof.Machine.execOutputTestPulse out chan readsBack s
  | .edmTimeout out => Sys2Proof.Machine.execEdmTimeout out s
  | .stepApply => Sys2Proof.Machine.execStepApply s
  | .holdoverTimeout => Sys2Proof.Machine.execHoldoverTimeout s
  | .stationFrameReceive port cyc dev frame own servo => Sys2Proof.Machine.execStationFrameReceive port cyc dev frame own servo s
  | .txEgressStamp port cyc dev => Sys2Proof.Machine.execTxEgressStamp port cyc dev s
  | .svFrameReceive port cyc dev frame => Sys2Proof.Machine.execSvFrameReceive port cyc dev frame s
  | .svStale stream => Sys2Proof.Machine.execSvStale stream s
  | .gooseMessageReceive msg => Sys2Proof.Machine.execGooseMessageReceive msg s
  | .gooseTtlExpiry sub => Sys2Proof.Machine.execGooseTtlExpiry sub s
  | .trigPinEdge pin cyc rising => Sys2Proof.Machine.execTrigPinEdge pin cyc rising s
  | .segmentClose rec => Sys2Proof.Machine.execSegmentClose rec s
  | .autoRearm rec => Sys2Proof.Machine.execAutoRearm rec s
  | .syncLineFall cyc => Sys2Proof.Machine.execSyncLineFall cyc s
  | .bufferOverflow => Sys2Proof.Machine.execBufferOverflow s
  | .bufferDrained => Sys2Proof.Machine.execBufferDrained s
  | .xspBlockEnd => Sys2Proof.Machine.execXspBlockEnd s
  | .telemetryRecord rd => Sys2Proof.Machine.execTelemetryRecord rd s
  | .sessionIdleExpiry session => Sys2Proof.Machine.execSessionIdleExpiry session s
  | .pendingIdExpiry ident => Sys2Proof.Machine.execPendingIdExpiry ident s
  | .authLockEnd role => Sys2Proof.Machine.execAuthLockEnd role s
  | .storeComplete readsBack => Sys2Proof.Machine.execStoreComplete readsBack s
  | .proofTestComplete pass => Sys2Proof.Machine.execProofTestComplete pass s
  | .selftestComplete pass => Sys2Proof.Machine.execSelftestComplete pass s
  | .softReset => Sys2Proof.Machine.execSoftReset s
  | .uvRelease sw neg => Sys2Proof.Machine.execUvRelease sw neg s
  | .heartbeatReturn twin => Sys2Proof.Machine.execHeartbeatReturn twin s
  | .tpTestPulse source high => Sys2Proof.Machine.execTpTestPulse source high s
  | .syncLineRise cyc => Sys2Proof.Machine.execSyncLineRise cyc s
  | .proofDue => Sys2Proof.Machine.execProofDue s

end Sys2Proof.Machine
end

