-- ==== Sys2Proof/Machine/Step.lean ====
section
/-! DEFINITION. One step of the block: the command at the front of the queue; where none waits, an accepted command whose
session has become free (R384); else nothing. -/

namespace Sys2Proof.Machine

/-- One step. On an empty queue the first held command that may run does; otherwise the block idles (log entry 2). -/
def step (s : State) : Host.Outcome State Fault Refusal :=
  match s.pending with
  | c :: rest => exec c { s with pending := rest }
  | [] =>
    match nextHeld s.hw s.hw.cmd.held with
    | some (i, is) => exec i { s with hw := { s.hw with cmd := { s.hw.cmd with held := is, resuming := true } } }
    | none => .next s

/-- `s` with the command that a word spells put at the front of its queue; unchanged where it spells none. -/
def State.withFetchWord (s : State) (nbits w : Nat) : State :=
  match decodeTableWord nbits w with
  | some c => { s with pending := c :: s.pending }
  | none => s

end Sys2Proof.Machine
end

