-- ==== Sys2Proof/Safety.lean ====
section
/-! DEFINITION. What counts as a safe run of the block, and the terms that statements about commands use: when a host command is
accepted, what its reply is, what it leaves alone. -/

namespace Sys2Proof

open Sys2Proof.Machine

/-- The next state that an outcome answers, if it does. -/
def nextOf (o : Host.Outcome Machine.State Machine.Fault Machine.Refusal) : Option Machine.State :=
  match o with
  | .next t => some t
  | _ => none

/-- The capture memory is in canonical form. -/
abbrev Safe (s : Machine.State) : Prop := Machine.memWf s.capture = true

/-! ### Host commands -/

/-- A host command passes steps 1 to 10 of Table CMD-3 outside reset, its session executes no other, and its parameters have the size
that the opcode gives them (R379, R384, R448). -/
abbrev Accepts (op : Op) (h : Hdr) (s : Hw) : Prop :=
  s.inReset = false ∧ s.cmd.resuming = false ∧ gate op s h = .accept ∧ s.sessionBusy h.session = false ∧ op.sizeBad h = false

/-- The reply port of a transport holds this reply: the reply slot on PCIe (R389), the reply buffer on SPI (R392), a datagram
on UDP (R393). -/
def Replied (t : Hw) (h : Hdr) (code : Nat) (st : Status) (data : List Byte) : Prop :=
  ∃ key : BitVec 256,
    let r : Reply := ⟨h.transport, h.port, code, h.seq, h.session, st, data, key⟩
    match h.transport with
    | .pcie => smapGet none t.cmd.mbReplies h.port = some r
    | .spi => t.cmd.spi.reply = some r
    | .udp => t.cmd.udpSent = some r
    | .internal => False

/-- The reply stays within the limit of its transport (Table CMD-2). -/
abbrev Fits (h : Hdr) (data : List Byte) : Prop := 2 + data.length ≤ replyLimit h.transport

/-- The full-ring policy lets `n` more entries of host origin in (R417). -/
abbrev Room (s : Hw) (n : Nat) : Prop := s.flag LOG_CFG_LOG_POLICY = false ∨ 256 + n ≤ logSlots - s.log.unexported

/-- The registers that serving any command may change: those of the reply slots, of the change log and of the store's check. -/
def servedRegs : List Nat := [MB_FREE, MB_READY, LOG_HEAD, LOG_EXP, LOG_STAT, STO_STAT]

/-- `t` is `u` but for the served registers, the command interface and the change log. -/
def Served (u t : Hw) : Prop :=
  (∀ a, a ∉ servedRegs → t.reg a = u.reg a) ∧ { t with regs := u.regs, cmd := u.cmd, log := u.log } = u

/-! ### What a command leaves unchanged -/

/-- The whole word of a register, as a field. -/
def word (a : Nat) : Fld := ⟨a, 31, 0⟩

/-- The registers of `t` equal those of `s` in every bit outside the fields `fs`. -/
def SameBut (fs : List Fld) (s t : Hw) : Prop :=
  ∀ a k, (∀ f ∈ fs, f.addr = a → ¬ (f.lo ≤ k ∧ k ≤ f.hi)) → (t.reg a).getLsbD k = (s.reg a).getLsbD k

/-- The frame of a command that has taken `s` to `t`: the queue, the capture memory and every register bit outside `fs` are as they
were, and so is all that `v` still shows of `t`; statements give `v` as `t.hw` with the parts that may change put back. -/
def Keeps (s t : State) (fs : List Fld) (v : Hw) : Prop :=
  t.pending = s.pending ∧ t.capture = s.capture ∧ SameBut fs s.hw t.hw ∧ { v with regs := s.hw.regs } = s.hw

/-- The same for a command that may write capture memory. -/
def KeepsOut (s t : State) (fs : List Fld) (v : Hw) : Prop :=
  t.pending = s.pending ∧ SameBut fs s.hw t.hw ∧ { v with regs := s.hw.regs } = s.hw

/-- Fields that serving a host command may change; that a reply, an entry of the change log, a trip cause, a mismatch at boundary `b` may. -/
def servedFlds : List Fld := servedRegs.map word
def replyFlds : List Fld := [MB_FREE_FREE, MB_READY_READY]
def logFlds : List Fld := [word LOG_HEAD, word LOG_EXP, word LOG_STAT]
def tripFlds : List Fld := word SYS_TRIPCAUSE :: logFlds
def mismatchFlds (b : Nat) : List Fld := [INT_STAT_MM, INT_STAT_INJ_PEND, INT_BDRYb_MM_CNT b, INT_BDRYb_TEST_CNT b]

/-- Fields that show the legs' timers from `s` on, all status of the legs, that of switch `n`, that of lane `n`, of all lanes together, of the island. -/
def legTimerFlds (s : Hw) : List Fld := (List.range numLegs).flatMap fun n =>
  [LEGn_STAT_CMP_ACT n, LEGn_STAT_COMMIT_PEND n, LEGn_STAT_SHOOT_THRU n, LEGn_STAT_DUTY_CLAMP n, LEGn_STAT_SPLIT_UPDATE n] ++
    if (s.legOf n).softNext then [LEGn_STAT_STATE n] else []
def legFlds : List Fld := (List.range numLegs).map fun n => word (LEGn_STAT n)
def switchFlds (n : Nat) : List Fld := [word (SWP_SWn_STAT n), SWP_SWn_TICK_FLT_TICK n, SWP_SUMMARY_LATCHED]
def laneFlds (n : Nat) : List Fld :=
  [word (LNn_STAT n), word (LNn_COMP n), word (LNn_DLY n), word (LNn_RTT n), word (LNn_ERRCNT n), word (LNn_HUBSTAT n), word (LNn_ULCNT n)]
def shfFlds : List Fld := [word SHF_STAT, word SHL_DSTAT]
def islandFlds : List Fld := [word SAF_STAT, word SAF_IN, word SAF_INFLT, word SAF_FAULT, SYS_PEND_PENDING]

/-- Fields that show the tasks that engine `n` runs; those that the end of a rotation of engine `n` may change. -/
def taskFlds (n : Nat) : List Fld :=
  LEn_STAT_NTASK n :: LEn_STAT_LOADED n ::
    (List.range 8).flatMap fun m => [word (LEn_TASKm_CFG n m), word (LEn_TASKm_WCET n m)]
def rotFlds (n : Nat) : List Fld := word LE_ROT :: (taskFlds n ++ taskFlds 20 ++ taskFlds 21)

/-- Fields that the abort of a running injection point may change. -/
def injFlds (s : Hw) : List Fld := [CHR_XSP_STAT_BUSY, CHR_XSP_STAT_ABORTED] ++ s.le.engines.map fun e => LEn_INJSTAT_ABORT e.1

/-- Fields that a change of a clock may change. -/
def clockFlds : List Fld := legFlds ++ tripFlds ++ [SYS_PEND_PENDING, SYS_PEND_DROPPED, SYS_TISTAT_CLK_TOL, word ORY_MON, CHR_STAT_DDR_OK]

/-- Fields that a tick of the Valve Sequencer may change. -/
def sequencerFlds : List Fld :=
  ((List.range 6).flatMap fun a => [VSQ_ARMa_STAT a, VSQ_ARMa_STAT2 a, VSQ_ARMa_FLAGS a, VSQ_ARMa_CNT a].map word ++
    (List.range 768).map fun j => word (VSQ_SLOTa_j a j)) ++
  [word VSQ_THRSTAT, INT_STAT_THR_MM_SEEN] ++ mismatchFlds 2 ++ tripFlds ++ (List.range 8).map RMPc_STAT_CLAMP ++ legFlds ++
  (List.range numLegs).map (fun n => word (LEGn_CMP n)) ++ (List.range 4).map LST_GRPg_CFG_ACT_IDX

/-- Internal reset: every session is gone, capture memory is empty, every register but SYS_RSTCAUSE has its reset value, and the change
log and, unless a STORE was cut, all lasting state are kept (R6, R402, R437). -/
def Resets (s t : State) : Prop :=
  t.pending = s.pending ∧ t.capture = [] ∧ t.hw.inReset = true ∧ t.hw.cmd = {} ∧ t.hw.log = s.hw.log ∧
    (s.hw.sto.storing = none → t.hw.nv = s.hw.nv) ∧ ∀ a, a ≠ SYS_RSTCAUSE → t.hw.reg a = regReset a

/-- A host command answers a next state with the queue and the capture memory as they were and the part as `u`, its reply OK with
`data`. Statements give `u` as a change of `s.hw.accept h`, the part with SEQ taken by the session (R383). -/
def Performs (i : Instr) (h : Hdr) (code : Nat) (s : State) (data : List Byte) (u : Hw) : Prop :=
  ∃ t, exec i s = .next t ∧ t.pending = s.pending ∧ t.capture = s.capture ∧ Served u t.hw ∧ Replied t.hw h code .ok data

/-- A host command answers a next state in which nothing has changed but its reply, OK with `data`. -/
def Answers (i : Instr) (h : Hdr) (code : Nat) (s : State) (data : List Byte) : Prop :=
  ∃ t, exec i s = .next t ∧ t.pending = s.pending ∧ t.capture = s.capture ∧ Served (s.hw.accept h) t.hw ∧ t.hw.log = s.hw.log ∧
    Replied t.hw h code .ok data

/-- The same as `Performs` for a command that will reply later: it is now the newest of those that wait, for an event of kind `k`. -/
def Waits (i : Instr) (h : Hdr) (code : Nat) (s : State) (k : WaitKind) (u : Hw) : Prop :=
  ∃ t, exec i s = .next t ∧ t.pending = s.pending ∧ t.capture = s.capture ∧ Served u t.hw ∧
    t.hw.cmd.waiting = s.hw.cmd.waiting ++ [⟨h, code, k⟩]

/-- A host command is refused with a status and results: nothing but the reply changes. -/
def Refuses (i : Instr) (h : Hdr) (code : Nat) (s : State) (st : Status) (data : List Byte) : Prop :=
  ∃ t, exec i s = .next t ∧ t.pending = s.pending ∧ t.capture = s.capture ∧ Served (s.hw.accept h) t.hw ∧ t.hw.log = s.hw.log ∧
    Replied t.hw h code st data

/-! ### The rows that are host commands -/

/-- The opcode's row and the header of a command that the host sends; `none` for an event. -/
def hostRow (s : Hw) : Instr → Option (Op × Hdr)
  | .modeGet h => some (Op.plain 0x0100 .viewer, h)
  | .enterCommission h => some (Op.plain 0x0101 .engineer, h)
  | .leaveCommission h => some (Op.plain 0x0102 .engineer, h)
  | .energize h _ => some (Op.plain 0x0103 .operator, h)
  | .deblockForm h => some (Op.plain 0x0104 .operator, h)
  | .block h => some (Op.plain 0x0105 .operator, h)
  | .trip h => some (Op.plain 0x0106 .operator, h)
  | .tripReset h _ => some (Op.plain 0x0107 .operator, h)
  | .enableCancel h _ => some (Op.plain 0x0108 .operator, h)
  | .modecfgSet h _ _ => some (Op.plain 0x0109 .engineer, h)
  | .fchStatusGet h => some (Op.plain 0x0400 .viewer, h)
  | .fchCalibrate h => some (Op.plain 0x0401 .engineer, h)
  | .spareSubst h _ _ => some (Op.plain 0x0402 .operator, h)
  | .spareRelease h _ => some (Op.plain 0x0403 .operator, h)
  | .hkcConfig h _ _ _ _ _ => some (Op.plain 0x0404 .engineer, h)
  | .hkcInject h _ => some (Op.plain 0x0405 .operator, h)
  | .hkcRead h _ => some (Op.plain 0x0406 .viewer, h)
  | .sieveStatusGet h _ _ => some (Op.plain 0x0420 .viewer, h)
  | .sieveSetSelect h _ _ _ _ => some (Op.plain 0x0421 .engineer, h)
  | .sieveCoefLoad h _ taps _ => some (Op.sized 0x0422 .engineer (2 + 2 * taps), h)
  | .sieveCoefCommit h => some (Op.plain 0x0423 .engineer, h)
  | .toneConfig h _ _ _ _ => some (Op.plain 0x0424 .operator, h)
  | .toneRead h _ _ => some (Op.plain 0x0425 .viewer, h)
  | .leStatusGet h _ => some (Op.plain 0x0500 .viewer, h)
  | .leImageLoad h _ _ _ _ => some (Op.plain 0x0501 .engineer, h)
  | .leImageActivate h => some (Op.plain 0x0502 .engineer, h)
  | .leClcfgSet h _ _ => some (Op.plain 0x0503 .engineer, h)
  | .leMissClear h _ => some (Op.plain 0x0504 .operator, h)
  | .leRotate h _ _ => some (Op.plain 0x0505 .engineer, h)
  | .leRegionCfg h _ _ _ _ _ => some (Op.plain 0x0506 .engineer, h)
  | .leGainsetLoad h _ _ _ => some (Op.plain 0x0507 .engineer, h)
  | .leInjStart h _ _ _ _ _ _ => some (Op.plain 0x0508 .engineer, h)
  | .leInjStop h _ _ => some (Op.plain 0x0509 .operator, h)
  | .leVarRead h _ _ _ _ => some (Op.plain 0x050A .viewer, h)
  | .gflParamSet h _ _ => some (Op.plain 0x0520 .engineer, h)
  | .gflParamGet h _ => some (Op.plain 0x0521 .viewer, h)
  | .gflStatusGet h => some (Op.plain 0x0522 .viewer, h)
  | .lftParamSet h _ _ => some (Op.plain 0x0530 .engineer, h)
  | .lftParamGet h _ => some (Op.plain 0x0531 .viewer, h)
  | .lftStatusGet h => some (Op.plain 0x0532 .viewer, h)
  | .engParamSet h _ _ => some (Op.plain 0x0540 .engineer, h)
  | .engParamGet h _ => some (Op.plain 0x0541 .viewer, h)
  | .engStatusGet h => some (Op.plain 0x0542 .viewer, h)
  | .rampStatusGet h _ => some (Op.plain 0x0600 .viewer, h)
  | .rampMove h _ _ _ => some (Op.plain 0x0601 .operator, h)
  | .rampReplace h _ _ _ => some (Op.plain 0x0602 .operator, h)
  | .rampStop h _ => some (Op.plain 0x0603 .operator, h)
  | .rampCfgSet h _ _ _ _ _ _ _ _ _ => some (Op.plain 0x0604 .engineer, h)
  | .shapeLoad h _ count _ => some (Op.sized 0x0605 .engineer (4 + 2 * count), h)
  | .shapeCommit h => some (Op.plain 0x0606 .engineer, h)
  | .shapeSelect h _ => some (Op.plain 0x0607 .engineer, h)
  | .vsqStatusGet h => some (Op.plain 0x0700 .viewer, h)
  | .vsqArmCfgSet h _ _ _ => some (Op.plain 0x0701 .engineer, h)
  | .vsqSlotTypeSet h _ _ count _ => some (Op.sized 0x0702 .engineer (5 + 4 * ((count + 15) / 16)), h)
  | .slotExclude h _ _ => some (Op.plain 0x0703 .operator, h)
  | .slotRestore h _ _ => some (Op.plain 0x0704 .engineer, h)
  | .vsqSlotRead h _ _ _ => some (Op.plain 0x0705 .viewer, h)
  | .laneStatusGet h _ => some (Op.plain 0x0720 .viewer, h)
  | .laneCfgSet h _ _ _ => some (Op.plain 0x0721 .engineer, h)
  | .laneBringup h _ => some (Op.plain 0x0722 .engineer, h)
  | .laneIdleEnter h _ => some (Op.plain 0x0723 .operator, h)
  | .laneIdleExit h _ => some (Op.plain 0x0724 .operator, h)
  | .shlCfgSet h _ => some (Op.plain 0x0725 .engineer, h)
  | .shfStatusGet h _ => some (Op.plain 0x0740 .viewer, h)
  | .shfCfgSet h _ _ => some (Op.plain 0x0741 .engineer, h)
  | .hubDiscover h _ => some (Op.plain 0x0742 .engineer, h)
  | .hubFallbackSet h _ _ _ _ => some (Op.plain 0x0743 .engineer, h)
  | .hubMsg h _ _ _ _ => some (Op.plain 0x0744 .service, h)
  | .lstStatusGet h => some (Op.plain 0x0800 .viewer, h)
  | .lstLegCfgSet h _ _ _ _ _ => some (Op.plain 0x0801 .engineer, h)
  | .lstLegEnable h _ => some (Op.plain 0x0802 .operator, h)
  | .lstLegDisable h _ => some (Op.plain 0x0803 .operator, h)
  | .lstUpdate h _ _ _ _ _ _ => some (Op.plain 0x0804 .operator, h)
  | .lstGroupSet h _ _ _ => some (Op.plain 0x0805 .engineer, h)
  | .legClearClk h => some (Op.plain 0x0806 .engineer, h)
  | .lstCtrlSet h _ _ _ => some (Op.plain 0x0807 .engineer, h)
  | .swpStatusGet h => some (Op.plain 0x0820 .viewer, h)
  | .swpCfgSet h _ _ _ => some (Op.plain 0x0821 .engineer, h)
  | .swpClear h _ => some (Op.plain 0x0822 .operator, h)
  | .swpTest h _ => some (Op.plain 0x0823 .engineer, h)
  | .swpCtrlSet h _ => some (Op.plain 0x0824 .engineer, h)
  | .twinStatusGet h => some (Op.plain 0x0900 .viewer, h)
  | .twinCfgSet h _ => some (Op.plain 0x0901 .engineer, h)
  | .twinHandover h => some (Op.plain 0x0902 .operator, h)
  | .twinPathTest h _ _ => some (Op.plain 0x0903 .engineer, h)
  | .reeveStatusGet h => some (Op.plain 0x0904 .viewer, h)
  | .reeveCfgSet h _ => some (Op.plain 0x0905 .engineer, h)
  | .reeveForce h _ => some (Op.plain 0x0906 .service, h)
  | .almTimeGet h => some (Op.plain 0x0A00 .viewer, h)
  | .almStep h _ _ _ => some (Op.plain 0x0A01 .engineer, h)
  | .almIncSet h _ => some (Op.plain 0x0A02 .operator, h)
  | .almTxtsRead h _ _ => some (Op.plain 0x0A03 .viewer, h)
  | .almCfgSet h _ _ _ _ => some (Op.plain 0x0A04 .engineer, h)
  | .oryStatusGet h => some (Op.plain 0x0A20 .viewer, h)
  | .oryMdllSet h _ _ => some (Op.plain 0x0A21 .engineer, h)
  | .orySscSet h _ _ _ => some (Op.plain 0x0A22 .engineer, h)
  | .oryClkoutSet h _ _ => some (Op.plain 0x0A23 .engineer, h)
  | .cdcStatusGet h => some (Op.plain 0x0A24 .viewer, h)
  | .chrStatusGet h => some (Op.plain 0x0B00 .viewer, h)
  | .chrTrgCfg h _ _ _ => some (Op.plain 0x0B01 .engineer, h)
  | .chrRecCfg h _ _ _ _ _ _ _ levs => some (Op.sized 0x0B02 .engineer (if levs.isSome then 153 else 25), h)
  | .chrArm h _ => some (Op.plain 0x0B03 .operator, h)
  | .chrStop h _ => some (Op.plain 0x0B04 .operator, h)
  | .chrForce h _ => some (Op.plain 0x0B05 .operator, h)
  | .chrRead h _ _ => some (Op.plain 0x0B06 .viewer, h)
  | .chrStatCfg h _ _ _ _ => some (Op.plain 0x0B07 .engineer, h)
  | .chrXspStart h _ _ _ _ _ bins => some (Op.sized 0x0B08 .engineer (20 + 4 * bins.length), h)
  | .chrXspStop h => some (Op.plain 0x0B09 .operator, h)
  | .chrSyncArm h => some (Op.plain 0x0B0A .operator, h)
  | .chrSelftest h => some (Op.plain 0x0B0B .engineer, h)
  | .safetyStatusGet h => some (Op.plain 0x0C00 .viewer, h)
  | .safetyParamLoad h _ => some (Op.plain 0x0C01 .safetyOfficer, h)
  | .safetyParamRead h _ => some (Op.plain 0x0C02 .viewer, h)
  | .safetyConfirm h _ => some (Op.plain 0x0C03 .safetyOfficer, h)
  | .safetyProofTest h => some (Op.plain 0x0C04 .safetyOfficer, h)
  | .sysIdent h => some ({ code := 0x0000, role := some .viewer, params := some 0, noSession := true }, h)
  | .sessionOpen h _ _ _ => some ({ code := 0x0001, role := none, params := some 18, noSession := true }, h)
  | .sessionOpenProof h _ => some ({ code := 0x0001, role := none, params := some 32, pendingId := true }, h)
  | .sessionClose h => some (closeOp, h)
  | .sysStatusGet h => some (Op.plain 0x0003 .viewer, h)
  | .sysReset h => some (Op.plain 0x0004 .service, h)
  | .netCfgSet h _ _ _ _ => some (Op.plain 0x0005 .engineer, h)
  | .svSubSet h _ _ _ _ _ => some (Op.plain 0x0006 .engineer, h)
  | .gooseSubSet h _ _ _ _ => some (Op.plain 0x0007 .engineer, h)
  | .netStatusGet h => some (Op.plain 0x0008 .viewer, h)
  | .netFrameSend h _ _ _ frame => some ({ code := 0x0009, role := some .engineer, params := some (12 + frame.length), pcieOnly := true }, h)
  | .netRxCfg h _ _ _ => some ({ code := 0x000A, role := some .engineer, params := some 18, pcieOnly := true }, h)
  | .telemCfgSet h _ _ _ _ _ => some ({ code := 0x000B, role := some .engineer, pcieOnly := true }, h)
  | .regRead h _ _ => some (Op.plain 0x1000 .viewer, h)
  | .regWrite h _ _ _ => some (Op.plain 0x1001 .viewer, h)
  | .regWriteBlock h _ values => some (Op.sized 0x1002 .viewer (8 + 4 * values.length), h)
  | .storeStatusGet h => some (Op.plain 0x0300 .viewer, h)
  | .store h => some (Op.plain 0x0301 .engineer, h)
  | .storeRevert h => some (Op.plain 0x0302 .engineer, h)
  | .storeErase h => some (Op.plain 0x0303 .service, h)
  | .secStatusGet h => some (Op.plain 0x0D00 .viewer, h)
  | .fwLoad h _ _ len _ => some (Op.sized 0x0D01 .service (7 + len), h)
  | .fwVerify h _ => some (Op.plain 0x0D02 .service, h)
  | .fwSelect h _ => some (Op.plain 0x0D03 .service, h)
  | .fwSvnCommit h => some (Op.plain 0x0D04 .service, h)
  | .keyEnroll h _ => some (Op.plain 0x0D05 .engineer, h)
  | .keyRevoke h => some (Op.plain 0x0D06 .service, h)
  | .rolekeySet h role _ => some (Op.plain 0x0D07 (roleKeyNeed s h role), h)
  | .attestQuote h _ => some (Op.plain 0x0D08 .viewer, h)
  | .attestRead h _ _ => some (Op.plain 0x0D09 .viewer, h)
  | .identityGet h _ _ => some (Op.plain 0x0D0A .viewer, h)
  | .secCfgSet h _ => some (Op.plain 0x0D0B .service, h)
  | .logStatusGet h => some (Op.plain 0x0E00 .viewer, h)
  | .logRead h _ _ => some (Op.plain 0x0E01 .viewer, h)
  | .logAck h _ => some (Op.plain 0x0E02 .engineer, h)
  | .logCfgSet h _ => some (Op.plain 0x0E03 .service, h)
  | .intStatusGet h => some (Op.plain 0x0F00 .viewer, h)
  | .intCfgSet h _ => some (Op.plain 0x0F01 .engineer, h)
  | .intInject h _ _ => some (Op.plain 0x0F02 .engineer, h)
  | .svUserctlCommit h => some (Op.plain 0x1001 .viewer, h)
  | .shapeCtrlCommit h => some (Op.plain 0x1001 .viewer, h)
  | .lstCommit h _ => some (Op.plain 0x1001 .viewer, h)
  | .sysTlmaxClr h => some (Op.plain 0x1001 .viewer, h)
  | .chrHistClr h _ => some (Op.plain 0x1001 .viewer, h)
  | .almInclWrite h _ => some (Op.plain 0x1001 .viewer, h)
  | .almInchWrite h _ => some (Op.plain 0x1001 .viewer, h)
  | .almNsRead h => some (Op.plain 0x1000 .viewer, h)
  | .hkcnDataRead h _ => some (Op.plain 0x1000 .viewer, h)
  | .tdMag2Read h _ _ => some (Op.plain 0x1000 .viewer, h)
  | .almTxtsIdRead h _ => some (Op.plain 0x1000 .viewer, h)
  | _ => none

/-! ### Events -/

/-- Events run: internal reset is not asserted (and, for what the core clock drives, that clock is there: R326). -/
abbrev Runs (s : Hw) : Prop := s.inReset = false
abbrev CoreRuns (s : Hw) : Prop := s.inReset = false ∧ s.flag ORY_MON_CORE_LOSS = false

/-- Points of a tick come: besides, the timebase runs, and no time step has ended the tick (R308, R317). -/
abbrev Ticking (s : Hw) : Prop := CoreRuns s ∧ s.time.clockLost = false ∧ s.time.gapTo = none

/-- An event answers a next state whose part is `v`. -/
def Becomes (i : Instr) (s : State) (v : Hw) : Prop := exec i s = .next { s with hw := v }

end Sys2Proof
end

