-- ==== Sys2Proof/Certificates/Slice0/Obligations.lean ====
section
/-! DEFINITION. The statements about this model. -/

namespace Sys2Proof

open Sys2Proof.Machine

/-- A request of Table MOD-2 stands last among those of the coming tick (R31). -/
def queued (s : Hw) (req : ModeReq) (h : Hdr) : Hw :=
  { s with ops := { s.ops with reqNext := s.ops.reqNext ++ [⟨req, some h⟩] } }

end Sys2Proof

open Sys2Proof Sys2Proof.Machine

/-! ### Operating modes -/

/-- Table MOD-7: MODE_GET answers with SYS_MODE, SYS_TRIPCAUSE and SYS_PEND; every other mode command whose conditions hold
enters its request in the coming tick (R31) and replies once its transition takes effect. -/
def Obligations.ModeCommandsEnterTheirRequest : Prop :=
  (∀ (s : State) (h : Hdr), Accepts (Op.plain 0x0100 .viewer) h s.hw → s.hw.twohandBars h = false →
    Answers (.modeGet h) h 0x0100 s (regBytes s.hw [SYS_MODE, SYS_TRIPCAUSE, SYS_PEND])) ∧
  (∀ (s : State) (h : Hdr), Accepts (Op.plain 0x0101 .engineer) h s.hw → s.hw.twohandBars h = false → Room s.hw 1 →
    s.hw.mode = mBlocked → Waits (.enterCommission h) h 0x0101 s .mode (queued (s.hw.accept h) .enterCommission h)) ∧
  (∀ (s : State) (h : Hdr), Accepts (Op.plain 0x0102 .engineer) h s.hw → s.hw.twohandBars h = false → Room s.hw 1 →
    s.hw.mode = mCommission → s.hw.unmet .leaveCommission = none →
    Waits (.leaveCommission h) h 0x0102 s .mode (queued (s.hw.accept h) .leaveCommission h)) ∧
  (∀ (s : State) (h : Hdr) (m : Nat), Accepts (Op.plain 0x0103 .operator) h s.hw → s.hw.twohandBars h = false → Room s.hw 1 →
    s.hw.standby = false → s.hw.blocking = false → s.hw.mode = mBlocked → m ≤ 1 → s.hw.unmet (.energize m) = none →
    s.hw.lanesInUse.filter s.hw.laneIdles = [] →
    Waits (.energize h m) h 0x0103 s .mode (queued (s.hw.accept h) (.energize m) h)) ∧
  (∀ (s : State) (h : Hdr), Accepts (Op.plain 0x0104 .operator) h s.hw → s.hw.twohandBars h = false → Room s.hw 1 →
    s.hw.standby = false → s.hw.blocking = false → s.hw.mode = mBlocked ∨ s.hw.mode = mEnergize → s.hw.unmet .deblock = none →
    s.hw.lanesInUse.filter s.hw.laneIdles = [] →
    Waits (.deblockForm h) h 0x0104 s .mode (queued (s.hw.accept h) .deblock h)) ∧
  (∀ (s : State) (h : Hdr), Accepts (Op.plain 0x0105 .operator) h s.hw → s.hw.twohandBars h = false → Room s.hw 1 →
    s.hw.standby = false → s.hw.blocking = false → s.hw.switching = true →
    Waits (.block h) h 0x0105 s .mode (queued (s.hw.accept h) .block h)) ∧
  (∀ (s : State) (h : Hdr), Accepts (Op.plain 0x0107 .operator) h s.hw → s.hw.twohandBars h = false → Room s.hw 1 →
    (s.hw.standby = true → s.hw.ops.ownLatched ≠ 0) → s.hw.mode = mTripped → s.hw.resetBars = 0 →
    Waits (.tripReset h s.hw.latched) h 0x0107 s .mode (queued (s.hw.accept h) (.tripReset s.hw.latched) h))

/-- R44, R290: TRIP latches MANUAL at once, makes it a cause of the coming tick, and forwards it for 16 headers; R36: MODECFG_SET writes
both words; R40: ENABLE_CANCEL of class VALVE clears its bit of SYS_PEND; R34, R35, R40: the expiry of RT_MAX latches RT_TIMEOUT, the
last tick of a blocking ramp ends it, and the end of a valve rest with nothing pending leaves no blocking sequence. -/
def Obligations.TripAndModeTimersAct : Prop :=
  (∀ (s : State) (h : Hdr), Accepts (Op.plain 0x0106 .operator) h s.hw → s.hw.twohandBars h = false → Room s.hw 2 →
    ∃ t, exec (.trip h) s = .next t ∧
      Keeps s t (tripFlds ++ servedFlds)
        { t.hw with cmd := s.hw.cmd, log := s.hw.log, ops := s.hw.ops, twin := s.hw.twin, trg := s.hw.trg } ∧
      bitOf t.hw.latched cManual = true ∧ bitOf t.hw.ops.tripNext cManual = true ∧
      t.hw.twin.tripFwd = tripFwdNext s.hw.twin.tripFwd ∧ Replied t.hw h 0x0106 .ok []) ∧
  (∀ (s : State) (h : Hdr) (m b : Nat), Accepts (Op.plain 0x0109 .engineer) h s.hw → s.hw.twohandBars h = false → Room s.hw 2 →
    s.hw.cfgMode = true →
    let t := ((s.hw.accept h).setWord SYS_MODECFG m).setWord SYS_BLKCFG b
    modecfgRangeBad t = false → holdRefused s.hw (t.get SYS_MODECFG_HOLD_STYLE) (t.geti SYS_BLKCFG_BYPASS_VDC_MAX) = false →
    Performs (.modecfgSet h m b) h 0x0109 s [] (holdWritten t)) ∧
  (∀ (s : State) (h : Hdr), Accepts (Op.plain 0x0108 .operator) h s.hw → s.hw.twohandBars h = false → Room s.hw 1 →
    bitOf (s.hw.get SYS_PEND_PENDING) 1 = true →
    ∃ t, exec (.enableCancel h 1) s = .next t ∧
      Keeps s t (SYS_PEND_PENDING :: servedFlds) { t.hw with cmd := s.hw.cmd, log := s.hw.log, ops := s.hw.ops } ∧
      bitOf (t.hw.get SYS_PEND_PENDING) 1 = false ∧ t.hw.pendOf 1 = none ∧
      Replied t.hw h 0x0108 .ok []) ∧
  (∀ s : State, Runs s.hw → s.hw.mode = mRide → s.hw.liveGet SYS_MODECFG_RT_MAX * ticksPerMs ≤ s.hw.ops.rtTicks + 1 →
    ∃ t, exec .rtMaxExpiry s = .next t ∧
      Keeps s t tripFlds { t.hw with cmd := s.hw.cmd, log := s.hw.log, ops := s.hw.ops, trg := s.hw.trg } ∧
      bitOf t.hw.latched cRtTimeout = true ∧ bitOf t.hw.ops.tripTick cRtTimeout = true) ∧
  (∀ (s : State) (k n : Nat), Runs s.hw → s.hw.ops.blk = .ramp k n → n ≤ k + 1 →
    Becomes .blockingRampEnd s { s.hw with ops := { s.hw.ops with rampEnd := true } }) ∧
  (∀ s : State, Runs s.hw → s.hw.ops.blk = .rest 0 → s.hw.pendOf 1 = none →
    ∃ t, exec (.restTimeEnd 1) s = .next t ∧
      Keeps s t [SYS_MODE_BLK_SEQ] { t.hw with ops := s.hw.ops } ∧
      t.hw.ops.blk = .none ∧ t.hw.get SYS_MODE_BLK_SEQ = 0)

/-! ### Fast channels and housekeeping -/

/-- Tables FCH-3 and FCH-14: FCH_STATUS_GET answers with its registers; FCH_CALIBRATE in COMMISSION sets CAL_BUSY and waits for the end
of the calibration (R51); SPARE_SUBST of a free, faultless spare asks for it and waits (R56); SPARE_RELEASE of a substituted channel
whose release condition has held for 500 ticks releases it (R58); HKC_INJECT triggers the enabled converters of its mask that run no
injected sequence (R63); HKC_READ answers with the data and status words and clears NEW (R64). -/
def Obligations.FastChannelCommands : Prop :=
  (∀ (s : State) (h : Hdr), Accepts (Op.plain 0x0400 .viewer) h s.hw → Answers (.fchStatusGet h) h 0x0400 s
    (regBytes s.hw [FCH_CTRL, FCH_OVRNG, FCH_PLFAIL, FCH_CONVFLT, FCH_SPAREn 0, FCH_SPAREn 1, FCH_CALSTAT])) ∧
  (∀ (s : State) (h : Hdr), Accepts (Op.plain 0x0401 .engineer) h s.hw → Room s.hw 1 → s.hw.mode = mCommission →
    Waits (.fchCalibrate h) h 0x0401 s .calibrate ((s.hw.accept h).put FCH_CTRL_CAL_BUSY 1)) ∧
  (∀ (s : State) (h : Hdr) (n k : Nat), Accepts (Op.plain 0x0402 .operator) h s.hw → Room s.hw 1 → n < 2 → k < 16 →
    (s.hw.spareOf n).job ≠ 3 → (s.hw.spareOf n).req = none → s.hw.flag (FCH_SPAREn_SPARE_FLT n) = false →
    Waits (.spareSubst h n k) h 0x0402 s (.spareSubst n)
      ((s.hw.accept h).onSpare n fun p => { p with req := some (k, false, s.hw.fch.strobes) })) ∧
  (∀ (s : State) (h : Hdr) (n : Nat), Accepts (Op.plain 0x0403 .operator) h s.hw → Room s.hw 1 → n < 2 →
    s.hw.flag (FCH_SPAREn_SUBST_ACTIVE n) = true → (s.hw.spareOf n).good + 500 ≤ s.hw.ticks →
    Performs (.spareRelease h n) h 0x0403 s [] ((s.hw.accept h).onSpare n fun p => { p with release := true })) ∧
  (∀ (s : State) (h : Hdr) (n : Nat), Accepts (Op.plain 0x0405 .operator) h s.hw → Room s.hw 1 → n < 2 →
    s.hw.flag (HKCn_CFG_EN n) = true → s.hw.flag (HKCn_STAT_INJ_RUN n) = false →
    Performs (.hkcInject h (2 ^ n)) h 0x0405 s [] (hkcTrigger n (s.hw.accept h))) ∧
  (∀ (s : State) (h : Hdr) (n : Nat), Accepts (Op.plain 0x0406 .viewer) h s.hw → n < 2 →
    Performs (.hkcRead h n) h 0x0406 s (leBytes 4 (s.hw.reg (HKCn_DATA n)).toNat ++ regBytes s.hw [HKCn_STAT n])
      ((s.hw.accept h).put (HKCn_DATA_NEW n) 0)) ∧
  (∀ (s : State) (h : Hdr) (n c : Nat) (sq ij : List Nat) (ic : Nat), Accepts (Op.plain 0x0404 .engineer) h s.hw → Room s.hw 38 →
    n < 2 → hkcCfgBad c = false → hkcInjBad ic = false → (sq ++ ij).any (fun v => decide (32 ≤ v)) = false →
    s.hw.flag (HKCn_CFG_EN n) = false →
    Performs (.hkcConfig h n c sq ij ic) h 0x0404 s [] (hkcConfigured n c sq ij ic (s.hw.accept h)))

/-- What each event of the fast channels and of housekeeping does when it is due. A converted code of a bank's converter, or of a spare
(32, 33), is corrected by its offset and gain, and the fourth of a substituting spare sets TRACKED; a missing conversion marks its
channel, or a spare with no substitution. 5 ms after a reference change foreground calibration starts; its end clears CAL_BUSY. The end
of a dwell schedules the fit, or raises CAL_REJECT where there is none, and the rotation goes on. An entry that has had its modulator
clocks lands in HKCn_DATA. A trigger that HKCn_INJCFG names starts the injected sequence, or raises INJ_MISS while one runs. -/
def Obligations.FastChannelEvents : Prop :=
  (∀ (s : State) (c : Nat) (x : Int) (bad : Bool), Runs s.hw → c < 32 → s.hw.fch.strobes ≠ 0 → bitOf s.hw.fch.ready c = false →
    ∃ t, exec (.conversionDone c x bad) s = .next t ∧
      Keeps s t (FCH_OVRNG_OVRNG :: FCH_PLFAIL_PLFAIL :: mismatchFlds 0)
        { t.hw with fch := s.hw.fch, sieve := s.hw.sieve, chr := s.hw.chr, int := s.hw.int, trg := s.hw.trg } ∧
      bitOf t.hw.fch.ready c = true ∧
      smapGet 0 t.hw.fch.raw c = satInt 16 x ∧
      smapGet 0 t.hw.fch.cor c = (correctSample (satInt 16 x) (s.hw.liveInt (FCH_CALn_OFS c)) (s.hw.liveGet (FCH_CALn_GAIN c))).1) ∧
  (∀ (s : State) (c : Nat) (bad : Bool), Runs s.hw → c < 32 → s.hw.fch.strobes ≠ 0 → bitOf s.hw.fch.ready c = false →
    ∃ t, exec (.conversionFault c bad) s = .next t ∧
      Keeps s t (FCH_CONVFLT_CONV_FAULT :: mismatchFlds 0)
        { t.hw with fch := s.hw.fch, sieve := s.hw.sieve, chr := s.hw.chr, int := s.hw.int } ∧
      bitOf t.hw.fch.lost c = true ∧ bitOf (t.hw.get FCH_CONVFLT_CONV_FAULT) c = true) ∧
  (∀ (s : State) (n : Nat) (x : Int) (bad : Bool), Runs s.hw → n < 2 → s.hw.fch.strobes ≠ 0 → bitOf s.hw.fch.ready (32 + n) = false →
    ∃ t, exec (.conversionDone (32 + n) x bad) s = .next t ∧
      Keeps s t (FCH_OVRNG_OVRNG :: FCH_PLFAIL_PLFAIL :: FCH_SPAREn_TRACKED n :: mismatchFlds 0)
        { t.hw with fch := s.hw.fch, sieve := s.hw.sieve, chr := s.hw.chr, int := s.hw.int, trg := s.hw.trg } ∧
      bitOf t.hw.fch.ready (32 + n) = true ∧
      smapGet 0 t.hw.fch.spareCor n = (correctSample (satInt 16 x) (s.hw.spareOf n).ofs (s.hw.spareOf n).gain).1 ∧
      ((s.hw.spareOf n).job = 3 → 3 ≤ (s.hw.spareOf n).conv → t.hw.flag (FCH_SPAREn_TRACKED n) = true)) ∧
  (∀ (s : State) (n : Nat) (bad : Bool), Runs s.hw → n < 2 → s.hw.fch.strobes ≠ 0 → bitOf s.hw.fch.ready (32 + n) = false →
    ∃ t, exec (.conversionFault (32 + n) bad) s = .next t ∧
      Keeps s t ((if (s.hw.spareOf n).job = 3 then [] else FCH_SPAREn_SPARE_FLT n :: replyFlds) ++ mismatchFlds 0)
        { t.hw with fch := s.hw.fch, sieve := s.hw.sieve, chr := s.hw.chr, int := s.hw.int, cmd := s.hw.cmd } ∧
      bitOf t.hw.fch.lost (32 + n) = true ∧ ((s.hw.spareOf n).job = 3 → (t.hw.spareOf n).conv = 0) ∧
      ((s.hw.spareOf n).job ≠ 3 → t.hw.flag (FCH_SPAREn_SPARE_FLT n) = true ∧ (t.hw.spareOf n).job = 0 ∧
        ∀ w ∈ t.hw.cmd.waiting, w.kind ≠ .spareSubst n)) ∧
  (∀ (s : State) (t0 : Nat), Runs s.hw → s.hw.fch.settle = some t0 → t0 + 5 * ticksPerMs ≤ s.hw.ticks →
    Becomes .refselSettleEnd s ((s.hw.onFch fun f => { f with settle := none }).put FCH_CTRL_CAL_BUSY 1)) ∧
  (∀ (s : State) (fits : List (Option (Int × Int))), Runs s.hw → s.hw.flag FCH_CTRL_CAL_BUSY = true →
    ∃ t, exec (.foregroundCalDone fits) s = .next t ∧
      Keeps s t ([FCH_CTRL_CAL_BUSY, FCH_CONVFLT_CONV_FAULT, FCH_CALSTAT_CAL_FAILED, FCH_SPAREn_SPARE_FLT 0,
          FCH_SPAREn_SPARE_FLT 1] ++ replyFlds)
        { t.hw with fch := s.hw.fch, cmd := s.hw.cmd } ∧
      t.hw.get FCH_CTRL_CAL_BUSY = 0 ∧
      ∀ w ∈ t.hw.cmd.waiting, w.kind ≠ .calibrate) ∧
  (∀ (s : State) (n : Nat), Runs s.hw → n < 2 → (s.hw.spareOf n).job = 2 → 3 ≤ (s.hw.spareOf n).seg →
    s.hw.get (FCH_SPAREn_CAL_DWELL n) ≤ (s.hw.spareOf n).frames →
    let c := 16 * n + ((s.hw.spareOf n).seg - 3)
    let fit := dwellFit (s.hw.spareOf n).sums (s.hw.liveInt (FCH_CALn_OFS c)) (s.hw.liveGet (FCH_CALn_GAIN c))
    ∃ t, exec (.calDwellEnd n) s = .next t ∧
      Keeps s t (FCH_SPAREn_CUR_CH n :: if fit.isSome then [] else [FCH_CALSTAT_CAL_REJECT, FCH_CALSTAT_REJ_CNT])
        { t.hw with fch := s.hw.fch } ∧
      (fit = none → t.hw.flag FCH_CALSTAT_CAL_REJECT = true) ∧ (fit ≠ none → smapGet none t.hw.fch.calDue c = fit) ∧
      (t.hw.spareOf n).seg = if (s.hw.spareOf n).seg = 18 then 0 else (s.hw.spareOf n).seg + 1) ∧
  (∀ (s : State) (n k code : Nat) (inj : Bool), Runs s.hw → n < 2 → (s.hw.hkcOf n).cur = some (inj, k) → code < 2 ^ 24 →
    s.hw.shf.clock = true → s.hw.hkcDue n ≤ 2 * (s.hw.time.base + s.hw.tickLen) →
    ∃ t, exec (.hkcEntryComplete n code) s = .next t ∧
      Keeps s t [word (HKCn_DATA n), word (HKCn_STAT n), SYS_PWRSTAT_THERM_WARN] { t.hw with hkc := s.hw.hkc, time := s.hw.time } ∧
      t.hw.get (HKCn_DATA_VALUE n) = code ∧ t.hw.get (HKCn_DATA_NEW n) = 1) ∧
  (∀ (s : State) (n src sel : Nat), Runs s.hw → n < 2 → 1 ≤ src → src = s.hw.get (HKCn_INJCFG_SRC n) →
    src = 2 ∨ sel = s.hw.get (HKCn_INJCFG_SEL n) → Becomes (.hkcInjTrigger n src sel) s (hkcTrigger n s.hw)) ∧
  (∀ (s : Hw) (n : Nat), (s.flag (HKCn_CFG_EN n) = false → hkcTrigger n s = s) ∧
    (s.flag (HKCn_CFG_EN n) = true → s.flag (HKCn_STAT_INJ_RUN n) = true → hkcTrigger n s = s.raise (HKCn_STAT_INJ_MISS n)) ∧
    (s.flag (HKCn_CFG_EN n) = true → s.flag (HKCn_STAT_INJ_RUN n) = false →
      (hkcTrigger n s).flag (HKCn_STAT_INJ_RUN n) = true ∧ ((hkcTrigger n s).hkcOf n).cur = some (true, 0)))

/-! ### The Sieve -/

/-- Table SIV-2: SIEVE_STATUS_GET answers with the channels' selections, SVn_STAT, SV_USERCTL and, if asked, a set's coefficients;
SIEVE_SET_SELECT writes each named channel's selection (R71); SIEVE_COEF_LOAD writes a shadow copy and SIEVE_COEF_COMMIT marks both for
the coming frame boundary (R72); TONE_CONFIG writes a detector and discards its block (R76, R78); TONE_READ answers with MAG2 and PH of
each named detector (R77). -/
def Obligations.SieveCommands : Prop :=
  (∀ (s : State) (h : Hdr) (n c : Nat), Accepts (Op.plain 0x0420 .viewer) h s.hw → n < 2 → c < 6 ∨ c = 0xFF →
    let data := regBytes s.hw ((List.range 16).map (SVn_CHk n) ++ [SVn_STAT n, SV_USERCTL]) ++ setReadOut s.hw c
    Fits h data → Answers (.sieveStatusGet h n c) h 0x0420 s data) ∧
  (∀ (s : State) (h : Hdr) (n mask c r : Nat), Accepts (Op.plain 0x0421 .engineer) h s.hw → Room s.hw 16 → n < 2 → mask < 65536 →
    c < 5 → r < 6 → (∀ k ∈ bitsOf 16 mask, ctlModeBad s.hw n k c = false) → s.hw.selectsEmpty c = false → s.hw.selectsEmpty r = false →
    Performs (.sieveSetSelect h n mask c r) h 0x0421 s []
      ((s.hw.accept h).each (bitsOf 16 mask) fun k => chSelect n k (some c) (some r))) ∧
  (∀ (s : State) (h : Hdr) (m taps : Nat) (cs : List Int), Accepts (Op.sized 0x0422 .engineer (2 + 2 * taps)) h s.hw → Room s.hw 65 → m < 2 →
    taps ≤ 128 → cs.length = taps → s.hw.coefPending = false →
    Performs (.sieveCoefLoad h m taps cs) h 0x0422 s [] (coefLoaded m taps cs (s.hw.accept h))) ∧
  (∀ (s : State) (h : Hdr), Accepts (Op.plain 0x0423 .engineer) h s.hw → Room s.hw 1 → firstFail (commitChecks s.hw) = none →
    Waits (.sieveCoefCommit h) h 0x0423 s .coefCommit (commitMark (s.hw.accept h))) ∧
  (∀ (s : State) (h : Hdr) (n m cfg freq : Nat), Accepts (Op.plain 0x0424 .operator) h s.hw → Room s.hw 2 → n < 2 → m < 16 →
    15 ≤ (SVn_TDm_CFG_LEN_M1 0 0).ofNat cfg → freq < 2 ^ 24 → bitOf cfg 30 = true ∨ freq ≤ 16000000 →
    Performs (.toneConfig h n m cfg freq) h 0x0424 s []
      ((((s.hw.accept h).setWord (SVn_TDm_CFG n m) cfg).setWord (SVn_TDm_FREQ n m) freq).onTone n m
        fun d => { d with restart := true })) ∧
  (∀ (s : State) (h : Hdr) (n mask : Nat), Accepts (Op.plain 0x0425 .viewer) h s.hw → n < 2 → mask < 65536 →
    Answers (.toneRead h n mask) h 0x0425 s ((bitsOf 16 mask).flatMap fun m =>
      leBytes 4 (s.hw.reg (SVn_TDm_MAG2 n m)).toNat ++ leBytes 4 (s.hw.reg (SVn_TDm_PH n m)).toNat))

/-- What each event of the Sieve does. The control outputs of a tick, and the recorder outputs of every fourth strobe, are those of each
channel's set in force over its samples; those of an engine whose bundle fails its check are the last good ones, marked substituted. A
burst counts for SIEVE_DONE_MAX, and raises CLK_TOL where it ends after cycle 108. An uncorrectable coefficient error marks both engines
and the set. A finished tone block reports MAG2, PHASE, a SEQ one higher and VALID, and goes to the Exchange RAM at the input release of
its tick, or waits for the next one (the order of its words there is the model's choice, log entry 53). -/
def Obligations.SieveEvents : Prop :=
  (∀ (s : State) (done bad : Nat), Ticking s.hw →
    ∃ t, exec (.sieveControlBurst done bad) s = .next t ∧
      Keeps s t ([SYS_TLMAX_SIEVE_DONE_MAX, SVn_STAT_SAT 0, SVn_STAT_SAT 1, SYS_TISTAT_CLK_TOL] ++ mismatchFlds 1)
        { t.hw with sieve := s.hw.sieve, int := s.hw.int, xin := s.hw.xin, chr := s.hw.chr } ∧
      t.hw.get SYS_TLMAX_SIEVE_DONE_MAX = max (s.hw.get SYS_TLMAX_SIEVE_DONE_MAX) (min done 511) ∧
      (108 < done → t.hw.flag SYS_TISTAT_CLK_TOL = true) ∧
      ∀ c, c < 32 → smapGet noSamp t.hw.sieve.ctl c =
        if bitOf bad (c / 16) || s.hw.injDue 1 (c / 16) then ⟨(smapGet noSamp s.hw.sieve.ctl c).val, true⟩
        else (s.hw.chanOut c (s.hw.liveGet (SVn_CHk_CTL_SET (c / 16) (c % 16))) 0).1) ∧
  (∀ (s : State) (k bad : Nat), Ticking s.hw → k % 4 = 0 → k < 16 → k < smapGet 0 s.hw.sieve.taken 0 → k < smapGet 0 s.hw.sieve.taken 1 →
    ∃ t, exec (.sieveRecorderEval k bad) s = .next t ∧
      Keeps s t ([SVn_STAT_SAT 0, SVn_STAT_SAT 1] ++ mismatchFlds 1)
        { t.hw with sieve := s.hw.sieve, chr := s.hw.chr, int := s.hw.int } ∧
      ∀ c, c < 32 → smapGet noSamp t.hw.sieve.recOut c =
        if bitOf bad (c / 16) then ⟨(smapGet noSamp s.hw.sieve.recBy (32 * (k / 4) + c)).val, true⟩
        else (s.hw.chanOut c (s.hw.liveGet (SVn_CHk_REC_SET (c / 16) (c % 16))) k).1) ∧
  (∀ (s : State) (m : Nat), Runs s.hw → m < 2 → ∃ t, exec (.coefEccError m) s = .next t ∧
      Keeps s t [SVn_STAT_COEF_ERR 0, SVn_STAT_COEF_ERR 1, INT_STAT_COEF_ERR_SEEN] { t.hw with sieve := s.hw.sieve } ∧
      t.hw.flag (SVn_STAT_COEF_ERR 0) = true ∧
    t.hw.flag (SVn_STAT_COEF_ERR 1) = true ∧ t.hw.flag INT_STAT_COEF_ERR_SEEN = true ∧ bitOf t.hw.sieve.hurt m = true) ∧
  (∀ (s : State) (n m : Nat) (r : ToneRep), Runs s.hw → n < 2 → m < 16 → (s.hw.toneOf n m).done = some r → r.tick < s.hw.ticks →
    ∃ t, exec (.toneBlockDone n m) s = .next t ∧
      Keeps s t [word (SVn_TDm_MAG2 n m), word (SVn_TDm_PH n m)]
        { t.hw with sieve := s.hw.sieve, xarr := s.hw.xarr, xin := s.hw.xin, xram := s.hw.xram, trg := s.hw.trg,
                    time := s.hw.time } ∧
      t.hw.get (SVn_TDm_MAG2_MAG2 n m) = r.mag2 % 2 ^ 32 ∧
      t.hw.get (SVn_TDm_PH_PHASE n m) = r.phase % 2 ^ 16 ∧ t.hw.flag (SVn_TDm_PH_VALID n m) = true ∧
      t.hw.get (SVn_TDm_PH_SEQ n m) = (s.hw.get (SVn_TDm_PH_SEQ n m) + 1) % 2 ^ (SVn_TDm_PH_SEQ n m).width ∧
      let ph := (t.hw.reg (SVn_TDm_PH n m)).toNat
      let ws := [r.mag2 % 65536, r.mag2 / 65536, ph % 65536, ph / 65536]
      (∀ i, i < 4 → smapGet 0 t.hw.xin (toneWord n m + i) = ws.getD i 0) ∧
      (s.hw.time.cyc ≤ 110 → ∀ i, i < 4 → smapGet 0 t.hw.xram (toneWord n m + i) = ws.getD i 0) ∧
      (110 < s.hw.time.cyc → t.hw.xram = s.hw.xram))

/-! ### Loop Engines -/

/-- Table LPE-5, the commands on status, images, rotation and memories: what each answers or writes. -/
def Obligations.LoopEngineCommands : Prop :=
  (∀ (s : State) (h : Hdr) (n : Nat), Accepts (Op.plain 0x0500 .viewer) h s.hw → n < 24 → Answers (.leStatusGet h n) h 0x0500 s
    (regBytes s.hw (LEn_STAT n :: (List.range 8).flatMap (fun m => [LEn_TASKm_CFG n m, LEn_TASKm_STAT n m]) ++ [LE_CLSTAT, LE_ROT]))) ∧
  (∀ (s : State) (h : Hdr) (o : Nat) (bs : List Byte), Accepts (Op.plain 0x0501 .engineer) h s.hw → Room s.hw 1 → s.hw.cfgMode = true →
    s.hw.nv.custKey.isSome = true → Performs (.leImageLoad h o bs.length bs false) h 0x0501 s []
      ((s.hw.accept h).onLe fun c => { c with imgBuf := memWriteList c.imgBuf o bs })) ∧
  (∀ (s : State) (h : Hdr) (i : Image), Accepts (Op.plain 0x0502 .engineer) h s.hw → Room s.hw 1 → s.hw.cfgMode = true →
    s.hw.le.imgReady = some i → i.parts ≠ [] → (∀ p ∈ i.parts, s.hw.underRotation p.engine = false) →
    Waits (.leImageActivate h) h 0x0502 s .imageActivate ((s.hw.accept h).onLe fun c => { c with imgDue := c.imgDue ++ [i] })) ∧
  (∀ (s : State) (h : Hdr) (k d : Nat), Accepts (Op.plain 0x0503 .engineer) h s.hw → Room s.hw 1 → 1 ≤ k → k ≤ 16 → 4 ≤ d → d ≤ 64 →
    Performs (.leClcfgSet h k d) h 0x0503 s [] (((s.hw.accept h).put LE_CLCFG_K k).put LE_CLCFG_DEG_TMO d)) ∧
  (∀ (s : State) (h : Hdr) (mask : Nat), Accepts (Op.plain 0x0504 .operator) h s.hw → Room s.hw 192 →
    Performs (.leMissClear h mask) h 0x0504 s [] ((s.hw.accept h).each (bitsOf 24 mask) fun n s => s.each (List.range 8) fun m s =>
      (s.put (LEn_TASKm_STAT_MISS_CNT n m) 0).put (LEn_TASKm_STAT_DLMISS n m) 0)) ∧
  (∀ (s : State) (h : Hdr) (n k p : Nat), Accepts (Op.plain 0x0505 .engineer) h s.hw → Room s.hw 1 → n < 20 → k < 16 →
    s.hw.freeSpare = some p → s.hw.underRotation n = false → smapGet none s.hw.le.place n = none →
    ∃ t, exec (.leRotate h n k) s = .next t ∧
      Keeps s t (word LE_ROT :: servedFlds) { t.hw with cmd := s.hw.cmd, log := s.hw.log, le := s.hw.le } ∧
      Replied t.hw h 0x0505 .ok [] ∧ t.hw.flag LE_ROT_BUSY = true ∧
      t.hw.get LE_ROT_PHASE = 1 ∧ t.hw.get LE_ROT_SRC = n ∧ t.hw.get LE_ROT_SPARE = p ∧ t.hw.get LE_ROT_SHADOW_M1 = k) ∧
  (∀ (s : State) (h : Hdr) (sp n a c : Nat), Accepts (Op.plain 0x050A .viewer) h s.hw → sp < 2 → n < 24 → c ≤ 512 → a % 2 = 0 →
    a + 2 * c ≤ (if sp = 0 then 0x8000 else 0x80000) → Answers (.leVarRead h sp n a c) h 0x050A s
      ((List.range c).flatMap fun i => leBytes 2 (s.hw.varWord sp n (a + 2 * i))))

/-- Table LPE-5, the commands on gains and injection: LE_REGION_CFG writes the Region Selector's words (R93); LE_GAINSET_LOAD stages a
gain set for the frame boundary (R95); LE_INJ_START binds a generator whose peak LIM admits, to start at the frame boundary, and
LE_INJ_STOP stops each named point (R96). -/
def Obligations.GainAndInjectionCommands : Prop :=
  (∀ (s : State) (h : Hdr) (n : Nat) (xs ms : List Nat) (f fs : Nat), Accepts (Op.plain 0x0506 .engineer) h s.hw → Room s.hw 45 →
    n < 24 → regionBad xs f fs = false → xs.length = 12 → ms.length = 32 →
    Performs (.leRegionCfg h n xs ms f fs) h 0x0506 s []
      (((((s.hw.accept h).each (List.range 4) fun i s => ((s.setWord (LEn_RINi_ADDR n i) (xs.getD (3 * i) 0)).setWord (LEn_RINi_TA n i)
        (xs.getD (3 * i + 1) 0)).setWord (LEn_RINi_TB n i) (xs.getD (3 * i + 2) 0)).each (List.range 32) fun j s =>
        s.setWord (LEn_RMAPj n j) (ms.getD j 0)).put (LEn_RSEL_FORCE n) f).put (LEn_RSEL_FORCE_SET n) fs)) ∧
  (∀ (s : State) (h : Hdr) (n k : Nat) (gs : List Nat), Accepts (Op.plain 0x0507 .engineer) h s.hw → Room s.hw 1 → n < 24 → k < 16 →
    gs.length = 64 → Waits (.leGainsetLoad h n k gs) h 0x0507 s .gainset
      ((s.hw.accept h).onEng n fun e => { e with gainDue := smapSet none e.gainDue k (some (gs.map (· % 65536))) })) ∧
  (∀ (s : State) (h : Hdr) (n p g : Nat) (x : InjGen) (lim mon : Nat), Accepts (Op.plain 0x0508 .engineer) h s.hw → Room s.hw 2 →
    s.hw.standby = false → s.hw.mode = mBlocked ∨ s.hw.mode = mForm → n < 24 → p < 8 → g = 22 ∨ g = 23 → lim < 65536 → mon < 65536 →
    injGenOk x = true → injPeak x ≤ lim →
    Performs (.leInjStart h n p g x lim mon) h 0x0508 s []
      ((((s.hw.accept h).put (LEn_INJLIMj_LIM n p) lim).put (LEn_INJLIMj_MON n p) mon).onEng n fun e =>
        { e with inj := smapSet {} e.inj p { smapGet {} e.inj p with next := some (g, x) } })) ∧
  (∀ (s : State) (h : Hdr) (n mask : Nat), Accepts (Op.plain 0x0509 .operator) h s.hw → Room s.hw 1 → n < 24 →
    Performs (.leInjStop h n mask) h 0x0509 s [] ((s.hw.accept h).each (bitsOf 8 mask) fun j s => s.onEng n fun e =>
      { e with inj := smapSet {} e.inj j { smapGet {} e.inj j with next := none, stopDue := true } }))

/-- Task events of engine `e`, which runs the tasks of engine `n` (its own, or after a HANDOVER those of another). A run that may start
does (R86), a TICK task's no earlier than its START offset. END commits the run's state writes in order and its outputs only at the
deadline, when they become readable in the Exchange RAM (R88, R89); where a shadowing spare's commits differ the rotation ends with
MISMATCH. A run that has not ended at its deadline is a miss: DLMISS, MISS_CNT and DLMISS_SEEN (R89, R90). A degraded ACTIVE part with a
twin latches DLMISS_K when DEG_TMO ticks have passed (R91).
Events of a rotation (R100): the copy gives the spare the engine's program, tasks and gains, on the way back shows its tasks on the
engine again; the last shadow frame ends its comparison; a self-test of the freed engine that passes leads to the return, one that fails,
and that of the spare after the return, ends the rotation. Where both rotations await one event, the first takes it: the model's
choice, log entry 20. -/
def Obligations.TasksAndRotation : Prop :=
  (∀ (s : State) (e n m : Nat) (run : TaskRun) (d : TaskDecl), Ticking s.hw → e < 24 → m < 8 → s.hw.runsOf e = some n →
    (s.hw.taskOf n m).decl = some d → s.hw.mayStart e n m = true →
    ∃ t, exec (.taskStart e m run) s = .next t ∧
      Keeps s t ([LEn_STAT_XRD_ERR e, LEn_STAT_AOV e, LEn_STAT_XWR_ERR e, LEn_STAT_WBUF_OVF e, LEn_INJSTAT_ABORT n] ++ injFlds s.hw ++
          tripFlds)
        { t.hw with le := s.hw.le, trg := s.hw.trg, ops := s.hw.ops, log := s.hw.log, cmd := s.hw.cmd, time := s.hw.time,
                    chr := s.hw.chr } ∧
      (t.hw.taskOf n m).started = true ∧ (d.rate = 1 → d.start ≤ t.hw.time.cyc)) ∧
  (∀ (s : State) (e n m : Nat) (differs : Bool), CoreRuns s.hw → e < 24 → m < 8 → s.hw.runsOf e = some n →
    (s.hw.taskOf n m).started = true → (s.hw.taskOf n m).ended = false → (s.hw.taskOf n m).lost = false →
    s.hw.flag (LEn_STAT_HALTED e) = false → s.hw.hasEngine n m = true → ∃ t, exec (.taskEnd e m differs) s = .next t ∧
      Keeps s t ((if n < 12 ∧ m = 0 then [word GFL_STAT, word LFT_STAT, word ENG_CRIT, LEn_STAT_RESC_SAT 1] else []) ++
          if differs then rotFlds n else [])
        { t.hw with le := s.hw.le, trg := s.hw.trg, ops := s.hw.ops } ∧
      (t.hw.taskOf n m).ended = true ∧ (t.hw.taskOf n m).out = (s.hw.taskOf n m).out ∧
      (t.hw.engOf n).dmem = (s.hw.taskOf n m).stateW.foldl (fun d w => smapSet 0 d w.1 w.2) (s.hw.engOf n).dmem ∧
      (differs = true → ∀ p, s.hw.inShadow n = some p → t.hw.flag LE_ROT_MISMATCH = true ∧ t.hw.rotOf p = {})) ∧
  (∀ (s : State) (e n m : Nat) (late : Bool) (d : TaskDecl), Ticking s.hw → e < 24 → m < 8 → s.hw.runsOf e = some n →
    (s.hw.taskOf n m).decl = some d → (if d.rate = 1 then (s.hw.taskOf n m).due else (s.hw.taskOf n m).isOver) = true →
    (s.hw.taskOf n m).ended = true →
    ∃ t, exec (.taskDeadline e m late) s = .next t ∧
      Keeps s t (LEn_TASKm_STAT_CONSEC e m :: (if n = 7 ∧ m = 0 then [GFL_STAT_RAMPING] else []) ++ if late then rotFlds n else [])
        { t.hw with le := s.hw.le, xram := s.hw.xram } ∧
      t.hw.get (LEn_TASKm_STAT_CONSEC e m) = 0 ∧ (t.hw.taskOf n m).ended = false ∧ (d.rate = 1 → (t.hw.taskOf n m).due = false) ∧
      (n ≠ 11 ∨ m ≠ 0 → t.hw.xram = (s.hw.taskOf n m).out.foldl (fun x w => smapSet 0 x w.1 w.2) s.hw.xram)) ∧
  (∀ (s : State) (e n m : Nat) (late : Bool) (d : TaskDecl), Ticking s.hw → e < 24 → m < 8 → s.hw.runsOf e = some n →
    (s.hw.taskOf n m).decl = some d → (if d.rate = 1 then (s.hw.taskOf n m).due else (s.hw.taskOf n m).isOver) = true →
    (s.hw.taskOf n m).ended = false →
    ∃ t, exec (.taskDeadline e m late) s = .next t ∧
      Keeps s t ([word (LEn_TASKm_STAT e m), SYS_TISTAT_DLMISS_SEEN, LE_CLSTAT_DEGRADED, LE_CLSTAT_DEG_ENGINE] ++ rotFlds n ++
          injFlds s.hw ++ tripFlds)
        { t.hw with le := s.hw.le, int := s.hw.int, trg := s.hw.trg, ops := s.hw.ops, log := s.hw.log, cmd := s.hw.cmd,
                    free := s.hw.free, chr := s.hw.chr } ∧
      t.hw.flag (LEn_TASKm_STAT_DLMISS e m) = true ∧
      t.hw.get (LEn_TASKm_STAT_MISS_CNT e m) = satInc (LEn_TASKm_STAT_MISS_CNT e m).width (s.hw.get (LEn_TASKm_STAT_MISS_CNT e m)) ∧
      t.hw.flag SYS_TISTAT_DLMISS_SEEN = true ∧ t.hw.xram = s.hw.xram) ∧
  (∀ s : State, Runs s.hw → s.hw.hasTwin = true → s.hw.active = true → s.hw.flag LE_CLSTAT_DEGRADED = true →
    s.hw.le.degTick + s.hw.liveGet LE_CLCFG_DEG_TMO ≤ s.hw.ticks → bitOf (s.hw.get SYS_TRIPCAUSE_LATCHED) cDlmissK = false →
    ∃ t, exec .degTmoExpiry s = .next t ∧
      Keeps s t tripFlds { t.hw with cmd := s.hw.cmd, log := s.hw.log, ops := s.hw.ops, trg := s.hw.trg } ∧
      bitOf t.hw.latched cDlmissK = true ∧ bitOf t.hw.ops.tripTick cDlmissK = true) ∧
  (∀ (s : State) (p : Nat), Runs s.hw → p < 2 → (∀ q < p, s.hw.rotating q = false) → (s.hw.rotOf p).copied = false →
    ((s.hw.rotOf p).phase = 1 →
      ∃ t, exec .rotationCopyDone s = .next t ∧ Keeps s t (taskFlds (20 + p)) { t.hw with le := s.hw.le } ∧
        (t.hw.rotOf p).copied = true ∧ (t.hw.engOf (20 + p)).code = (s.hw.engOf (s.hw.rotOf p).src).code ∧
        (t.hw.engOf (20 + p)).gains = (s.hw.engOf (s.hw.rotOf p).src).gains ∧
        t.hw.flag (LEn_STAT_LOADED (20 + p)) = !(s.hw.declsOf (s.hw.rotOf p).src).isEmpty) ∧
    ((s.hw.rotOf p).phase = 4 → (s.hw.rotOf p).test = false → (s.hw.rotOf p).src < 20 →
      ∃ t, exec .rotationCopyDone s = .next t ∧ Keeps s t (taskFlds (s.hw.rotOf p).src) { t.hw with le := s.hw.le } ∧
        (t.hw.rotOf p).copied = true ∧ t.hw.le.engines = s.hw.le.engines ∧
        t.hw.flag (LEn_STAT_LOADED (s.hw.rotOf p).src) = !(s.hw.declsOf (s.hw.rotOf p).src).isEmpty)) ∧
  (∀ (s : State) (p : Nat), Runs s.hw → p < 2 → (∀ q < p, (s.hw.rotOf q).left ≠ 1) → (s.hw.rotOf p).left = 1 →
    (s.hw.rotOf p).shadowed = false → Becomes .rotationShadowEnd s (s.hw.onRot p fun r => { r with shadowed := true })) ∧
  (∀ (s : State) (p : Nat), Runs s.hw → p < 2 → (∀ q < p, (s.hw.rotOf q).phase ≠ 3 ∧ (s.hw.rotOf q).test = false) →
    (s.hw.rotOf p).phase = 3 → (s.hw.rotOf p).src < 20 →
    (∃ t, exec (.leBistDone true) s = .next t ∧
      Keeps s t [LE_CLSTAT_LE_FAULT, word LE_ROT] { t.hw with le := s.hw.le } ∧
      bitOf (t.hw.get LE_CLSTAT_LE_FAULT) (s.hw.rotOf p).src = false ∧ (t.hw.rotOf p).phase = 4) ∧
    (∃ t, exec (.leBistDone false) s = .next t ∧
      Keeps s t (LE_CLSTAT_LE_FAULT :: rotFlds (s.hw.rotOf p).src) { t.hw with le := s.hw.le } ∧
      bitOf (t.hw.get LE_CLSTAT_LE_FAULT) (s.hw.rotOf p).src = true ∧ t.hw.flag LE_ROT_BIST_FAIL = true ∧ t.hw.rotOf p = {})) ∧
  (∀ (s : State) (p : Nat) (pass : Bool), Runs s.hw → p < 2 → (∀ q < p, (s.hw.rotOf q).phase ≠ 3 ∧ (s.hw.rotOf q).test = false) →
    (s.hw.rotOf p).phase = 4 → (s.hw.rotOf p).test = true → (s.hw.rotOf p).src < 20 →
    ∃ t, exec (.leBistDone pass) s = .next t ∧
      Keeps s t (LE_CLSTAT_LE_FAULT :: rotFlds (s.hw.rotOf p).src) { t.hw with le := s.hw.le } ∧
      bitOf (t.hw.get LE_CLSTAT_LE_FAULT) (20 + p) = !pass ∧ t.hw.rotOf p = {})

/-! ### Keamen's kernel -/

/-- Tables GFL-8, LFT-7 and ENG-5: a parameter command that writes an admitted value changes that register; GFL_PARAM_SET and
LFT_PARAM_SET then wait for the frame boundary that latches the write (R123), where the one that waits is answered with the tick of its
effect, 16 ticks on; a read answers with the written value and the one in force; a status command with its registers and the
words of Tables GFL-4 and LFT-6. -/
def Obligations.KernelParameterCommands : Prop :=
  (∀ (s : State) (h : Hdr) (o v a : Nat) (t : Hw), Accepts (Op.plain 0x0520 .engineer) h s.hw → Room s.hw 1 →
    paramAddr GFL_BASE0 (GFL_MAPq 13) o = some a → (gflWrite (s.hw.accept h) ((s.hw.accept h).wr a v)).toOption = some t →
    Waits (.gflParamSet h o v) h 0x0520 s .param t ∧ t = (s.hw.accept h).setWord a v) ∧
  (∀ (s : State) (h : Hdr) (o v a : Nat) (t : Hw), Accepts (Op.plain 0x0530 .engineer) h s.hw → Room s.hw 1 →
    paramAddr LFT_IMAX LFT_CHOP2 o = some a → (lftWrite (s.hw.accept h) ((s.hw.accept h).wr a v)).toOption = some t →
    Waits (.lftParamSet h o v) h 0x0530 s .param t ∧ t = (s.hw.accept h).setWord a v) ∧
  (∀ (s : State) (h : Hdr) (o v a : Nat) (t : Hw), Accepts (Op.plain 0x0540 .engineer) h s.hw → Room s.hw 1 →
    paramAddr ENG_PRE ENG_BS o = some a → (engWrite (s.hw.accept h) ((s.hw.accept h).wr a v)).toOption = some t →
    Performs (.engParamSet h o v) h 0x0540 s [] t ∧ t = (s.hw.accept h).setWord a v) ∧
  (∀ (s : State) (h : Hdr) (o a : Nat), Accepts (Op.plain 0x0521 .viewer) h s.hw → paramAddr GFL_BASE0 (GFL_MAPq 13) o = some a →
    Answers (.gflParamGet h o) h 0x0521 s (leBytes 4 (s.hw.reg a).toNat ++ leBytes 4 (s.hw.liveReg a).toNat)) ∧
  (∀ (s : State) (h : Hdr) (o a : Nat), Accepts (Op.plain 0x0531 .viewer) h s.hw → paramAddr LFT_IMAX LFT_CHOP2 o = some a →
    Answers (.lftParamGet h o) h 0x0531 s (leBytes 4 (s.hw.reg a).toNat ++ leBytes 4 (s.hw.liveReg a).toNat)) ∧
  (∀ (s : State) (h : Hdr) (o a : Nat), Accepts (Op.plain 0x0541 .viewer) h s.hw → paramAddr ENG_PRE ENG_BS o = some a →
    Answers (.engParamGet h o) h 0x0541 s (leBytes 4 (s.hw.reg a).toNat ++ leBytes 4 (s.hw.liveReg a).toNat)) ∧
  (∀ (s : State) (h : Hdr), Accepts (Op.plain 0x0522 .viewer) h s.hw → Answers (.gflStatusGet h) h 0x0522 s
    (regBytes s.hw [GFL_STAT] ++ wordBytes (s.hw.le.words.take gflWordAddrs.length))) ∧
  (∀ (s : State) (h : Hdr), Accepts (Op.plain 0x0532 .viewer) h s.hw → s.hw.le.words.length ≤ 256 → Answers (.lftStatusGet h) h 0x0532 s
    (regBytes s.hw [LFT_STAT, LFT_KCAUSE, LFT_LAST0, LFT_LAST1] ++ wordBytes (s.hw.le.words.drop gflWordAddrs.length))) ∧
  (∀ (s : State) (h : Hdr), Accepts (Op.plain 0x0542 .viewer) h s.hw → Answers (.engStatusGet h) h 0x0542 s
    (regBytes s.hw [ENG_STAT, ENG_CRIT, ENG_NCHGj 0, ENG_NCHGj 1, ENG_NCHGj 2])) ∧
  (∀ (s : Hw) (w : Waiting) (x : Session), s.cmd.waiting = [w] → w.kind = .param → s.session? w.hdr = some x → w.hdr.session ≠ 0 →
    w.hdr.transport ≠ .internal →
    Replied (stageFrame s) w.hdr w.opcode .ok (leBytes 4 ((s.time.tickNo + 16) % 2 ^ 32)) ∧ (stageFrame s).cmd.waiting = [])

/-- What each event of LE11 does when its conditions hold. A fired detector sets its SEEN flag, and while the valve switches, unless it is
masked, ACF or DCF; one of arm over-current or DC over-voltage trips the kernel. AC_RECOVERY clears ACF once its conditions have held
for REC_T. CLEAR ends on the current, DEION on its time; RESTORE ends with DCF. A CLEAR that lasts DCF_TCLR trips the kernel. A failed
energization latches ENERGIZE_FAIL with its reason. -/
def Obligations.KernelEvents : Prop :=
  (∀ (s : State) (d : Nat), Runs s.hw → d < 6 → bitOf (s.hw.k kFired).toNat d = true →
    ∃ t, exec (.detectorCount d) s = .next t ∧
      Keeps s t (word LFT_STAT :: word LFT_KCAUSE :: word ENG_CRIT :: tripFlds)
        { t.hw with le := s.hw.le, xram := s.hw.xram, ops := s.hw.ops, trg := s.hw.trg, log := s.hw.log, cmd := s.hw.cmd } ∧
      t.hw.flag ([LFT_STAT_UV_SEEN, LFT_STAT_OV_SEEN, LFT_STAT_OC_SEEN, LFT_STAT_DCUV_SEEN, LFT_STAT_DCOC_SEEN,
        LFT_STAT_DCPE_SEEN].getD d LFT_STAT_UV_SEEN) = true ∧
      (s.hw.switching = true → detMasked s.hw d = false →
        (d < 3 → t.hw.flag LFT_STAT_ACF = true) ∧ (3 ≤ d → t.hw.flag LFT_STAT_DCF = true))) ∧
  (∀ (s : State) (d : Nat), Runs s.hw → d = 6 ∨ d = 7 → bitOf (s.hw.k kFired).toNat d = true →
    let cause := if d = 6 then LFT_KCAUSE_ARM_OC else LFT_KCAUSE_DC_OV
    ∃ t, exec (.detectorCount d) s = .next t ∧
      Keeps s t (cause :: tripFlds) { t.hw with ops := s.hw.ops, trg := s.hw.trg, log := s.hw.log, cmd := s.hw.cmd } ∧
      t.hw.flag cause = true ∧ bitOf t.hw.latched cKernel = true ∧ bitOf t.hw.ops.tripTick cKernel = true) ∧
  (∀ s : State, Runs s.hw → s.hw.flag LFT_STAT_ACF = true → (s.hw.liveGet LFT_ACTIME_REC_T : Int) * 500 ≤ s.hw.k kRecT →
    ∃ t, exec .acRecovery s = .next t ∧
      Keeps s t [word LFT_STAT, word ENG_CRIT] { t.hw with le := s.hw.le, xram := s.hw.xram, ops := s.hw.ops } ∧
      t.hw.flag LFT_STAT_ACF = false ∧
      (s.hw.mode = mRide → s.hw.flag LFT_STAT_DCF = false → t.hw.ops.recovered = true)) ∧
  (∀ s : State, Runs s.hw → s.hw.k kStageNext = 0 → s.hw.get LFT_STAT_DCF_STAGE = 1 →
    (s.hw.k kIdc).natAbs ≤ s.hw.liveGet LFT_DCF2_DCF_ICLR → Becomes .dcStageTimer s (s.hw.setK kStageNext 2)) ∧
  (∀ s : State, Runs s.hw → s.hw.k kStageNext = 0 → s.hw.get LFT_STAT_DCF_STAGE = 2 →
    (s.hw.liveGet LFT_DCF2_DCF_DEION : Int) * 5000 ≤ s.hw.k kStageAge → Becomes .dcStageTimer s (s.hw.setK kStageNext 3)) ∧
  (∀ s : State, Runs s.hw → s.hw.k kStageNext = 0 → s.hw.get LFT_STAT_DCF_STAGE = 3 →
    (s.hw.liveGet LFT_DCREC_DCREC_T : Int) * 500 ≤ s.hw.k kDcRec →
    ∃ t, exec .dcStageTimer s = .next t ∧
      Keeps s t [word LFT_STAT, word ENG_CRIT] { t.hw with le := s.hw.le, xram := s.hw.xram, ops := s.hw.ops } ∧
      t.hw.flag LFT_STAT_DCF = false ∧ t.hw.get LFT_STAT_DCF_STAGE = 0 ∧
      (s.hw.mode = mRide → s.hw.flag LFT_STAT_ACF = false → t.hw.ops.recovered = true)) ∧
  (∀ s : State, Runs s.hw → s.hw.get LFT_STAT_DCF_STAGE = 1 → s.hw.k kStageNext = 0 →
    (s.hw.liveGet LFT_DCF_DCF_TCLR : Int) * 500 ≤ s.hw.k kDcfAge →
    ∃ t, exec .dcfNoclr s = .next t ∧
      Keeps s t (LFT_KCAUSE_DCF_NOCLR :: tripFlds) { t.hw with ops := s.hw.ops, log := s.hw.log, trg := s.hw.trg, cmd := s.hw.cmd } ∧
      t.hw.flag LFT_KCAUSE_DCF_NOCLR = true ∧ bitOf t.hw.ops.tripTick cKernel = true) ∧
  (∀ (s : State), Runs s.hw → engFailReason s.hw ≠ 0 →
    ∃ t, exec .energizeFail s = .next t ∧
      Keeps s t (ENG_STAT_FAIL_REASON :: tripFlds)
        { t.hw with le := s.hw.le, ops := s.hw.ops, log := s.hw.log, trg := s.hw.trg, cmd := s.hw.cmd } ∧
      t.hw.get ENG_STAT_FAIL_REASON = engFailReason s.hw ∧
      bitOf t.hw.latched cEnergizeFail = true ∧ bitOf t.hw.ops.tripTick cEnergizeFail = true)

/-! ### Set-point ramps and the shape table -/

/-- Table RMP-3: RAMP_STATUS_GET answers with a channel's registers and queue; RAMP_MOVE, RAMP_REPLACE and RAMP_STOP enter their move for
the coming tick (R166); RAMP_CFG_SET writes all eight words. -/
def Obligations.RampCommands : Prop :=
  (∀ (s : State) (h : Hdr) (c : Nat), Accepts (Op.plain 0x0600 .viewer) h s.hw → c < 8 →
    let data := regBytes s.hw [RMPc_VALUE c, RMPc_STAT c, RMPc_TURN c] ++
      (s.hw.rampOf c).queue.flatMap fun m => leBytes 2 (unsigned 16 m.target) ++ leBytes 4 m.vcap
    Fits h data → Answers (.rampStatusGet h c) h 0x0600 s data) ∧
  (∀ (s : State) (h : Hdr) (c x v : Nat), Accepts (Op.plain 0x0601 .operator) h s.hw → Room s.hw 1 → s.hw.standby = false →
    rampModeBad s.hw c = false → rampTargetBad s.hw c x = false → (rampCmds (s.hw.rampOf c)).queue.length < 16 →
    s.hw.get (RMPc_CFG_SRC c) ≠ 1 → Performs (.rampMove h c x v) h 0x0601 s []
      ((s.hw.accept h).onRamp c fun r => { r with next := r.next ++ [.move { target := signed 16 x, vcap := v }] })) ∧
  (∀ (s : State) (h : Hdr) (c x v : Nat), Accepts (Op.plain 0x0602 .operator) h s.hw → Room s.hw 1 → s.hw.standby = false →
    rampModeBad s.hw c = false → rampTargetBad s.hw c x = false → s.hw.get (RMPc_CFG_SRC c) ≠ 1 →
    Performs (.rampReplace h c x v) h 0x0602 s []
      ((s.hw.accept h).onRamp c fun r => { r with next := r.next ++ [.replace { target := signed 16 x, vcap := v }] })) ∧
  (∀ (s : State) (h : Hdr) (mask : Nat), Accepts (Op.plain 0x0603 .operator) h s.hw → Room s.hw 1 → s.hw.standby = false →
    Performs (.rampStop h mask) h 0x0603 s []
      ((s.hw.accept h).each (bitsOf 8 mask) fun c s => s.onRamp c fun r => { r with next := r.next ++ [.stop] })) ∧
  (∀ (s : State) (h : Hdr) (c cfg vm am dm jm rg tk ini : Nat), Accepts (Op.plain 0x0604 .engineer) h s.hw → Room s.hw 8 → c < 8 →
    let t := ([RMPc_CFG c, RMPc_VMAX c, RMPc_AMAX c, RMPc_DMAX c, RMPc_JMAX c, RMPc_RANGE c, RMPc_TASK c, RMPc_INIT c].zip
      [cfg, vm, am, dm, jm, rg, tk, ini]).foldl (fun s p => s.setWord p.1 p.2) (s.hw.accept h)
    rampCfgBad c t = false → Performs (.rampCfgSet h c cfg vm am dm jm rg tk ini) h 0x0604 s [] t)

/-- The shape table's commands and the two events of the ramps: SHAPE_LOAD writes entries of the shadow bank and reports its fundamental;
SHAPE_COMMIT marks the banks for exchange at the frame boundary; SHAPE_SELECT writes SHAPE_SRC; the copy's end makes the shadow bank
equal to the active one. A step that falls due before the tick boundary, while the timebase runs, moves the value by one towards the
rate's sign, and one that would leave the range is suppressed with CLAMP. -/
def Obligations.ShapeTableAndRampSteps : Prop :=
  (∀ (s : State) (h : Hdr) (f : Nat) (es : List Nat), Accepts (Op.sized 0x0605 .engineer (4 + 2 * es.length)) h s.hw → Room s.hw 768 →
    f + es.length ≤ 1536 → shapeBusy s.hw = false → Performs (.shapeLoad h f es.length es) h 0x0605 s []
      (shapeReport (es.zipIdx.foldl (fun s p => s.putShadow (f + p.2) p.1) (s.hw.accept h)))) ∧
  (∀ (s : State) (h : Hdr), Accepts (Op.plain 0x0606 .engineer) h s.hw → Room s.hw 1 → commitBarred s.hw = false →
    Waits (.shapeCommit h) h 0x0606 s .shapeCommit (shapeCommit (s.hw.accept h))) ∧
  (∀ (s : State) (h : Hdr) (x : Nat), Accepts (Op.plain 0x0607 .engineer) h s.hw → Room s.hw 1 → x < 3 →
    x ≠ 2 ∨ s.hw.get SHAPE_CTRL_SHAPE_SRC = 2 ∨ s.hw.switching = false ∨ fundOk (shapeFund s.hw) = true →
    Performs (.shapeSelect h x) h 0x0607 s [] ((s.hw.accept h).put SHAPE_CTRL_SHAPE_SRC x)) ∧
  (∀ s : State, Runs s.hw → s.hw.flag SHAPE_CTRL_COPYING = true →
    ∃ t, exec .shapeCopyDone s = .next t ∧
      Keeps s t ([SHAPE_CTRL_COPYING, SHAPE_CTRL_FUND_OK, word SHAPE_DC,
          word SHAPE_FUND] ++ (List.range 768).map fun j => word (SHAPE_Sj j))
        t.hw ∧
      t.hw.flag SHAPE_CTRL_COPYING = false ∧
      ∀ j, j < 768 → t.hw.reg (SHAPE_Sj j) = s.hw.reg (SHAPE_Aj j)) ∧
  (∀ (s : State) (c a : Nat), Runs s.hw → c < 8 → (s.hw.rampOf c).due = some a → a ≤ s.hw.time.base + s.hw.tickLen →
    s.hw.time.clockLost = false → (s.hw.rampOf c).v ≠ 0 →
    let up := decide (0 < (s.hw.rampOf c).v)
    let p := (s.hw.rampOf c).p + if up then 1 else -1
    let off := if up then decide (s.hw.rampMax c < p) else decide (p < s.hw.rampMin c)
    ∃ t, exec (.rampStepTimer c) s = .next t ∧
      Keeps s t [word (RMPc_STAT c), word (RMPc_VALUE c)] { t.hw with ramp := s.hw.ramp, time := s.hw.time } ∧
      (off = false → (t.hw.rampOf c).p = p) ∧ (off = true → (t.hw.rampOf c).p = (s.hw.rampOf c).p ∧ t.hw.flag (RMPc_STAT_CLAMP c) = true))

/-! ### The Valve Sequencer -/

/-- Table VSQ-2: status and slot reads answer with their registers; arm settings and slot types are written where they keep R181;
SLOT_EXCLUDE enters a slot for the coming tick and answers with its number; SLOT_RESTORE enters a healthy excluded slot (R199). -/
def Obligations.SequencerCommands : Prop :=
  (∀ (s : State) (h : Hdr), Accepts (Op.plain 0x0700 .viewer) h s.hw → Answers (.vsqStatusGet h) h 0x0700 s
    (regBytes s.hw ([VSQ_CTRL, VSQ_THRSTAT] ++ (List.range 6).flatMap fun a =>
      [VSQ_ARMa_CFG a, VSQ_ARMa_CFG2 a, VSQ_ARMa_STAT a, VSQ_ARMa_STAT2 a, VSQ_ARMa_FLAGS a, VSQ_ARMa_CNT a]))) ∧
  (∀ (s : State) (h : Hdr) (a c c2 : Nat), Accepts (Op.plain 0x0701 .engineer) h s.hw → Room s.hw 2 → a < 6 →
    let t := ((s.hw.accept h).setWord (VSQ_ARMa_CFG a) c).setWord (VSQ_ARMa_CFG2 a) c2
    redModeBad s.hw t a = false → armCfgBad a t = false → armBreaks s.hw t = false →
    Performs (.vsqArmCfgSet h a c c2) h 0x0701 s [] t) ∧
  (∀ (s : State) (h : Hdr) (a f n : Nat) (ts : List Nat), Accepts (Op.sized 0x0702 .engineer (5 + 4 * ((n + 15) / 16))) h s.hw →
    Room s.hw 768 → a < 6 →
    f + n ≤ 768 → ts.length = (n + 15) / 16 → s.hw.cfgMode = true → (∀ i, i < n → ts.getD (i / 16) 0 / 4 ^ (i % 16) % 4 ≠ 3) →
    let t := (s.hw.accept h).each (List.range n) fun i s => setType a (f + i) (ts.getD (i / 16) 0 / 4 ^ (i % 16) % 4) s
    armBreaks s.hw t = false → Performs (.vsqSlotTypeSet h a f n ts) h 0x0702 s [] t) ∧
  (∀ (s : State) (h : Hdr) (a j : Nat), Accepts (Op.plain 0x0703 .operator) h s.hw → Room s.hw 1 → a < 6 → j < 768 →
    s.hw.get (VSQ_SLOTa_j_TYPE a j) ≠ 0 → s.hw.flag (VSQ_SLOTa_j_EXCL a j) = false → s.hw.vsq.excl.contains (a, j) = false →
    s.hw.switching = false → Performs (.slotExclude h a j) h 0x0703 s (leBytes 4 s.hw.nextTick)
      { s.hw.accept h with vsq := { s.hw.vsq with excl := s.hw.vsq.excl ++ [(a, j)] } }) ∧
  (∀ (s : State) (h : Hdr) (a j : Nat), Accepts (Op.plain 0x0704 .engineer) h s.hw → Room s.hw 1 → a < 6 → j < 768 →
    s.hw.cfgMode = true → s.hw.get (VSQ_SLOTa_j_TYPE a j) ≠ 0 → s.hw.flag (VSQ_SLOTa_j_EXCL a j) = true →
    repFcode (smapGet 0 (s.hw.armOf a).set j) = 0 → smapGet 0 (s.hw.armOf a).stall j ≠ 7 →
    Performs (.slotRestore h a j) h 0x0704 s []
      { s.hw.accept h with vsq := { s.hw.vsq with back := s.hw.vsq.back ++ [(a, j)] } }) ∧
  (∀ (s : State) (h : Hdr) (a f n : Nat), Accepts (Op.plain 0x0705 .viewer) h s.hw → a < 6 → n ≤ 96 → f + n ≤ 768 →
    Answers (.vsqSlotRead h a f n) h 0x0705 s (((List.range n).map (f + ·)).flatMap fun j =>
      leBytes 4 (s.hw.slotView a j).toNat ++ leBytes 2 ((s.hw.armOf a).volt j)))

/-- Table VSQ-1: at a Sequencer latch in COMMISSION or TRIPPED, every slot of every arm is commanded Block. -/
def Obligations.TrippedArmsBlock : Prop :=
  ∀ (s : State) (bad : List Nat) (sb : Bool), Ticking s.hw → s.hw.mode = mCommission ∨ s.hw.mode = mTripped →
    ∃ t, exec (.sequencerLatch bad sb) s = .next t ∧
      Keeps s t sequencerFlds
        { t.hw with time := s.hw.time, cmd := s.hw.cmd, log := s.hw.log, ops := s.hw.ops, trg := s.hw.trg, le := s.hw.le,
                    vsq := s.hw.vsq, lst := s.hw.lst, ramp := s.hw.ramp, int := s.hw.int } ∧
      ∀ a, a < 6 → ∀ p ∈ t.hw.slotWords a, slotState p.2 = cmdBlock

/-! ### Sheaf lanes and frames -/

/-- Table SHL-7: what each lane command answers or does: LANE_BRINGUP has every named lane in bring-up from the coming tick (R17) and waits
(R220); an idle entry starts at the coming tick (R221); an idle exit of rested lanes begins at the launch point of tick n + 2 (R222). -/
def Obligations.LaneCommands : Prop :=
  (∀ (s : State) (h : Hdr) (m : Nat), Accepts (Op.plain 0x0720 .viewer) h s.hw → m < 2 ^ 48 → Answers (.laneStatusGet h m) h 0x0720 s
    (regBytes s.hw (((lanesOf m).flatMap fun n => [LNn_STAT n, LNn_DLY n, LNn_COMP n, LNn_RTT n, LNn_ERRCNT n]) ++ [SHL_DSTAT]))) ∧
  (∀ (s : State) (h : Hdr) (n c a : Nat), Accepts (Op.plain 0x0721 .engineer) h s.hw → Room s.hw 2 → n < 48 →
    let t := ((s.hw.accept h).setWord (LNn_CFG n) c).setWord (LNn_ASYM n) a
    laneModeBad s.hw t n = false → laneCfgBad n t = false → (s.hw.flag (LNn_CFG_EN n) = true → t.flag (LNn_CFG_EN n) = true) →
    Performs (.laneCfgSet h n c a) h 0x0721 s [] (shfStat t)) ∧
  (∀ (s : State) (h : Hdr) (m : Nat), Accepts (Op.plain 0x0722 .engineer) h s.hw → Room s.hw 1 → 0 < m → m < 2 ^ 48 →
    ¬ (s.hw.active = true ∧ s.hw.switching = true) → (∀ n ∈ lanesOf m, s.hw.flag (LNn_CFG_EN n) = true) →
    Waits (.laneBringup h m) h 0x0722 s (.bringup m) ((s.hw.accept h).each (lanesOf m) bringupName)) ∧
  (∀ (s : State) (h : Hdr) (n : Nat), Accepts (Op.plain 0x0723 .operator) h s.hw → Room s.hw 1 → n < 48 → s.hw.cfgMode = true →
    s.hw.laneState n = lnRun → ∃ t, exec (.laneIdleEnter h (2 ^ n)) s = .next t ∧
      Keeps s t (LNn_STAT_STATE n :: SYS_PEND_PENDING :: shfFlds ++ servedFlds)
        { t.hw with cmd := s.hw.cmd, log := s.hw.log, shf := s.hw.shf } ∧
      t.hw.laneState n = lnIdleEntry ∧
      (t.hw.laneOf n).entryAt = some (s.hw.ticks + 1) ∧ Replied t.hw h 0x0723 .ok []) ∧
  (∀ (s : State) (h : Hdr) (m : Nat), Accepts (Op.plain 0x0724 .operator) h s.hw → Room s.hw 1 → m < 2 ^ 48 →
    (∀ n ∈ lanesOf m, s.hw.laneState n = lnIdle ∧ s.hw.laneRested n = true) →
    Performs (.laneIdleExit h m) h 0x0724 s [] ((s.hw.accept h).each (lanesOf m) (laneExit (s.hw.ticks + 2)))) ∧
  (∀ (s : State) (h : Hdr) (c : Nat), Accepts (Op.plain 0x0725 .engineer) h s.hw → Room s.hw 1 →
    let t := (s.hw.accept h).setWord SHL_CTRL c
    t.get SHL_CTRL_BRINGUP_TMO ≠ 0 → t.get SHL_CTRL_AVG_LOG2 ≤ 8 → Performs (.shlCfgSet h c) h 0x0725 s [] t)

/-- What each event of a lane does when it is due. At a launch point a lane in RUN sends a payload frame, and one that owes a burst after a
time step sends that. Loss of lock clears RX_LOCK, or the lock of a Granary receiver. A LOS pin's level is accepted once it has stood
LOS_FLT x 4 cycles, at once where that is 0, and a high one ends lock. A lane that has not come up within BRINGUP_TMO fails. An idle
entry ends at tick n + 3, in OFF where EN has been cleared. The exit burst follows TXEN_LEAD ticks after the transmitter's start. -/
def Obligations.LaneEvents : Prop :=
  (∀ s : State, Ticking s.hw → s.hw.shf.clock = true →
    ∃ t, exec .launch s = .next t ∧
      Keeps s t (SYS_TICKCFG_LO_PEND :: SHF_CTRL_CFG_SEQ :: shfFlds ++ replyFlds ++ (List.range numLanes).flatMap laneFlds)
        { t.hw with time := s.hw.time, shf := s.hw.shf, cmd := s.hw.cmd, live := s.hw.live, free := s.hw.free } ∧
      ∀ n, n < 48 →
        (s.hw.laneState n = lnRun → (s.hw.laneOf n).burst = false → ∃ m b, (t.hw.laneOf n).sent = .payload m b) ∧
        (s.hw.laneState n ∉ [lnOff, lnFail, lnIdle] → (s.hw.laneOf n).burst = true →
          (∃ m, (t.hw.laneOf n).sent = .training m) ∧ (t.hw.laneOf n).burst = false)) ∧
  (∀ (s : State) (n : Nat), Runs s.hw → n < 48 → s.hw.flag (LNn_STAT_RX_LOCK n) = true →
    ∃ t, exec (.lossOfLock n) s = .next t ∧
      Keeps s t (word (LNn_STAT n) :: LNn_DLY_VALID n :: LNn_COMP_SLEWING n :: shfFlds) { t.hw with shf := s.hw.shf } ∧
      t.hw.flag (LNn_STAT_RX_LOCK n) = false ∧ t.hw.flag (LNn_STAT_LOL_SEEN n) = true ∧
      (s.hw.laneState n = lnRun → t.hw.laneState n = lnTrain)) ∧
  (∀ (s : State) (n : Nat), Runs s.hw → n = 48 ∨ n = 49 → Becomes (.lossOfLock n) s
    (s.hw.onLane n fun l => { l with grLock := false, good := 0, bad := 0, lastTick := none })) ∧
  (∀ (s : State) (n : Nat) (high : Bool), Runs s.hw → n < 50 → (s.hw.laneOf n).los = !high → (s.hw.laneOf n).losRaw = !high →
    (s.hw.get SYS_IOCFG_LOS_FLT ≠ 0 → Becomes (.losAssert n high) s
      (s.hw.onLane n fun l => { l with losRaw := high, losAt := s.hw.cycles })) ∧
    (s.hw.get SYS_IOCFG_LOS_FLT = 0 → ∃ t, exec (.losAssert n high) s = .next t ∧
      Keeps s t ((if n < 48 then [word (LNn_STAT n), LNn_DLY_VALID n, LNn_COMP_SLEWING n] else []) ++ shfFlds) { t.hw with shf := s.hw.shf } ∧
      (t.hw.laneOf n).los = high ∧ (n < 48 → t.hw.flag (LNn_STAT_LOS n) = high ∧ (high = true → t.hw.flag (LNn_STAT_RX_LOCK n) = false)) ∧
      (48 ≤ n → high = true → (t.hw.laneOf n).grLock = false))) ∧
  (∀ (s : Hw) (n : Nat), n < 48 → (s.laneOf n).losRaw = !(s.laneOf n).los →
    (s.laneOf n).losAt + 4 * s.get SYS_IOCFG_LOS_FLT ≤ s.cycles →
    (losNow n s).flag (LNn_STAT_LOS n) = (s.laneOf n).losRaw ∧ ((s.laneOf n).losRaw = true → (losNow n s).flag (LNn_STAT_RX_LOCK n) = false)) ∧
  (∀ (s : State) (n t0 : Nat), Runs s.hw → n < 48 → (s.hw.laneOf n).since = some t0 → t0 + s.hw.bringupTmo ≤ s.hw.ticks →
    ∃ t, exec .bringupTmoExpiry s = .next t ∧
      Keeps s t ((List.range numLanes).map (fun k => word (LNn_STAT k)) ++ (List.range numLanes).map LNn_COMP_SLEWING ++ shfFlds ++
          replyFlds ++ logFlds)
        { t.hw with shf := s.hw.shf, cmd := s.hw.cmd, log := s.hw.log, ops := s.hw.ops } ∧
      t.hw.laneState n = lnFail ∧ t.hw.flag (LNn_STAT_BRINGUP_FAIL n) = true) ∧
  (∀ (s : State) (n t0 : Nat), Runs s.hw → n < 48 → (s.hw.laneOf n).entryAt = some t0 → s.hw.laneState n = lnIdleEntry →
    t0 + 3 ≤ s.hw.ticks → (s.hw.laneOf n).toOff = false →
    ∃ t, exec (.idleEntryComplete n) s = .next t ∧
      Keeps s t [LNn_STAT_STATE n] { t.hw with shf := s.hw.shf } ∧
      t.hw.laneState n = lnIdle ∧ (t.hw.laneOf n).idleSince = some s.hw.ticks) ∧
  (∀ (s : State) (n t0 : Nat), Runs s.hw → n < 48 → (s.hw.laneOf n).entryAt = some t0 → s.hw.laneState n = lnIdleEntry →
    t0 + 3 ≤ s.hw.ticks → (s.hw.laneOf n).toOff = true →
    ∃ t, exec (.idleEntryComplete n) s = .next t ∧
      Keeps s t ([LNn_STAT_STATE n, LNn_COMP_SLEWING n, SYS_PEND_PENDING] ++ shfFlds ++ replyFlds)
        { t.hw with shf := s.hw.shf, cmd := s.hw.cmd } ∧
      t.hw.laneState n = lnOff) ∧
  (∀ (s : State) (n t0 : Nat), Runs s.hw → n < 48 → (s.hw.laneOf n).txAt = some t0 → s.hw.laneState n = lnExit →
    t0 + s.hw.get (LNn_CFG_TXEN_LEAD n) ≤ s.hw.ticks → (s.hw.laneOf n).burstAt = none →
    Becomes (.exitBurst n) s (sendBurst n s.hw) ∧
      ((sendBurst n s.hw).laneOf n).sent = .training (s.hw.marker n 1).bits ∧ ((sendBurst n s.hw).laneOf n).burstAt = some s.hw.ticks)

/-- Table SHF-12: what each hub command answers, writes or sends. -/
def Obligations.HubCommands : Prop :=
  (∀ (s : State) (h : Hdr) (m : Nat), Accepts (Op.plain 0x0740 .viewer) h s.hw → m < 2 ^ 48 → Answers (.shfStatusGet h m) h 0x0740 s
    (regBytes s.hw ([SHF_CTRL, SHF_TOL, SHF_STAT, SHF_LOSTL, SHF_LOSTH] ++
      (lanesOf m).flatMap fun n => [LNn_HUBSTAT n, LNn_ULCNT n]))) ∧
  (∀ (s : State) (h : Hdr) (c x : Nat), Accepts (Op.plain 0x0741 .engineer) h s.hw → Room s.hw 2 →
    let r := shfSet true (s.hw.accept h) (((s.hw.accept h).setWord SHF_CTRL c).setWord SHF_TOL x)
    firstFail r.1 = none → Performs (.shfCfgSet h c x) h 0x0741 s [] r.2) ∧
  (∀ (s : State) (h : Hdr) (m : Nat), Accepts (Op.plain 0x0742 .engineer) h s.hw → Room s.hw 1 → 0 < m → m < 2 ^ 48 →
    s.hw.mode = mCommission → (∀ n ∈ lanesOf m, s.hw.laneState n = lnRun) →
    Waits (.hubDiscover h m) h 0x0742 s (.discover m 0 s.hw.ticks)
      ((s.hw.accept h).each (lanesOf m) fun n s => ownMessage n 0x01 [] s)) ∧
  (∀ (s : State) (h : Hdr) (n a b c : Nat), Accepts (Op.plain 0x0743 .engineer) h s.hw → Room s.hw 4 → n < 48 → s.hw.cfgMode = true →
    let t := (((s.hw.accept h).setWord (LNn_FBk n 0) a).setWord (LNn_FBk n 1) b).setWord (LNn_FBk n 2) c
    Performs (.hubFallbackSet h n a b c) h 0x0743 s [] (if s.hw.fallback n = t.fallback n then t else newGeneration t)) ∧
  (∀ (s : State) (h : Hdr) (n ty tag : Nat) (body : List Byte), Accepts (Op.plain 0x0744 .service) h s.hw → Room s.hw 1 → n < 48 →
    0x10 ≤ ty → ty ≤ 0x7F → body.length ≤ 4092 → s.hw.laneState n = lnRun → s.hw.hubMsgWaits n = false →
    Waits (.hubMsg h n ty tag body) h 0x0744 s (.hubMsg n ty tag s.hw.ticks) (bulkSend n (mkMessage ty tag body) (s.hw.accept h)))

/-- What each event of the uplinks does. A good marker of its own lane and path, received under either polarity while LOS is low, sets
HUB_TV and HUB_ALIGNED. A lane that is lost while an ACTIVE part switches the valve latches LANE. 64 ticks without progress resend the
unacknowledged cells. A complete message is taken. A hub's silence of 100 ms ends the waits for its reply. -/
def Obligations.UplinkEvents : Prop :=
  (∀ (s : State) (n train mk : Nat) (sp : Bool) (line : List Bool) (arr : Int) (bad : List Nat) (m : Marker), Runs s.hw → n < 48 →
    s.hw.strapReeve = false → (losNow n s.hw).flag (LNn_STAT_LOS n) = false →
    readMarker (if s.hw.flag (LNn_CFG_POL_RX n) then 2 ^ 128 - 1 - mk % 2 ^ 128 else mk % 2 ^ 128) = some m → m.lane = n →
    m.path = s.hw.strapTwinB →
    ∃ t, exec (.uplinkFrameReceive n sp train mk line arr bad) s = .next t ∧
      Keeps s t (laneFlds n ++ shfFlds ++ SHF_CTRL_CFG_SEQ :: mismatchFlds 4 ++ replyFlds)
        { t.hw with shf := s.hw.shf, twin := s.hw.twin, int := s.hw.int, xarr := s.hw.xarr, vsq := s.hw.vsq, cmd := s.hw.cmd,
                    free := s.hw.free } ∧
      t.hw.flag (LNn_STAT_HUB_TV n) = m.tv ∧
      t.hw.flag (LNn_STAT_HUB_ALIGNED n) = m.aligned) ∧
  (∀ (s : State) (n : Nat), Runs s.hw → n < 48 → s.hw.laneLost n = true → s.hw.active = true → s.hw.switching = true →
    ∃ t, exec (.uplinkLossTol n) s = .next t ∧
      Keeps s t ((List.range numLanes).map LNn_HUBSTAT_LANE_LOST ++ [word SHF_LOSTL, word SHF_LOSTH] ++ tripFlds)
        { t.hw with cmd := s.hw.cmd, log := s.hw.log, ops := s.hw.ops, trg := s.hw.trg } ∧
      t.hw.flag (LNn_HUBSTAT_LANE_LOST n) = true ∧ bitOf t.hw.latched cLane = true ∧
      bitOf t.hw.ops.tripTick cLane = true) ∧
  (∀ (s : State) (n : Nat), Runs s.hw → n < 48 → 64 ≤ (s.hw.laneOf n).bulk.stuck →
    Becomes (.bulkResend n) s (((s.hw.onBulk n fun b => { b with nxt := b.una, stuck := 0 }).raise (LNn_HUBSTAT_BULK_RETX n)).bump
      (LNn_ULCNT_BULK_RETX_CNT n))) ∧
  (∀ (s : State) (n : Nat) (m : List Byte) (ms : List (List Byte)), Runs s.hw → n < 48 → (s.hw.laneOf n).bulk.msgs = m :: ms →
    ∃ t, exec (.bulkMessageReceive n) s = .next t ∧
      Keeps s t ([LNn_HUBSTAT n, LNn_HUBINFO n, LNn_HUBFW n, LNn_HUBID0 n, LNn_HUBID1 n, LNn_HUBID2 n].map word ++ shfFlds ++ servedFlds)
        { t.hw with shf := s.hw.shf, twin := s.hw.twin, cmd := s.hw.cmd, log := s.hw.log } ∧
      (t.hw.laneOf n).bulk.msgs = ms) ∧
  (∀ s : State, Runs s.hw → ∃ t, exec .hubReplyTimeout s = .next t ∧
      Keeps s t replyFlds { t.hw with cmd := s.hw.cmd } ∧
      ∀ w ∈ t.hw.cmd.waiting, ∀ n ty tag t0,
    w.kind = .hubMsg n ty tag t0 → s.hw.ticks < t0 + 100 * ticksPerMs)

/-! ### The Local Stage and switch protection -/

/-- What each command of the Local Stage answers or does, the legs taken as they stand at the present instant: status answers with its
registers; the configuration commands write their words; LST_LEG_ENABLE starts legs in OFF with the coming tick and defers legs in SOFT
or REST; LST_LEG_DISABLE turns legs in RUN off with the coming tick and cancels what waits of others; LST_UPDATE writes its shadow values
in one cycle; LEG_CLEAR_CLK clears CLK_LOSS and frees legs in FAULT. -/
def Obligations.LocalStageCommands : Prop :=
  (∀ (s : State) (h : Hdr), Accepts (Op.plain 0x0800 .viewer) h s.hw → ∃ t, exec (.lstStatusGet h) s = .next t ∧
      Keeps s t (legTimerFlds s.hw ++ servedFlds) { t.hw with lst := s.hw.lst, cmd := s.hw.cmd } ∧
    Replied t.hw h 0x0800 .ok (regBytes (legsNow (s.hw.accept h))
      ([LST_CTRL] ++ (List.range numLegs).map LEGn_STAT ++ (List.range 4).map LST_GRPg_CFG))) ∧
  (∀ (s : State) (h : Hdr) (n c p d x : Nat), Accepts (Op.plain 0x0801 .engineer) h s.hw → Room s.hw 4 → n < 12 →
    let t := ([LEGn_CFG n, LEGn_PER n, LEGn_DT n, LEGn_SRC n].zip [c, p, d, x]).foldl (fun s p => s.setWord p.1 p.2)
      (legsNow (s.hw.accept h))
    legRangeBad n t = false → legRunningBad (legsNow (s.hw.accept h)) t n = false →
    Performs (.lstLegCfgSet h n c p d x) h 0x0801 s [] (legWritten n true false t)) ∧
  (∀ (s : State) (h : Hdr) (m : Nat), Accepts (Op.plain 0x0802 .operator) h s.hw → Room s.hw 1 → s.hw.standby = false →
    s.hw.mode ≠ mTripped → s.hw.ops.cfgValid = true → (∀ n ∈ legsOf m, (legsNow s.hw).legFound n ≠ lgFault) →
    ∃ t, exec (.lstLegEnable h m) s = .next t ∧
      Keeps s t (SYS_PEND_PENDING :: (List.range numLegs).map LEGn_STAT_PEND ++ legTimerFlds s.hw ++ servedFlds)
        { t.hw with lst := s.hw.lst, ops := s.hw.ops, cmd := s.hw.cmd, log := s.hw.log } ∧
      Replied t.hw h 0x0802 (if (legsOf m).any fun n => [lgSoft, lgRest].contains ((legsNow s.hw).legFound n) then .enableDeferred else .ok) [] ∧
      ∀ n ∈ legsOf m, ((legsNow s.hw).legFound n = lgOff → (t.hw.legOf n).enNext = true) ∧
        ((legsNow s.hw).legFound n = lgSoft ∨ (legsNow s.hw).legFound n = lgRest → t.hw.flag (LEGn_STAT_PEND n) = true)) ∧
  (∀ (s : State) (h : Hdr) (m : Nat), Accepts (Op.plain 0x0803 .operator) h s.hw → Room s.hw 1 →
    ∃ t, exec (.lstLegDisable h m) s = .next t ∧
      Keeps s t (SYS_PEND_PENDING :: (List.range numLegs).map LEGn_STAT_PEND ++ legTimerFlds s.hw ++ servedFlds)
        { t.hw with lst := s.hw.lst, ops := s.hw.ops, cmd := s.hw.cmd, log := s.hw.log } ∧
      Replied t.hw h 0x0803 .ok [] ∧ ∀ n ∈ legsOf m, ((legsNow s.hw).legFound n = lgRun → (t.hw.legOf n).disNext = true) ∧
        ((legsNow s.hw).legFound n ≠ lgRun → (t.hw.legOf n).enNext = false ∧ t.hw.flag (LEGn_STAT_PEND n) = false)) ∧
  (∀ (s : State) (h : Hdr) (n p c : Nat) (vp vc k : Bool), Accepts (Op.plain 0x0804 .operator) h s.hw → Room s.hw 3 → n < 12 →
    (vc = true → s.hw.get (LEGn_CFG_DSRC n) = 0) →
    let t := legsNow (s.hw.accept h)
    let t := if vp then t.setWord (LEGn_PER n) p else t
    let t := if vc then t.setWord (LEGn_CMP n) c else t
    let u := legWritten n vp vc t
    t.get (LEGn_PER_PER n) ≠ 0 → Performs (.lstUpdate h n vp vc k p c) h 0x0804 s [] (if k then legCommit n u else u)) ∧
  (∀ (s : State) (h : Hdr) (g c : Nat) (ps : List Nat), Accepts (Op.plain 0x0805 .engineer) h s.hw → Room s.hw 9 → g < 4 →
    ps.length = 8 → ps.all patOk = true →
    let t := groupSet g (((LST_GRPg_CFG g :: (List.range 8).map (LST_GRPg_PATk g)).zip (c :: ps)).foldl
      (fun s p => s.setWord p.1 p.2) (legsNow (s.hw.accept h)))
    groupOk t g = true → Performs (.lstGroupSet h g c ps) h 0x0805 s [] t) ∧
  (∀ (s : State) (h : Hdr) (c a b : Nat), Accepts (Op.plain 0x0807 .engineer) h s.hw → Room s.hw 3 →
    let t := (((s.hw.accept h).setWord LST_CTRL c).setWord (LST_EVTFLTj 0) a).setWord (LST_EVTFLTj 1) b
    lstCtrlBad t = false → Performs (.lstCtrlSet h c a b) h 0x0807 s [] t) ∧
  (∀ (s : State) (h : Hdr), Accepts (Op.plain 0x0806 .engineer) h s.hw → Room s.hw 1 → s.hw.time.clockLost = false →
    s.hw.mdllState 1 = mdLocked → Performs (.legClearClk h) h 0x0806 s []
      ((s.hw.accept h).each (List.range numLegs) fun n s => legFree n (s.put (LEGn_STAT_CLK_LOSS n) 0)))

/-- What each event of a leg does when it is due. LEG_RELOAD moves on to the leg's next reload; a reload loads the shadow period and
compare values, under COMMIT_MODE only what has been committed or sourced. A soft turn-off that no halt holds ends in REST, in FAULT
where a switch is latched; a rest in OFF, or in RUN where an enable waits and may act. An EVT pin's filtered level is held. A debug halt
of HALT_HOLD cycles turns every running leg off softly. -/
def Obligations.LegEvents : Prop :=
  (∀ (s : State) (n : Nat), Runs s.hw → n < 12 → Becomes (.legReload n) s (legNextReload n s.hw)) ∧
  (∀ (g : LegCfg) (now : Nat) (l : LegSt),
    let r := (legReload g now l).1
    r.reloadAt = some now ∧ (g.group = false ∨ l.cmt = 1 → r.per = g.per ∧ r.cmpB = g.cmp) ∧
      (g.group = true → l.cmt = 2 → r.per = l.per ∧ r.cmpB = g.cmp) ∧
      (g.group = true → l.cmt ≠ 1 → l.cmt ≠ 2 → r.per = l.per ∧ r.cmpB = l.cmpB)) ∧
  (∀ (s : State) (n t0 : Nat), Runs s.hw → n < 12 → (s.hw.legOf n).due = some t0 → s.hw.legState n = lgSoft → s.hw.fallsDue t0 = true →
    (s.hw.legOf n).held = false → s.hw.legLatched n = false → ∃ t, exec (.softTurnoffEnd n) s = .next t ∧
      Keeps s t (LEGn_STAT_STATE n :: legTimerFlds s.hw) { t.hw with lst := s.hw.lst, time := s.hw.time } ∧
      t.hw.legState n = lgRest ∧ (t.hw.legOf n).out = {} ∧
      (t.hw.legOf n).due = some (t0 + 256 * s.hw.get LST_CTRL_REST)) ∧
  (∀ (s : State) (n t0 : Nat), Runs s.hw → n < 12 → (s.hw.legOf n).due = some t0 → s.hw.legState n = lgSoft → s.hw.fallsDue t0 = true →
    (s.hw.legOf n).held = false → s.hw.legLatched n = true → ∃ t, exec (.softTurnoffEnd n) s = .next t ∧
      Keeps s t ([LEGn_STAT_STATE n, LEGn_STAT_PEND n, SYS_PEND_PENDING, SYS_PEND_DROPPED] ++ logFlds ++ legTimerFlds s.hw)
        { t.hw with lst := s.hw.lst, time := s.hw.time, ops := s.hw.ops, log := s.hw.log, cmd := s.hw.cmd } ∧
      t.hw.legState n = lgFault ∧ (t.hw.legOf n).out = {}) ∧
  (∀ (s : State) (n t0 : Nat), Runs s.hw → n < 12 → (s.hw.legOf n).due = some t0 → s.hw.legState n = lgRest → s.hw.fallsDue t0 = true →
    (s.hw.legOf n).held = false → s.hw.flag (LEGn_STAT_PEND n) = false →
    ∃ t, exec (.legRestEnd n) s = .next t ∧
      Keeps s t (LEGn_STAT_STATE n :: legTimerFlds s.hw) { t.hw with lst := s.hw.lst, time := s.hw.time } ∧
      t.hw.legState n = lgOff ∧ (t.hw.legOf n).due = none) ∧
  (∀ (s : State) (n t0 : Nat), Runs s.hw → n < 12 → (s.hw.legOf n).due = some t0 → s.hw.legState n = lgRest → s.hw.fallsDue t0 = true →
    (s.hw.legOf n).held = false → s.hw.flag (LEGn_STAT_PEND n) = true → s.hw.lst.halt = none → s.hw.mode ≠ mTripped →
    s.hw.standby = false → s.hw.uvPresent (2 * n) = false → s.hw.uvPresent (2 * n + 1) = false →
    ∃ t, exec (.legRestEnd n) s = .next t ∧
      Keeps s t (word (LEGn_STAT n) :: SYS_PEND_PENDING :: legTimerFlds s.hw) { t.hw with lst := s.hw.lst, time := s.hw.time, ops := s.hw.ops } ∧
      t.hw.legState n = lgRun ∧ t.hw.flag (LEGn_STAT_PEND n) = false) ∧
  (∀ (s : State) (p c : Nat) (high : Bool), Runs s.hw → p < 8 →
    ∃ t, exec (.evtPinChange p c high) s = .next t ∧
      Keeps s t (legTimerFlds s.hw ++ (List.range 4).map LST_GRPg_CFG_ACT_IDX) { t.hw with lst := s.hw.lst, time := s.hw.time } ∧
      bitOf t.hw.lst.evt p = high) ∧
  (∀ (s : State) (n t0 : Nat), Runs s.hw → n < 12 → s.hw.lst.halt = some t0 → s.hw.fallsDue (t0 + s.hw.get LST_CTRL_HALT_HOLD) = true →
    s.hw.legState n = lgRun → (s.hw.legOf n).softNext = false → ∃ t, exec .haltHoldExpiry s = .next t ∧
      Keeps s t legFlds { t.hw with lst := s.hw.lst, time := s.hw.time } ∧
      t.hw.legState n = lgSoft ∧ t.hw.flag (LEGn_STAT_HALT_SAFE n) = true)

/-- R254: in no cycle of a leg are both of its switches commanded on at its pins, and a switch turns on only when the other has been off
for the dead time, never less than 26 cycles. -/
def Obligations.LegsNeverShootThrough : Prop :=
  ∀ (g : LegCfg) (force : Bool) (n : Nat) (l : LegSt) (f : LegFlags), 0 < n →
    let r := (legCycles g force n (l, f)).1
    (r.out.gu && r.out.gl) = false ∧ (r.out.gu = true → 26 ≤ r.ol) ∧ (r.out.gl = true → 26 ≤ r.ou) ∧
      (force = true → r.out.gu = false ∧ r.out.gl = false)

/-- What each command of switch protection answers or does, the legs taken as they stand at the present instant: status, settings, and
SWP_CLEAR, which clears latches whose causes are gone and frees their legs; SWP_TEST trips the named switches with cause TEST. -/
def Obligations.ProtectionCommands : Prop :=
  (∀ (s : State) (h : Hdr), Accepts (Op.plain 0x0820 .viewer) h s.hw → Answers (.swpStatusGet h) h 0x0820 s
    (regBytes s.hw ([SWP_CTRL, SWP_SUMMARY] ++ (List.range 24).flatMap fun n => [SWP_SWn_STAT n, SWP_SWn_TICK n]))) ∧
  (∀ (s : State) (h : Hdr) (n c u : Nat), Accepts (Op.plain 0x0821 .engineer) h s.hw → Room s.hw 2 → n < 24 →
    let v := legsNow (s.hw.accept h)
    let t := (v.setWord (SWP_SWn_CFG n) c).setWord (SWP_SWn_UV n) u
    8 ≤ t.get (SWP_SWn_CFG_BLANK n) → t.get (SWP_SWn_CFG_BLANK n) ≤ 256 → v.legAtRest (n / 2) = true →
    Performs (.swpCfgSet h n c u) h 0x0821 s [] t) ∧
  (∀ (s : State) (h : Hdr) (m : Nat), Accepts (Op.plain 0x0822 .operator) h s.hw → Room s.hw 1 →
    let v := legsNow (s.hw.accept h)
    (∀ n ∈ switchesOf m, s.hw.uvPresent n = false ∧ s.hw.flag (SWP_SWn_STAT_LATCHED n) = true ∧ v.legFound (n / 2) ≠ lgSoft) →
    Performs (.swpClear h m) h 0x0822 s [] ((v.each (switchesOf m) swpUnlatch).each (List.range numLegs) legFree)) ∧
  (∀ (s : State) (h : Hdr) (m : Nat), Accepts (Op.plain 0x0823 .engineer) h s.hw → Room s.hw 1 → s.hw.cfgMode = true →
    let v := legsNow (s.hw.accept h)
    (∀ n ∈ switchesOf m, v.legFound (n / 2) = lgOff) →
    Performs (.swpTest h m) h 0x0823 s [] (v.each (switchesOf m) fun n s => swpTrip n cTest s)) ∧
  (∀ (s : State) (h : Hdr) (c : Nat), Accepts (Op.plain 0x0824 .engineer) h s.hw → Room s.hw 1 →
    let t := (s.hw.accept h).setWord SWP_CTRL c
    t.get SWP_CTRL_UV_FLT ≤ 64 → Performs (.swpCtrlSet h c) h 0x0824 s [] t)

/-- A desaturation that counts, the timebase clock running, latches its switch with that cause. An accepted under-voltage of an enabled rail
latches the switch and forces its running leg: both commands low, GD_SOFT high until SOFT_T after the next cycle, in which the leg is in
SOFT. The rail's release clears its NOW bit. -/
def Obligations.ProtectionEvents : Prop :=
  (∀ (s : State) (n c : Nat), Runs s.hw → n < 24 →
    let u := legsNow (s.hw.atEvent c)
    let l := u.legOf (n / 2)
    let held := u.legState (n / 2) == lgRun && !l.lock && u.lst.halt.any fun t => decide (t < u.cycles)
    let was := if held then l.out else l.out1
    (if n % 2 = 0 then l.out.gu || was.gu else l.out.gl || was.gl) = true →
    (if n % 2 = 0 then l.riseU else l.riseL) + 8 * u.get (SWP_SWn_CFG_BLANK n) + 2 ≤ u.cycles →
    u.flag (SWP_SWn_CFG_DSAT_EN n) = true → u.standby = false → u.time.clockLost = false →
    ∃ t, exec (.desatDetect n c true) s = .next t ∧
      Keeps s t ([LEGn_STAT_STATE (n / 2), LEGn_STAT_PEND (n / 2), SYS_PEND_PENDING, SYS_PEND_DROPPED] ++ switchFlds n ++ logFlds ++
          legTimerFlds s.hw)
        { t.hw with lst := s.hw.lst, trg := s.hw.trg, time := s.hw.time, ops := s.hw.ops, log := s.hw.log, cmd := s.hw.cmd } ∧
      t.hw.flag (SWP_SWn_STAT_LATCHED n) = true ∧
      t.hw.flag ⟨SWP_SWn_STAT n, cDesat, cDesat⟩ = true) ∧
  (∀ (s : State) (n c : Nat) (neg : Bool), Runs s.hw → n < 24 → s.hw.flag (SWP_SWn_CFG_UV_EN n) = true →
    s.hw.legState (n / 2) = lgRun → (s.hw.legOf (n / 2)).softNext = false → s.hw.standby = false →
    (∀ p ∈ s.hw.lst.cleared, p.1 = n → p.2.1 ≠ (s.hw.atEvent c).cycles) →
    ∃ t, exec (.uvAccept n c neg) s = .next t ∧
      Keeps s t (switchFlds n ++ legTimerFlds s.hw) { t.hw with lst := s.hw.lst, trg := s.hw.trg, time := s.hw.time } ∧
      t.hw.flag (uvNow n neg) = true ∧ t.hw.flag (SWP_SWn_STAT_LATCHED n) = true ∧
      (t.hw.legOf (n / 2)).softNext = true ∧ (t.hw.legOf (n / 2)).out = { soft := true } ∧
      (t.hw.legOf (n / 2)).due = some ((s.hw.atEvent c).cycles + 1 + 16 * s.hw.get (LEGn_CFG_SOFT_T (n / 2)))) ∧
  (∀ (s : Hw) (n c : Nat), (s.legOf n).softNext = true → (s.legOf n).at_ < c → (legTo n c s).legState n = lgSoft) ∧
  (∀ (s : State) (n : Nat) (neg : Bool), Runs s.hw → n < 24 → Becomes (.uvRelease n neg) s (s.hw.put (uvNow n neg) 0))

/-! ### Twin and Reeve -/

/-- Table TWN-7: what each twin command answers or does: TWIN_HANDOVER raises SW_REQ and TWIN_PATH_TEST asks each named hub for its
identity, and both wait (R299, R300); REEVE_FORCE marks its twin for the coming decision (R294). -/
def Obligations.TwinAndReeveCommands : Prop :=
  (∀ (s : State) (h : Hdr), Accepts (Op.plain 0x0900 .viewer) h s.hw →
    Answers (.twinStatusGet h) h 0x0900 s (regBytes s.hw [TW_CFG, TW_STAT, TW_ROLETICK, TW_MIRROR] ++ leBytes 8 s.hw.peerWord) ∧
      (s.hw.twin.peer = none → s.hw.peerWord = 0) ∧ ∀ p, s.hw.twin.peer = some p → s.hw.peerWord = p.word) ∧
  (∀ (s : State) (h : Hdr) (c : Nat), Accepts (Op.plain 0x0901 .engineer) h s.hw → Room s.hw 1 → s.hw.mode = mCommission →
    let t := (s.hw.accept h).setWord TW_CFG c
    twCfgBad t = false → Performs (.twinCfgSet h c) h 0x0901 s [] t) ∧
  (∀ (s : State) (h : Hdr), Accepts (Op.plain 0x0902 .operator) h s.hw → Room s.hw 1 → s.hw.active = true →
    let t := (s.hw.accept h).raise TW_STAT_SW_REQ
    Waits (.twinHandover h) h 0x0902 s .handover
      { t with twin := { t.twin with swReqTick := some (s.hw.twin.swReqTick.getD s.hw.ticks) } }) ∧
  (∀ (s : State) (h : Hdr) (m d : Nat), Accepts (Op.plain 0x0903 .engineer) h s.hw → Room s.hw 1 → s.hw.hasTwin = true →
    s.hw.standby = true → 1 ≤ d → d ≤ 10000 → m < 2 ^ 48 → (∀ n ∈ lanesOf m, s.hw.laneState n = lnRun) →
    let t := (s.hw.accept h).each (lanesOf m) fun n s => ownMessage n 1 [] s
    Waits (.twinPathTest h m d) h 0x0903 s .pathTest { t with twin := { t.twin with path := t.twin.path ++
      [{ hdr := h, lanes := m, endTick := s.hw.ticks + d * ticksPerMs }] } }) ∧
  (∀ (s : State) (h : Hdr), Accepts (Op.plain 0x0904 .viewer) h s.hw → s.hw.strapReeve = true →
    Answers (.reeveStatusGet h) h 0x0904 s (regBytes s.hw [REEVE_CFG, REEVE_STAT, REEVE_LAST])) ∧
  (∀ (s : State) (h : Hdr) (c : Nat), Accepts (Op.plain 0x0905 .engineer) h s.hw → Room s.hw 1 → s.hw.strapReeve = true →
    let t := (s.hw.accept h).setWord REEVE_CFG c
    reeveCfgBad t = false → Performs (.reeveCfgSet h c) h 0x0905 s [] t) ∧
  (∀ (s : State) (h : Hdr) (x : Nat), Accepts (Op.plain 0x0906 .service) h s.hw → Room s.hw 1 → s.hw.strapReeve = true → x ≤ 1 →
    s.hw.flag (hbFld x) = true → Performs (.reeveForce h x) h 0x0906 s []
      { s.hw.accept h with reeve := { s.hw.reeve with forced := some x } })

/-- R278: the half-period of ACTIVE_IN gives the code and with it the role of the coming tick, and 768 cycles without an edge give none;
R300, R299: a handover ends after 100 ms, and a path test with its duration; R283: an accepted health word is the twin's newest; R293,
R295: heartbeats, and the first grant to the preferred twin where neither claims to be ACTIVE. -/
def Obligations.TwinAndReeveEvents : Prop :=
  (∀ (s : State) (c t0 : Nat), Runs s.hw → s.hw.hasTwin = true → s.hw.twin.edge = some t0 →
    halfIn 400 600 ((s.hw.atEvent c).cycles - t0) = true →
    ∃ t, exec (.activeInEdge c) s = .next t ∧
      Keeps s t [TW_STAT_CODE, TW_STAT_CODE_ERR, TW_STAT_CODE_SKEW] { t.hw with twin := s.hw.twin, time := s.hw.time } ∧
      t.hw.get TW_STAT_CODE = codeActive ∧ t.hw.twin.roleNext = true) ∧
  (∀ (s : State) (c t0 : Nat), Runs s.hw → s.hw.hasTwin = true → s.hw.twin.edge = some t0 →
    halfIn 1600 2400 ((s.hw.atEvent c).cycles - t0) = true →
    ∃ t, exec (.activeInEdge c) s = .next t ∧
      Keeps s t [TW_STAT_CODE, TW_STAT_CODE_ERR, TW_STAT_CODE_SKEW] { t.hw with twin := s.hw.twin, time := s.hw.time } ∧
      t.hw.get TW_STAT_CODE = codeStandby ∧ t.hw.twin.roleNext = false) ∧
  (∀ s : State, Runs s.hw → s.hw.hasTwin = true → s.hw.fallsDue (s.hw.twin.edge.getD 0 + 768) = true →
    ∃ t, exec .activeInTimeout s = .next t ∧
      Keeps s t [TW_STAT_CODE, TW_STAT_REEVE_LOST] { t.hw with time := s.hw.time } ∧
      t.hw.get TW_STAT_CODE = codeNone ∧ t.hw.flag TW_STAT_REEVE_LOST = true) ∧
  (∀ (s : State) (t0 : Nat), Runs s.hw → s.hw.twin.swReqTick = some t0 → t0 + 100 * ticksPerMs ≤ s.hw.ticks →
    ∃ t, exec .handoverTmo s = .next t ∧
      Keeps s t (TW_STAT_SW_REQ :: replyFlds) { t.hw with twin := s.hw.twin, cmd := s.hw.cmd } ∧
      t.hw.flag TW_STAT_SW_REQ = false ∧ ∀ w ∈ t.hw.cmd.waiting, w.kind ≠ .handover) ∧
  (∀ s : State, Runs s.hw → ∃ t, exec .pathTestEnd s = .next t ∧
      Keeps s t replyFlds { t.hw with twin := s.hw.twin, cmd := s.hw.cmd } ∧
    t.hw.twin.path = s.hw.twin.path.filter fun p => decide (s.hw.ticks < p.endTick)) ∧
  (∀ (s : State) (x w : Nat), Runs s.hw → s.hw.strapReeve = true → x < 2 → w / 2 ^ 40 % 256 = 0xE2 →
    crc8 ((List.range 40).map fun i => bitOf w (47 - i)) = w % 256 →
    w / 2 ^ 24 % 65536 = (s.hw.time.tickNo + 2 ^ 32 - 1) % 65536 →
    Becomes (.healthWordReceive x true w) s (s.hw.onReeve x fun i => { i with newest := some w, got := some w })) ∧
  (∀ (s : State) (x : Nat), Runs s.hw → s.hw.strapReeve = true →
    Becomes (.heartbeatLoss x) s (s.hw.put (hbFld x) 0) ∧ Becomes (.heartbeatReturn x) s (s.hw.put (hbFld x) 1)) ∧
  (∀ s : State, Runs s.hw → s.hw.strapReeve = true → s.hw.flag REEVE_CFG_REEVE_EN = true → s.hw.flag ALM_STAT_SET = true →
    s.hw.get REEVE_STAT_GRANT = 0 → s.hw.reeve.a.newest = none → s.hw.reeve.b.newest = none →
    s.hw.flag (hbFld (s.hw.get REEVE_CFG_PREFER)) = true → s.hw.time.cyc = 0 → s.hw.time.gapTo = none →
    ∃ t, exec .reeveFirstGrant s = .next t ∧
      Keeps s t [word REEVE_STAT, word REEVE_LAST] { t.hw with reeve := s.hw.reeve } ∧
      t.hw.get REEVE_STAT_GRANT = s.hw.get REEVE_CFG_PREFER + 1) ∧
  (∀ s : State, Runs s.hw → s.hw.strapReeve = true → s.hw.time.cyc ≠ 0 ∨ s.hw.time.gapTo ≠ none →
    Becomes .reeveFirstGrant s { s.hw with reeve := { s.hw.reeve with firstDue := true } })

/-- R279, R285, R289: a Granary launch puts a marker of this part with its block on lanes 48 and 49, sends no items of a STANDBY twin,
and in segment 15 CFG_CHECK and the firmware's digest; R290: the header of a usable frame of the other twin is the peer's newest. -/
def Obligations.GranaryFrames : Prop :=
  (∀ s : State, Ticking s.hw → s.hw.hasTwin = true → s.hw.shf.clock = true →
    ∃ t a b d x y, exec .granaryLaunch s = .next t ∧
      Keeps s t [] { t.hw with time := s.hw.time, twin := s.hw.twin, shf := s.hw.shf } ∧
      (t.hw.laneOf 48).sent = .payload (s.hw.granaryMarker 48).bits x ∧
      (t.hw.laneOf 49).sent = .payload (s.hw.granaryMarker 49).bits y ∧
      t.hw.twin.sent = some (a, b, d) ∧ (s.hw.active = false → d.items = []) ∧
      (s.hw.time.tickNo % 16 = 15 → d.cfgCheck = s.hw.cfgCheck ∧ d.fwDigest = s.hw.fwDigest)) ∧
  (∀ (s : State) (n train mk block : Nat) (sp : Bool) (line : List Bool) (arr : Int) (items : List (Nat × List Int)) (st : GrStatus)
    (m : Marker), Runs s.hw → n = 48 ∨ n = 49 →
    s.hw.hasTwin = true → readMarker (mk % 2 ^ 128) = some m → m.lane = n → m.path ≠ s.hw.strapTwinB →
    (s.hw.laneOf n).grLock = true → m.kind ≠ 1 → m.kind ≠ 3 → readBlock (mk % 2 ^ 128) m line = some block → blockOk block = true →
    blockField block 0 4 = 3 →
    ∃ t, exec (.granaryFrameReceive n sp train mk line arr items st) s = .next t ∧
      Keeps s t (word TW_STAT :: word TW_MIRROR :: SYS_TISTAT_CFG_DIFF :: replyFlds ++ tripFlds)
        { t.hw with twin := s.hw.twin, shf := s.hw.shf, xram := s.hw.xram, ops := s.hw.ops, log := s.hw.log, trg := s.hw.trg,
                    cmd := s.hw.cmd } ∧
      t.hw.twin.peer = some (grHeader (blockField block 0 64)))

/-! ### Almanac -/

/-- Table ALM-2: ALM_TIME_GET answers with the time of the present instant; ALM_STEP enters its step for the coming tick and waits (R307);
ALM_INC_SET enters an increment within ±200 ppm for the coming tick (R304); ALM_TXTS_READ takes the oldest stamps of a port (R312);
ALM_CFG_SET writes its words. -/
def Obligations.AlmanacCommands : Prop :=
  (∀ (s : State) (h : Hdr), Accepts (Op.plain 0x0A00 .viewer) h s.hw → Answers (.almTimeGet h) h 0x0A00 s
    (leBytes 6 s.hw.timeNow.1 ++ leBytes 4 s.hw.timeNow.2.1 ++ leBytes 4 s.hw.timeNow.2.2 ++ leBytes 8 s.hw.inc ++
      regBytes s.hw [SYS_TICKNUM, ALM_STAT])) ∧
  (∀ (s : State) (h : Hdr) (k : Nat) (sec ns : Int), Accepts (Op.plain 0x0A01 .engineer) h s.hw → Room s.hw 1 →
    s.hw.flag ALM_CTRL_PTP_FW_EN = false → k ≤ 1 →
    let r : StepReq := ⟨decide (k = 0), sec, ns⟩
    r.formBad = false → r.resultBad s.hw.timeNow.1 s.hw.timeNow.2.1 = false → (∀ p ∈ s.hw.time.steps, p.belongs ≠ s.hw.ticks + 1) →
    Waits (.almStep h k sec ns) h 0x0A01 s .step (stepEnter r (some h) (s.hw.accept h))) ∧
  (∀ (s : State) (h : Hdr) (v : Nat), Accepts (Op.plain 0x0A02 .operator) h s.hw → s.hw.flag ALM_CTRL_PTP_FW_EN = false →
    incNear limAny v = true → s.hw.logRefuses 0 = false → incNear limRun v = true →
    Performs (.almIncSet h v) h 0x0A02 s []
      (({ s.hw.accept h with time := { s.hw.time with stageLow := none } } : Hw).pushInc ⟨v, none⟩)) ∧
  (∀ (s : State) (h : Hdr) (p c : Nat), Accepts (Op.plain 0x0A03 .viewer) h s.hw → p ≤ 1 → 1 ≤ c → c ≤ 16 →
    let q := smapGet [] s.hw.time.txq p
    Performs (.almTxtsRead h p c) h 0x0A03 s ((q.take c).flatMap fun x => (x.words p).flatMap (leBytes 4))
      ((s.hw.accept h).setTxq p (q.drop c))) ∧
  (∀ (s : State) (h : Hdr) (c u a b : Nat), Accepts (Op.plain 0x0A04 .engineer) h s.hw → Room s.hw 4 →
    let t := ((((s.hw.accept h).setWord ALM_CTRL c).setWord ALM_UTC u).setWord (ALM_PORTp_LAT 0) a).setWord (ALM_PORTp_LAT 1) b
    almCtrlBad t = false → Performs (.almCfgSet h c u a b) h 0x0A04 s [] t)

/-- R315: without an increment for HOLD_TMO, HOLDOVER rises; R311: the oldest frame of a port leaves; R391: a frame whose Ethertype the
host takes goes to the descriptor at NR_HEAD, which moves on. -/
def Obligations.AlmanacEvents : Prop :=
  (∀ s : State, Runs s.hw → s.hw.time.incTick + s.hw.get ALM_CTRL_HOLD_TMO * ticksPerSec ≤ s.hw.ticks →
    ∃ t, exec .holdoverTimeout s = .next t ∧
      Keeps s t [ALM_STAT_HOLDOVER] { t.hw with trg := s.hw.trg } ∧
      t.hw.flag ALM_STAT_HOLDOVER = true) ∧
  (∀ (s : State) (p c : Nat) (dev : Int) (f : TxFrame) (q : List TxFrame), Runs s.hw → p < 2 → smapGet [] s.hw.net.tx p = f :: q →
    ∃ t, exec (.txEgressStamp p c dev) s = .next t ∧
      Keeps s t (txOvf p :: word (ALM_TXTSp_STAT p) :: replyFlds) { t.hw with time := s.hw.time, net := s.hw.net, cmd := s.hw.cmd } ∧
      smapGet [] t.hw.net.tx p = q ∧
      smapGet [] t.hw.net.txLast p = (egress f ((s.hw.atEvent c).stampAt c dev (s.hw.get (ALM_PORTp_LAT_EGRESS p)))).1) ∧
  (∀ (s : State) (p c : Nat) (dev : Int) (frame : List Byte) (a : ServoAct), Runs s.hw → p < 2 → ptpAt frame = none →
    etherType frame ≠ 0 → s.hw.net.rxTypes.contains (etherType frame) = true → s.hw.net.rxCount ≠ 0 →
    ∃ t, exec (.stationFrameReceive p c dev frame true a) s = .next t ∧
      Keeps s t [NR_HEAD_HEAD] { t.hw with time := s.hw.time, net := s.hw.net, cmd := s.hw.cmd } ∧
      t.hw.get NR_HEAD_HEAD = ((s.hw.get NR_HEAD_HEAD + 1) % s.hw.net.rxCount) % 2 ^ NR_HEAD_HEAD.width ∧
      (t.hw.net.rxLast.map fun x => (x.index, x.bytes)) = some (s.hw.get NR_HEAD_HEAD, frame.take 2048))

/-! ### Clocks and crossings -/

/-- Table ORY-6: what each clock command answers or writes; a configuration of an MDLL that is at rest starts its acquisition, one of a
loop that is busy waits and is answered so (R321). -/
def Obligations.ClockCommands : Prop :=
  (∀ (s : State) (h : Hdr), Accepts (Op.plain 0x0A20 .viewer) h s.hw → Answers (.oryStatusGet h) h 0x0A20 s
    (regBytes s.hw ([ORY_REFCFG] ++ (List.range 4).flatMap (fun m => [ORY_MDLLm_CFG m, ORY_MDLLm_STAT m]) ++ [ORY_SSC_CFG] ++
      (List.range 4).map ORY_CLKOUTn ++ [ORY_MON]))) ∧
  (∀ (s : State) (h : Hdr) (m c : Nat), Accepts (Op.plain 0x0A21 .engineer) h s.hw → Room s.hw 4 → m < 4 →
    mdllRangeBad s.hw m c = false → mdllBars s.hw m = none → s.hw.mdllBusy m = false →
    ∃ t, exec (.oryMdllSet h m c) s = .next t ∧
      Keeps s t (word (ORY_MDLLm_CFG m) :: word (ORY_MDLLm_STAT m) :: clockFlds ++ servedFlds)
        { t.hw with cmd := s.hw.cmd, log := s.hw.log, ory := s.hw.ory, time := s.hw.time, lst := s.hw.lst, ops := s.hw.ops,
                    trg := s.hw.trg, int := s.hw.int, shf := s.hw.shf, chr := s.hw.chr, twin := s.hw.twin, free := s.hw.free } ∧
      t.hw.reg (ORY_MDLLm_CFG m) = ((s.hw.accept h).setWord (ORY_MDLLm_CFG m) c).reg (ORY_MDLLm_CFG m) ∧
      t.hw.mdllState m = (if t.hw.flag (ORY_MDLLm_CFG_BAND_AUTO m) then mdSearch else mdLocking) ∧ Replied t.hw h 0x0A21 .ok []) ∧
  (∀ (s : State) (h : Hdr) (m c : Nat), Accepts (Op.plain 0x0A21 .engineer) h s.hw → Room s.hw 1 → m < 4 →
    mdllRangeBad s.hw m c = false → mdllBars s.hw m = none → s.hw.mdllBusy m = true →
    ∃ t, exec (.oryMdllSet h m c) s = .next t ∧
      Keeps s t ([ORY_MDLLm_STAT_PEND m, SYS_PEND_PENDING] ++ servedFlds) { t.hw with cmd := s.hw.cmd, log := s.hw.log, ory := s.hw.ory } ∧
      t.hw.mdllPend m = some (BitVec.ofNat 32 c) ∧ Replied t.hw h 0x0A21 .enableDeferred []) ∧
  (∀ (s : State) (h : Hdr) (c d : Nat) (p : Option (List Nat)), Accepts (Op.plain 0x0A22 .engineer) h s.hw → Room s.hw 10 →
    let t := ((s.hw.accept h).setWord ORY_SSC_CFG c).put ORY_REFCFG_DUTY_TRIM d
    Performs (.orySscSet h c p d) h 0x0A22 s [] (sscWritten p.isSome (match p with
      | some ws => (profRegs.zip ws).foldl (fun t q => t.setWord q.1 q.2) t
      | none => t))) ∧
  (∀ (s : State) (h : Hdr) (n c : Nat), Accepts (Op.plain 0x0A23 .engineer) h s.hw → Room s.hw 1 → n ≤ 3 →
    let t := (s.hw.accept h).setWord (ORY_CLKOUTn n) c
    clkoutBad t n = false → clkoutHeld s.hw t n = false →
    Performs (.oryClkoutSet h n c) h 0x0A23 s [] (clkoutTake n (s.hw.accept h) t)) ∧
  (∀ (s : State) (h : Hdr), Accepts (Op.plain 0x0A24 .viewer) h s.hw →
    Answers (.cdcStatusGet h) h 0x0A24 s (regBytes s.hw [CDC_STAT, CDC_CNT]))

/-- R264, R326: the loss of the timebase clock stops Almanac, brings every leg to FAULT and latches CLOCK; its return lets Almanac go on
with TIME_INVALID; the loss of the core clock leaves no leg in RUN; the lane and DDR clocks stop. R325: a count outside its window marks
its domain. -/
def Obligations.ClockLosses : Prop :=
  (∀ s : State, Runs s.hw → s.hw.time.clockLost = false →
    ∃ t, exec .tbClockLoss s = .next t ∧
      Keeps s t clockFlds
        { t.hw with time := s.hw.time, lst := s.hw.lst, ops := s.hw.ops, log := s.hw.log, trg := s.hw.trg, cmd := s.hw.cmd,
                    int := s.hw.int } ∧
      t.hw.time.clockLost = true ∧ (∀ n, n < 12 → t.hw.legState n = lgFault) ∧
      bitOf t.hw.latched cClock = true ∧ t.hw.timeNow = s.hw.timeNow) ∧
  (∀ s : State, Runs s.hw → s.hw.time.clockLost = true →
    ∃ t, exec .tbClockReturn s = .next t ∧
      Keeps s t [ALM_STAT_TIME_INVALID, SYS_TRIPCAUSE_ACTIVE] { t.hw with time := s.hw.time, lst := s.hw.lst } ∧
      t.hw.time.clockLost = false ∧ t.hw.flag ALM_STAT_TIME_INVALID = true) ∧
  (∀ s : State, Runs s.hw → s.hw.flag ORY_MON_CORE_LOSS = false →
    ∃ t, exec .coreClockLoss s = .next t ∧
      Keeps s t clockFlds
        { t.hw with lst := s.hw.lst, ops := s.hw.ops, log := s.hw.log, trg := s.hw.trg, cmd := s.hw.cmd, twin := s.hw.twin } ∧
      t.hw.flag ORY_MON_CORE_LOSS = true ∧ ∀ n, n < 12 → t.hw.legState n ≠ lgRun) ∧
  (∀ s : State, Runs s.hw → Becomes .laneClockLoss s { s.hw with shf := { s.hw.shf with clock := false } }) ∧
  (∀ s : State, Runs s.hw → ∃ t, exec .ddrClockLoss s = .next t ∧
      Keeps s t [CHR_STAT_DDR_OK] { t.hw with chr := s.hw.chr } ∧
      t.hw.chr.ddrLost = true ∧ t.hw.flag CHR_STAT_DDR_OK = false) ∧
  (∀ (s : State) (d c : Nat), Runs s.hw → d ≤ 10 → c < (monWindow s.hw d).1 ∨ (monWindow s.hw d).2 < c →
    ∃ t, exec (.monitorWindow [(d, c)]) s = .next t ∧
      Keeps s t clockFlds
        { t.hw with time := s.hw.time, lst := s.hw.lst, ops := s.hw.ops, log := s.hw.log, trg := s.hw.trg, cmd := s.hw.cmd,
                    int := s.hw.int, twin := s.hw.twin, shf := s.hw.shf, chr := s.hw.chr } ∧
      bitOf (t.hw.get ORY_MON_WIN_FAULT) d = true ∧
      t.hw.flag SYS_TISTAT_CLK_TOL = true)

/-- R320 to R322: a loop that loses lock acquires again, and one that locks is LOCKED; R330: a crossing's timeout is counted with its
crossing; R263: a debug halt of an engine or of the Local Stage begins in a configuration mode, and ends. -/
def Obligations.LoopsCrossingsAndHalts : Prop :=
  (∀ (s : State) (m : Nat), Runs s.hw → m < 4 → s.hw.mdllState m ≠ 0 →
    ∃ t, exec (.mdllLockLost m) s = .next t ∧
      Keeps s t (word (ORY_MDLLm_STAT m) :: clockFlds)
        { t.hw with time := s.hw.time, lst := s.hw.lst, ops := s.hw.ops, log := s.hw.log, trg := s.hw.trg, cmd := s.hw.cmd,
                    int := s.hw.int, shf := s.hw.shf, chr := s.hw.chr, ory := s.hw.ory, twin := s.hw.twin, free := s.hw.free } ∧
      t.hw.mdllState m = (if s.hw.flag (ORY_MDLLm_CFG_BAND_AUTO m) then mdSearch else mdLocking) ∧
      t.hw.flag (ORY_MDLLm_STAT_LOCK_LOST m) = true) ∧
  (∀ (s : State) (m b : Nat), Runs s.hw → m < 4 → s.hw.acquiring m = true →
    ∃ t, exec (.mdllLocked m b) s = .next t ∧
      KeepsOut s t (word (ORY_MDLLm_STAT m) :: [ALM_STAT_TIME_INVALID, SYS_TRIPCAUSE_ACTIVE,
          CHR_STAT_DDR_OK] ++ (List.range numLanes).flatMap laneFlds ++ shfFlds)
        { t.hw with time := s.hw.time, lst := s.hw.lst, ory := s.hw.ory, shf := s.hw.shf, chr := s.hw.chr, hkc := s.hw.hkc,
                    free := s.hw.free } ∧
      (m ≠ 3 ∨ s.hw.chr.stall = false ∨ s.hw.chr.acc = [] → t.capture = s.capture) ∧ t.hw.mdllState m = mdLocked) ∧
  (∀ (s : State) (x : Nat), Runs s.hw →
    ∃ t, exec (.cdcTimeout x) s = .next t ∧
      Keeps s t [word CDC_STAT, CDC_CNT_TIMEOUT_CNT, SYS_TISTAT_CDC_ERR] { t.hw with int := s.hw.int } ∧
      t.hw.flag CDC_STAT_CDC_TIMEOUT = true ∧ t.hw.flag SYS_TISTAT_CDC_ERR = true ∧
      t.hw.get CDC_STAT_XID = x % 2 ^ CDC_STAT_XID.width ∧
      t.hw.get CDC_CNT_TIMEOUT_CNT = satInc CDC_CNT_TIMEOUT_CNT.width (s.hw.get CDC_CNT_TIMEOUT_CNT)) ∧
  (∀ (s : State) (n : Nat), Runs s.hw → s.hw.cfgMode = true → n < 24 →
    ∃ t, exec (.debugHalt n) s = .next t ∧
      Keeps s t [LEn_STAT_HALTED n, SYS_TISTAT_HALT_SEEN] { t.hw with int := s.hw.int } ∧
      t.hw.flag (LEn_STAT_HALTED n) = true ∧ t.hw.flag SYS_TISTAT_HALT_SEEN = true) ∧
  (∀ s : State, Runs s.hw → s.hw.cfgMode = true → s.hw.lst.halt = none →
    ∃ t, exec (.debugHalt 24) s = .next t ∧
      Keeps s t (SYS_TISTAT_HALT_SEEN :: legFlds) { t.hw with lst := s.hw.lst, int := s.hw.int } ∧
      t.hw.lst.halt = some s.hw.cycles) ∧
  (∀ (s : State) (n : Nat), Runs s.hw → n < 24 → Becomes (.debugHaltEnd n) s (s.hw.put (LEn_STAT_HALTED n) 0)) ∧
  (∀ s : State, Runs s.hw → s.hw.lst.halt ≠ none → ∃ t, exec (.debugHaltEnd 24) s = .next t ∧
      Keeps s t (legFlds ++ (List.range 4).map LST_GRPg_CFG_ACT_IDX) { t.hw with lst := s.hw.lst } ∧
      t.hw.lst.halt = none)

/-! ### The Chronograph -/

/-- Table CHR-5, the commands on triggers, records and captured data. -/
def Obligations.ChronographRecordCommands : Prop :=
  (∀ (s : State) (h : Hdr), Accepts (Op.plain 0x0B00 .viewer) h s.hw → Answers (.chrStatusGet h) h 0x0B00 s
    (regBytes s.hw ([CHR_CTRL, CHR_STAT, CHR_TRUNC] ++ (List.range 16).map CHR_TRGu_STAT ++ (List.range 4).map CHR_RECk_STAT))) ∧
  (∀ (s : State) (h : Hdr) (u c x : Nat), Accepts (Op.plain 0x0B01 .engineer) h s.hw → Room s.hw 2 → u ≤ 15 →
    let t := ((s.hw.accept h).setWord (CHR_TRGu_CFG u) c).setWord (CHR_TRGu_THR u) x
    trgBad t u = false → Performs (.chrTrgCfg h u c x) h 0x0B01 s [] (trgConfigured u t)) ∧
  (∀ (s : State) (h : Hdr) (k c tr sr ln ns b : Nat) (ls : Option (List Nat)), Accepts (Op.sized 0x0B02 .engineer (if ls.isSome then 153 else 25)) h s.hw →
    Room s.hw 38 → k ≤ 3 →
    let t := ((recRegs k).zip [c, tr, sr, ln, ns, b]).foldl (fun t p => t.setWord p.1 p.2) (s.hw.accept h)
    let t := match ls with
      | some ws => (((List.range 32).map CHR_LEVj).zip ws).foldl (fun t p => t.setWord p.1 p.2) t
      | none => t
    recBad t k = false → (List.range 32).any (levBad t) = false → s.hw.recBusy k = false →
    (List.range 4).any (fun j => slotsMeet t j k) = false →
    Performs (.chrRecCfg h k c tr sr ln ns b ls) h 0x0B02 s [] (recConfigured k t)) ∧
  (∀ (s : State) (h : Hdr) (m : Nat), Accepts (Op.plain 0x0B03 .operator) h s.hw → Room s.hw 1 → m < 16 →
    (∀ k ∈ recsOf m, (s.hw.recState k = rcIdle ∨ s.hw.recState k = rcDone) ∧ s.hw.get (CHR_RECk_NSEG_NSEG k) ≠ 0) →
    firstFail (armBars s.hw (recsOf m)) = none →
    ∃ t, exec (.chrArm h m) s = .next t ∧
      KeepsOut s t (SYS_PEND_PENDING :: (recsOf m).map (fun k => word (CHR_RECk_STAT k)) ++ servedFlds)
        { t.hw with chr := s.hw.chr, ops := s.hw.ops, cmd := s.hw.cmd, log := s.hw.log } ∧
      (∀ a, (∀ k ∈ recsOf m, (s.hw.recOf k).seg ≠ none → ¬ (s.hw.slotAddr k ≤ a ∧ a < s.hw.slotAddr k + 64)) →
        memRead t.capture a = memRead s.capture a) ∧
      Replied t.hw h 0x0B03 .ok [] ∧ ∀ k ∈ recsOf m, (t.hw.recOf k).due = true) ∧
  (∀ (s : State) (h : Hdr) (m : Nat), Accepts (Op.plain 0x0B04 .operator) h s.hw → Room s.hw 1 →
    ∃ t, exec (.chrStop h m) s = .next t ∧
      KeepsOut s t (SYS_PEND_PENDING :: (recsOf m).map (fun k => word (CHR_RECk_STAT k)) ++ servedFlds)
        { t.hw with chr := s.hw.chr, ops := s.hw.ops, cmd := s.hw.cmd, log := s.hw.log } ∧
      (∀ a, (∀ k ∈ recsOf m, (s.hw.recOf k).seg ≠ none → ¬ (s.hw.slotAddr k ≤ a ∧ a < s.hw.slotAddr k + 64)) →
        memRead t.capture a = memRead s.capture a) ∧
      Replied t.hw h 0x0B04 .ok [] ∧
      ∀ k ∈ recsOf m, t.hw.recState k = rcIdle ∧ (t.hw.recOf k).due = false) ∧
  (∀ (s : State) (h : Hdr) (m : Nat), Accepts (Op.plain 0x0B05 .operator) h s.hw → Room s.hw 1 →
    (∀ k ∈ recsOf m, s.hw.recState k = rcArmed) → Performs (.chrForce h m) h 0x0B05 s []
      { s.hw.accept h with trg := { s.hw.trg with soft := s.hw.trg.soft ||| m % 16, softAt := s.hw.nowQ } }) ∧
  (∀ (s : State) (h : Hdr) (o n : Nat), Accepts (Op.plain 0x0B06 .viewer) h s.hw → n ≤ 2 ^ 20 →
    o + n ≤ s.hw.get CHR_STAT_DDR_GIB * 2 ^ 30 → s.hw.flag CHR_STAT_DDR_OK = true →
    let data := (List.range n).map fun i => ddrByte s.hw s.capture (o + i)
    (ddrBadAt (s.hw.accept h) o n = none → Fits h data → Answers (.chrRead h o n) h 0x0B06 s data) ∧
    ∀ a, ddrBadAt (s.hw.accept h) o n = some a → Fits h (data ++ leBytes 8 a) → Refuses (.chrRead h o n) h 0x0B06 s .eccError (data ++ leBytes 8 a))

/-- Table CHR-5, the commands on statistics, the cross-spectrum, the synchronisation line and the self-test. -/
def Obligations.ChronographOtherCommands : Prop :=
  (∀ (s : State) (h : Hdr) (u c lo f : Nat), Accepts (Op.plain 0x0B07 .engineer) h s.hw → Room s.hw 3 → u ≤ 16 →
    let as := if u < 16 then [CHR_HISTh_CFG u, CHR_HISTh_LO u] else [CHR_MAP_CFG, CHR_MAP_LO, CHR_MAP_FREQ]
    let t := (as.zip [c, lo, f]).foldl (fun t p => t.setWord p.1 p.2) (s.hw.accept h)
    statBad t u = false → Performs (.chrStatCfg h u c lo f) h 0x0B07 s [] (if bitOf c 30 then statClr u t else t)) ∧
  (∀ (s : State) (h : Hdr) (c sg bl av la : Nat) (bins : List Nat), Accepts (Op.sized 0x0B08 .engineer (20 + 4 * bins.length)) h s.hw →
    Room s.hw (5 + bins.length) →
    let t := (([CHR_XSP_CFG, CHR_XSP_SIG, CHR_XSP_BLK, CHR_XSP_AVG, CHR_XSP_LEADDR] ++ (List.range bins.length).map CHR_XSP_BINb).zip
      ([c, sg, bl, av, la] ++ bins)).foldl (fun t p => t.setWord p.1 p.2) (s.hw.accept h)
    bins.length = t.get CHR_XSP_CFG_NBIN_M1 + 1 → xspBad t = false → s.hw.flag CHR_XSP_STAT_BUSY = false →
    Performs (.chrXspStart h c sg bl av la bins) h 0x0B08 s [] (((t.put CHR_XSP_STAT_BUSY 1).put CHR_XSP_STAT_M 0).onXsp fun x =>
      { waits := true, copy := x.copy, acc := if x.copy.isSome then x.acc else [] })) ∧
  (∀ (s : State) (h : Hdr), Accepts (Op.plain 0x0B09 .operator) h s.hw → Room s.hw 1 →
    Performs (.chrXspStop h) h 0x0B09 s [] (xspAbort (s.hw.accept h))) ∧
  (∀ (s : State) (h : Hdr), Accepts (Op.plain 0x0B0A .operator) h s.hw → Room s.hw 1 →
    s.hw.get CHR_CTRL_SYNC_ROLE = 2 →
    Performs (.chrSyncArm h) h 0x0B0A s [] ((s.hw.accept h).onChr fun c => { c with syncArm := true })) ∧
  (∀ (s : State) (h : Hdr), Accepts (Op.plain 0x0B0B .engineer) h s.hw → Room s.hw 1 →
    Waits (.chrSelftest h) h 0x0B0B s .selftest ((s.hw.accept h).onChr fun c => { c with tests := c.tests + 1 }))

/-- R336: an accepted pin edge reaches the trigger units; R339, R340: a closed segment counts and ends its record's run, and an automatic
re-arm arms it; R351: the line's level; R345: the buffer; R352: a block's end enters the accumulators; R355: the self-test's end. -/
def Obligations.ChronographEvents : Prop :=
  (∀ (s : State) (p c : Nat) (up : Bool), Runs s.hw → ∃ t x, exec (.trigPinEdge p c up) s = .next t ∧
      Keeps s t [] { t.hw with trg := s.hw.trg } ∧
    t.hw.trg.pins = s.hw.trg.pins ++ [⟨p % 4, up, s.hw.time.base + c, x, 0⟩]) ∧
  (∀ (s : State) (k : Nat), Runs s.hw → k < 4 → s.hw.recState k = rcClosing → (s.hw.recOf k).seg ≠ none →
    s.hw.flag (CHR_RECk_CFG_AUTO_REARM k) = false →
    ∃ t, exec (.segmentClose k) s = .next t ∧
      KeepsOut s t [word (CHR_RECk_STAT k)] { t.hw with chr := s.hw.chr } ∧
      (∀ g, (s.hw.recOf k).seg = some g → s.hw.chr.stall = false → t.capture = memWriteList s.capture (s.hw.slotAddr k) (segHeader s.hw k 0 g)) ∧
      t.hw.recState k = rcDone ∧ (t.hw.recOf k).seg = none ∧
      t.hw.get (CHR_RECk_STAT_SEG_DONE k) = min 65536 (s.hw.get (CHR_RECk_STAT_SEG_DONE k) + 1)) ∧
  (∀ (s : State) (k : Nat), Runs s.hw → k < 4 → s.hw.recState k = rcClosing → (s.hw.recOf k).seg = none →
    ∃ t, exec (.autoRearm k) s = .next t ∧
      Keeps s t [CHR_RECk_STAT_STATE k] { t.hw with chr := s.hw.chr } ∧
      t.hw.recState k = rcArmed ∧ (t.hw.recOf k).ring = []) ∧
  (∀ (s : State) (c : Nat), Runs s.hw →
    (∃ t, exec (.syncLineFall c) s = .next t ∧
      KeepsOut s t ([CHR_STAT_SYNC_LINE, CHR_STAT_BUF_OVF,
          CHR_TRUNC_TRUNC_CNT] ++ (List.range 4).map fun k => word (CHR_RECk_STAT k))
        { t.hw with chr := s.hw.chr, time := s.hw.time } ∧
      (s.hw.get CHR_CTRL_SYNC_ROLE = 0 → t.capture = s.capture) ∧
      t.hw.flag CHR_STAT_SYNC_LINE = false) ∧
    (∃ t, exec (.syncLineRise c) s = .next t ∧
      Keeps s t [CHR_STAT_SYNC_LINE] { t.hw with chr := s.hw.chr, time := s.hw.time } ∧
      t.hw.flag CHR_STAT_SYNC_LINE = true)) ∧
  (∀ s : State, Runs s.hw →
    (∃ t, exec .bufferOverflow s = .next t ∧
      Keeps s t [CHR_STAT_BUF_FILL] { t.hw with chr := s.hw.chr } ∧
      t.hw.chr.dropping = true ∧ t.hw.get CHR_STAT_BUF_FILL = 4032) ∧
    (∃ t, exec .bufferDrained s = .next t ∧
      Keeps s t [CHR_STAT_BUF_FILL] { t.hw with chr := s.hw.chr } ∧
      t.hw.chr.dropping = false ∧ t.hw.get CHR_STAT_BUF_FILL = 2048)) ∧
  (∀ (s : State), Runs s.hw → s.hw.chr.xsp.ended ≠ none → s.hw.flag CHR_XSP_STAT_BUSY = true →
    ∃ t, exec .xspBlockEnd s = .next t ∧
      KeepsOut s t [word CHR_XSP_STAT] { t.hw with chr := s.hw.chr, trg := s.hw.trg } ∧
      (s.hw.get CHR_XSP_STAT_M + 1 < s.hw.get CHR_XSP_AVG_AVG → t.capture = s.capture) ∧
      t.hw.chr.xsp.ended = none ∧
      t.hw.get CHR_XSP_STAT_M = satInc CHR_XSP_STAT_M.width (s.hw.get CHR_XSP_STAT_M)) ∧
  (∀ (s : State) (pass : Bool), Runs s.hw → (∃ w ∈ s.hw.cmd.waiting, w.kind = .selftest) →
    ∃ t, exec (.selftestComplete pass) s = .next t ∧
      Keeps s t (CHR_STAT_SELFTEST_FAIL :: replyFlds) { t.hw with cmd := s.hw.cmd } ∧
      (∀ w ∈ t.hw.cmd.waiting, w.kind ≠ .selftest) ∧
      (pass = false → t.hw.flag CHR_STAT_SELFTEST_FAIL = true))

/-! ### The safety island -/

/-- Table SAF-5: each command of the island. A block loaded waits for its confirmation and leaves nothing energised (R369); a confirmed
one becomes the lasting copy, in force from the next evaluation; a proof test replies at its end (R370). -/
def Obligations.SafetyCommands : Prop :=
  (∀ (s : State) (h : Hdr), Accepts (Op.plain 0x0C00 .viewer) h s.hw → Answers (.safetyStatusGet h) h 0x0C00 s (regBytes s.hw safRegs)) ∧
  (∀ (s : State) (h : Hdr) (b : List Byte), Accepts (Op.plain 0x0C01 .safetyOfficer) h s.hw → Room s.hw 1 → s.hw.mode = mCommission →
    spbOk b = true →
    let t := ((s.hw.accept h).onSaf fun c => { c with pend := some b, apply := false }).raise SAF_STAT_PEND_BLOCK
    let u := safPend (safResults (((t.put SAF_PCHECK_PCHECK (spbCheck b)).put SAF_STAT_CONFIRMED 0).put SYS_MODE_SAFETY_UNCONF 1))
    Performs (.safetyParamLoad h b) h 0x0C01 s [] u ∧ u.saf.outs = 0 ∧ u.flag SYS_MODE_SAFETY_UNCONF = true) ∧
  (∀ (s : State) (h : Hdr) (b : List Byte), Accepts (Op.plain 0x0C02 .viewer) h s.hw → b.length ≤ 1398 →
    (s.hw.saf.pend = some b → Answers (.safetyParamRead h 1) h 0x0C02 s b) ∧
    (s.hw.saf.spb = some b → Answers (.safetyParamRead h 0) h 0x0C02 s b) ∧
    (s.hw.saf.spb = none → ∃ t data, exec (.safetyParamRead h 0) s = .next t ∧
      Keeps s t servedFlds { t.hw with cmd := s.hw.cmd, free := s.hw.free } ∧
      data.length = 256 ∧ Replied t.hw h 0x0C02 .ok data)) ∧
  (∀ (s : State) (h : Hdr) (b : List Byte), Accepts (Op.plain 0x0C03 .safetyOfficer) h s.hw → Room s.hw 1 → s.hw.mode = mCommission →
    s.hw.saf.pend = some b →
    ∃ t, exec (.safetyConfirm h (s.hw.get SAF_PCHECK_PCHECK)) s = .next t ∧
      Keeps s t ([word SAF_CHECK, word SAF_PCHECK, SAF_STAT_PEND_BLOCK, SYS_MODE_SAFETY_UNCONF] ++ servedFlds)
        { t.hw with cmd := s.hw.cmd, log := s.hw.log, nv := s.hw.nv, saf := s.hw.saf } ∧
      t.hw.saf.spb = some b ∧
      t.hw.saf.pend = none ∧ t.hw.saf.apply = true ∧ t.hw.get SAF_CHECK_CHECK = s.hw.get SAF_PCHECK_PCHECK ∧
      t.hw.flag SYS_MODE_SAFETY_UNCONF = false ∧ t.hw.nv = s.hw.nv.onSaf (fun r => { r with spb := some b }) ∧ Replied t.hw h 0x0C03 .ok []) ∧
  (∀ (s : State) (h : Hdr), Accepts (Op.plain 0x0C04 .safetyOfficer) h s.hw → Room s.hw 1 →
    s.hw.modeIn [mCommission, mBlocked, mTripped] = true ∨ s.hw.standby = true →
    let u := safResults ((s.hw.accept h).onSaf fun c => { c with proof := true })
    Waits (.safetyProofTest h) h 0x0C04 s .proofTest u ∧ u.saf.outs = 0)

/-- R367: the second evaluation in a row in which X and Y disagree latches an island fault, which energises nothing and stops the
valve. R360: a discrepancy that lasts, or a test pulse read back high, faults the input. R361, R366, R370: the category 1 delay, the
output test, the feedback loop and the proof test. -/
def Obligations.SafetyEvents : Prop :=
  (∀ (s : State) (lv mv rb : Nat) (apart osc : Bool), Runs s.hw → s.hw.saf.ready = true →
    ∃ t, exec (.safetyEvaluation lv mv rb apart osc) s = .next t ∧
      Keeps s t islandFlds { t.hw with saf := s.hw.saf, ops := s.hw.ops } ∧
      t.hw.saf.evals = s.hw.saf.evals + 1 ∧
      (apart = true ∧ s.hw.saf.apart = 1 ∨ osc = true →
        t.hw.flag SAF_STAT_SAFE_FAULT = true ∧ t.hw.saf.outs = 0 ∧ t.hw.flag SAF_STAT_STOP_REQ = true)) ∧
  (∀ (s : State) (i : Nat) (b : List Byte), Runs s.hw → s.hw.spbNow = some b → i < 16 → 10 * inDisc b i + 1 < (s.hw.safIn i).mixed →
    ∃ t, exec (.discrepancyTimeout i) s = .next t ∧
      Keeps s t islandFlds { t.hw with saf := s.hw.saf, ops := s.hw.ops } ∧
      bitOf (t.hw.get SAF_INFLT_DISC_FLT) i = true ∧ t.hw.inVal i = vFault) ∧
  (∀ (s : State) (f : Nat) (b : List Byte), Runs s.hw → s.hw.spbNow = some b → f < 8 → (s.hw.safFn f).permit = false →
    (s.hw.safFn f).stopped = false → 10 * fnT1 b f ≤ (s.hw.safFn f).since →
    ∃ t, exec (.stop1DelayEnd f) s = .next t ∧
      Keeps s t [word SAF_STAT, SYS_PEND_PENDING] { t.hw with saf := s.hw.saf, ops := s.hw.ops } ∧
      (t.hw.safFn f).stopped = true ∧ (t.hw.safFn f).since = 0) ∧
  (∀ (s : State) (n c : Nat) (b : List Byte), Runs s.hw → s.hw.spbNow = some b → n < 4 → bitOf s.hw.saf.outs n = true → spbOtp b ≠ 0 →
    ∃ t, exec (.outputTestPulse n c false) s = .next t ∧
      Keeps s t [word SAF_STAT, SAF_FAULT_OUT_FLT, SYS_PEND_PENDING] { t.hw with saf := s.hw.saf, ops := s.hw.ops } ∧
      bitOf (t.hw.get SAF_FAULT_OUT_FLT) n = true ∧ bitOf t.hw.saf.outs n = false) ∧
  (∀ (s : State) (n : Nat) (b : List Byte), Runs s.hw → s.hw.spbNow = some b → n < 4 → edmIn b n < 16 →
    smapGet 0 s.hw.saf.changed n ≠ 0 → smapGet 0 s.hw.saf.changed n + 10 * spbEdmT b ≤ s.hw.saf.evals →
    s.hw.inVal (edmIn b n) ≠ (if bitOf s.hw.saf.outs n then vOff else vOn) →
    ∃ t, exec (.edmTimeout n) s = .next t ∧
      Keeps s t [word SAF_STAT, SAF_FAULT_EDM, SYS_PEND_PENDING] { t.hw with saf := s.hw.saf, ops := s.hw.ops } ∧
      bitOf (t.hw.get SAF_FAULT_EDM) n = true ∧ bitOf t.hw.saf.outs n = false) ∧
  (∀ (s : State) (k high i c : Nat) (b : List Byte), Runs s.hw → s.hw.spbNow = some b → s.hw.flag SAF_STAT_SAFE_FAULT = false →
    i ∈ insUsed b → c < 2 → inTp b i c = k → bitOf high (2 * i + c) = true →
    ∃ t, exec (.tpTestPulse k high) s = .next t ∧
      Keeps s t islandFlds { t.hw with saf := s.hw.saf, ops := s.hw.ops } ∧
      bitOf (t.hw.get SAF_INFLT_TP_FLT) i = true ∧ t.hw.inVal i = vFault) ∧
  (∀ s : State, Runs s.hw → ∃ t, exec .proofDue s = .next t ∧
      Keeps s t [SAF_PROOF_PROOF_AGE, SAF_STAT_PROOF_DUE] { t.hw with nv := s.hw.nv } ∧
      t.hw.nv.proofAge = satInc 16 s.hw.nv.proofAge ∧
    t.hw.get SAF_PROOF_PROOF_AGE = t.hw.nv.proofAge % 2 ^ 16 ∧ t.hw.flag SAF_STAT_PROOF_DUE = decide (365 < t.hw.nv.proofAge)) ∧
  (∀ (s : State) (pass : Bool), Runs s.hw → s.hw.saf.proof = true →
    ∃ t, exec (.proofTestComplete pass) s = .next t ∧
      Keeps s t (word SAF_PROOF :: islandFlds ++ replyFlds) { t.hw with saf := s.hw.saf, ops := s.hw.ops, nv := s.hw.nv, cmd := s.hw.cmd } ∧
      t.hw.saf.proof = false ∧ (∀ w ∈ t.hw.cmd.waiting, w.kind ≠ .proofTest) ∧
      (pass = true → t.hw.nv.proofAge = 0 ∧ t.hw.flag SAF_STAT_PROOF_DUE = false) ∧
      (pass = false → t.hw.flag SAF_FAULT_PROOF_FAIL = true ∧ t.hw.flag SAF_STAT_SAFE_FAULT = true ∧ t.hw.saf.outs = 0))

/-- R358: TP and SO pads drive only while a confirmed block is in force and no island fault is latched, and at every other time are
high-impedance, where every contact reads low: with an island fault an evaluation is the same whatever the contacts' levels, and in an
unconfirmed part every input reads open. -/
def Obligations.SafetyPadsDriveOnlyWhenConfirmed : Prop :=
  (∀ (s : Hw) (n k : Nat), (s.soPin n ≠ none ∨ s.tpPin k ≠ none) ↔
    (s.flag SAF_STAT_CONFIRMED = true ∧ s.saf.spb ≠ none ∧ s.flag SAF_STAT_SAFE_FAULT = false)) ∧
  (∀ (s : State) (lv mv rb : Nat) (apart osc : Bool), s.hw.flag SAF_STAT_SAFE_FAULT = true →
    exec (.safetyEvaluation lv mv rb apart osc) s = exec (.safetyEvaluation 0 mv rb apart osc) s) ∧
  (∀ (s : State) (lv mv rb : Nat) (apart osc : Bool) (i : Nat), Runs s.hw → s.hw.saf.ready = true → s.hw.spbNow = none →
    s.hw.saf.apply = false → i < 16 →
    ∃ t, exec (.safetyEvaluation lv mv rb apart osc) s = .next t ∧
      Keeps s t islandFlds { t.hw with saf := s.hw.saf, ops := s.hw.ops } ∧
      t.hw.inVal i = vOff)

/-! ### Sessions and ports -/

/-- Table CMD-9, the System commands on identity, sessions and reset. SESSION_OPEN's first phase makes an identifier pending and answers
it with the device nonce; its second turns it into a session (R381). -/
def Obligations.SessionCommands : Prop :=
  (∀ (s : State) (h : Hdr), Accepts { code := 0x0000, role := some .viewer, params := some 0, noSession := true } h s.hw → Answers (.sysIdent h) h 0x0000 s
    (regBytes s.hw [SYS_DEVID] ++ leBytes 4 s.hw.sto.fwVersion ++ leBytes 32 s.hw.fwDigest ++ leBytes 16 s.hw.cfgCheck ++
      regBytes s.hw [SAF_CHECK] ++ leBytes 1 s.hw.strapByte ++ leBytes 8 Config.serial.toNat)) ∧
  (∀ (s : State) (h : Hdr) (k o : Nat) (r : Role) (nonce : List Byte), roleOfCode k = some r →
    Accepts { code := 0x0001, role := none, params := some 18, noSession := true } h s.hw → nonce.length = 16 → s.hw.authLocked r = false →
    s.hw.sessionsFull h.transport r = false → (bitOf o 0 = true → h.transport = .spi) →
    ∃ t p, exec (.sessionOpen h k o nonce) s = .next t ∧
      Keeps s t servedFlds { t.hw with cmd := s.hw.cmd, free := s.hw.free } ∧
      t.hw.cmd.pendingIds = s.hw.cmd.pendingIds ++ [p] ∧ p.role = r ∧
      p.transport = h.transport ∧ p.localPanel = bitOf o 0 ∧ p.hostNonce = nonce ∧ p.tick = s.hw.ticks ∧
      Replied t.hw h 0x0001 .ok (leBytes 4 p.id ++ p.devNonce)) ∧
  (∀ (s : State) (h : Hdr) (p : PendingId) (proof : List Byte), Accepts { code := 0x0001, role := none, params := some 32, pendingId := true } h s.hw →
    s.hw.pendingId? h = some p → proof.length = 32 → s.hw.authLocked p.role = false → s.hw.ticks ≤ p.tick + ticksPerSec →
    proofGood p proof s.hw = true →
    ∃ t x, exec (.sessionOpenProof h proof) s = .next t ∧
      Keeps s t servedFlds { t.hw with cmd := s.hw.cmd } ∧
      t.hw.cmd.sessions = (s.hw.accept h).cmd.sessions ++ [x] ∧ x.id = h.session ∧
      x.role = p.role ∧ x.transport = p.transport ∧ x.localPanel = p.localPanel ∧ (∀ q ∈ t.hw.cmd.pendingIds, q.id ≠ h.session) ∧
      Replied t.hw h 0x0001 .ok []) ∧
  (∀ (s : State) (h : Hdr), s.hw.inReset = false → s.hw.cmd.resuming = false → gate closeOp s.hw h = .accept →
    closeOp.sizeBad h = false →
    ∃ t, exec (.sessionClose h) s = .next t ∧
      Keeps s t servedFlds { t.hw with cmd := s.hw.cmd } ∧
      (∀ x ∈ t.hw.cmd.sessions, x.id ≠ h.session) ∧
      (∀ x ∈ t.hw.cmd.held, x.1 ≠ h.session) ∧ Replied t.hw h 0x0002 .ok []) ∧
  (∀ (s : State) (h : Hdr), Accepts (Op.plain 0x0003 .viewer) h s.hw → Answers (.sysStatusGet h) h 0x0003 s
    (regBytes s.hw [SYS_MODE, SYS_TISTAT, SYS_TRIPCAUSE, SYS_TICKNUM, ALM_STAT] ++ leBytes 4 s.hw.cmd.sessions.length)) ∧
  (∀ (s : State) (h : Hdr), Accepts (Op.plain 0x0004 .service) h s.hw → Room s.hw 1 →
    s.hw.standby = true ∨ s.hw.modeIn [mCommission, mBlocked, mTripped] = true →
    ∃ t, exec (.sysReset h) s = .next t ∧
      Keeps s t servedFlds { t.hw with cmd := s.hw.cmd, log := s.hw.log } ∧
      t.hw.cmd.resetPending = true ∧ Replied t.hw h 0x0004 .ok []) ∧
  (∀ (s : State) (h : Hdr) (c i m g : Nat), Accepts (Op.plain 0x0005 .engineer) h s.hw → Room s.hw 4 →
    let u := ((((s.hw.accept h).setWord NET_CTRL c).setWord NET_IP i).setWord NET_MASK m).setWord NET_GW g
    netCtrlBad u = false → Performs (.netCfgSet h c i m g) h 0x0005 s [] u ∧
      (s.hw.reg NET_IP ≠ u.reg NET_IP → ∃ t, exec (.netCfgSet h c i m g) s = .next t ∧ ∀ x ∈ t.hw.cmd.sessions, x.transport ≠ .udp))

/-- R389, R392, R379, R382: the mailbox, the host SPI port, discarded packets, and the ends of sessions, identifiers and locks. -/
def Obligations.PortsAndSessionTimers : Prop :=
  (∀ (s : State) (tr : Transport) (tag : Bool), s.hw.transportOn tr = false → exec (.packetDiscard tr tag) s = .next s) ∧
  (∀ (s : State) (tr : Transport) (tag : Bool), Runs s.hw → s.hw.transportOn tr = true → ∃ t, exec (.packetDiscard tr tag) s = .next t ∧
      Keeps s t [NET_STAT_PKT_BAD, NET_STAT_BAD_CNT] { t.hw with cmd := s.hw.cmd } ∧
    t.hw.flag NET_STAT_PKT_BAD = true ∧ t.hw.get NET_STAT_BAD_CNT = satInc NET_STAT_BAD_CNT.width (s.hw.get NET_STAT_BAD_CNT) ∧
    (tr = .spi → t.hw.cmd.spi.ready = true)) ∧
  (∀ (s : State) (k : Nat), Runs s.hw → k < 8 →
    (bitOf (s.hw.get MB_FREE_FREE) k = true → Becomes (.mbDb k) s (s.hw.clearBit MB_FREE_FREE k)) ∧
    (bitOf (s.hw.get MB_FREE_FREE) k = false → Becomes (.mbDb k) s (s.hw.bump MB_ERR_DB_ERR))) ∧
  (∀ (s : State) (m k : Nat), Runs s.hw → k < 8 → bitOf m k = true → bitOf (s.hw.get MB_READY_READY) k = true →
    ∃ t, exec (.mbReadyRelease m) s = .next t ∧
      Keeps s t replyFlds { t.hw with cmd := s.hw.cmd } ∧
      bitOf (t.hw.get MB_READY_READY) k = false ∧ bitOf (t.hw.get MB_FREE_FREE) k = true ∧
      smapGet none t.hw.cmd.mbReplies k = none) ∧
  (∀ (s : State) (bs : List Byte), Runs s.hw → s.hw.flag NET_CTRL_SPI_EN = true →
    (s.hw.cmd.spi.ready = true → Becomes (.writePacket bs) s (s.hw.onSpi fun p => { p with rx := bs, ready := false })) ∧
    (s.hw.cmd.spi.ready = false → Becomes (.writePacket bs) s (s.hw.onSpi fun p => { p with ovf := true }))) ∧
  (∀ s : State, Runs s.hw → s.hw.flag NET_CTRL_SPI_EN = true → ∃ t, exec .readStatus s = .next t ∧
      Keeps s t [] { t.hw with cmd := s.hw.cmd } ∧
      t.hw.cmd.spi.ovf = false ∧
    t.hw.cmd.spi.sent = leBytes 1 ((if s.hw.cmd.spi.ready then 128 else 0) + (if s.hw.cmd.spi.reply.isSome then 64 else 0) +
      (if s.hw.cmd.spi.ovf then 32 else 0)) ++ leBytes 4 s.hw.cmd.spi.replyBytes.length) ∧
  (∀ (s : State) (n : Nat) (r : Reply), Runs s.hw → s.hw.flag NET_CTRL_SPI_EN = true → s.hw.cmd.spi.reply = some r →
    ∃ t, exec (.readReply n) s = .next t ∧
      Keeps s t [] { t.hw with cmd := s.hw.cmd } ∧
      t.hw.cmd.spi.sent = r.packet.take n ∧
      (r.packet.length ≤ n → t.hw.cmd.spi.reply = none) ∧ (n < r.packet.length → t.hw.cmd.spi.reply = some r)) ∧
  (∀ (s : State) (i : Nat) (x : Session), Runs s.hw → s.hw.cmd.sessions.find? (fun x => x.id == i) = some x →
    x.lastTick + s.hw.get NET_CTRL_SESSION_IDLE * ticksPerSec ≤ s.hw.ticks → heldSession s.hw i = false →
    ∃ t, exec (.sessionIdleExpiry i) s = .next t ∧
      Keeps s t [] { t.hw with cmd := s.hw.cmd } ∧
      ∀ y ∈ t.hw.cmd.sessions, y.id ≠ i) ∧
  (∀ (s : State) (i : Nat) (p : PendingId), Runs s.hw → s.hw.cmd.pendingIds.find? (fun x => x.id == i) = some p →
    p.tick + 10 * ticksPerSec ≤ s.hw.ticks →
    ∃ t, exec (.pendingIdExpiry i) s = .next t ∧
      Keeps s t [] { t.hw with cmd := s.hw.cmd } ∧
      ∀ q ∈ t.hw.cmd.pendingIds, q.id ≠ i) ∧
  (∀ (s : State) (k n : Nat), Runs s.hw → smapGet none s.hw.cmd.lockedAt k = some n → n + 60 * ticksPerSec ≤ s.hw.ticks →
    ∃ t, exec (.authLockEnd k) s = .next t ∧
      Keeps s t [] { t.hw with cmd := s.hw.cmd } ∧
      smapGet none t.hw.cmd.lockedAt k = none)

/-! ### The station networks -/

/-- Table CMD-9, the System commands on subscriptions, frames, the receive ring and telemetry. -/
def Obligations.NetworkCommands : Prop :=
  (∀ (s : State) (h : Hdr) (n c a r l : Nat), Accepts (Op.plain 0x0006 .engineer) h s.hw → Room s.hw 4 → s.hw.cfgMode = true → n ≤ 15 →
    Performs (.svSubSet h n c a r l) h 0x0006 s [] (((((s.hw.accept h).setWord (NET_SVs_CFG n) c).setWord (NET_SVs_ADDR n) a).setWord
      (NET_SVs_CONFREV n) r).setWord (NET_SVs_SEL n) l)) ∧
  (∀ (s : State) (h : Hdr) (g c a r : Nat), Accepts (Op.plain 0x0007 .engineer) h s.hw → Room s.hw 3 → s.hw.cfgMode = true → g ≤ 31 →
    let u := (((s.hw.accept h).setWord (NET_GOg_CFG g) c).setWord (NET_GOg_ADDR g) a).setWord (NET_GOg_CONFREV g) r
    gooseBad u g = false → Performs (.gooseSubSet h g c a r) h 0x0007 s [] u) ∧
  (∀ (s : State) (h : Hdr), Accepts (Op.plain 0x0008 .viewer) h s.hw → Answers (.netStatusGet h) h 0x0008 s
    (regBytes s.hw [NET_STAT] ++ ((List.range 16).flatMap fun n => leBytes 4 (s.hw.xrBits (svArea n + 2))) ++
      regBytes s.hw ((List.range 32).map NET_GOg_STAT))) ∧
  (∀ (s : State) (h : Hdr) (p q g : Nat) (frame : List Byte),
    Accepts { code := 0x0009, role := some .engineer, params := some (12 + frame.length), pcieOnly := true } h s.hw → p ≤ 2 → q ≤ 2 → 14 ≤ frame.length →
    frame.length ≤ 1514 → s.hw.flag ALM_CTRL_PTP_FW_EN = false ∨ ptpAt frame = none →
    let u := frameHand h p q g frame (s.hw.accept h)
    Waits (.netFrameSend h p q g frame) h 0x0009 s .frameSend u ∧
      (p < 2 → ∃ f, smapGet [] u.net.tx p = smapGet [] s.hw.net.tx p ++ [f] ∧ f.frame = frame)) ∧
  (∀ (s : State) (h : Hdr) (b c : Nat) (ts : List Nat), Accepts { code := 0x000A, role := some .engineer, params := some 18, pcieOnly := true } h s.hw →
    Room s.hw 1 → 16 ≤ c → c ≤ 4096 → isPow2 c = true → ts.length = 4 →
    Performs (.netRxCfg h b c ts) h 0x000A s []
      (((s.hw.accept h).onNet fun t => { t with rxBase := b, rxCount := c, rxTypes := ts }).put NR_HEAD_HEAD 0)) ∧
  (∀ (s : State) (h : Hdr) (b c r d : Nat) (ws : List (Nat × Nat)),
    Accepts { code := 0x000B, role := some .engineer, pcieOnly := true } h s.hw → Room s.hw 1 →
    ws = [] ∨ Telem.bad ⟨b, c, r, d, ws⟩ = false →
    Performs (.telemCfgSet h b c r d ws) h 0x000B s [] ((s.hw.accept h).onNet fun n =>
      { n with telemNext := some (if ws = [] then none else some ⟨b, c, r, d, ws⟩) }))

/-- R318, R395: a usable sample enters its stream's area, and VALID falls once the newest is old; R396: a message enters its
subscription's area, and its timeout clears VALID and puts the values of LOSS; R390: a record due is written, or dropped for want of
room. -/
def Obligations.NetworkEvents : Prop :=
  (∀ (s : State) (p c n : Nat) (dev : Int) (f : SvFrame) (a : SvAsdu), Runs s.hw → p < 2 → n < 16 → svMatch s.hw n f = some a →
    let r := svRate (s.hw.liveGet (NET_SVs_CFG_RATE n))
    let units := (s.hw.atEvent c).stampAt c dev (-(s.hw.get (ALM_PORTp_LAT_INGRESS p) : Int))
    let sec := svSecond units a.smpCnt r
    a.smpCnt < r → 0 ≤ sec → (smapGet {} s.hw.net.sv n).seen.contains (sec.toNat, a.smpCnt) = false →
    svAge units a.smpCnt r sec ≤ ((s.hw.get ALM_CTRL_SV_AGE_MAX * 1000 * 2 ^ 32 * r : Nat) : Int) → a.smpSynch ≠ 0 →
    (a.smpSynch = 1 → s.hw.flag ALM_CTRL_SMPSYNCH_LOCAL = true) →
    ∃ t, exec (.svFrameReceive p c dev f) s = .next t ∧
      Keeps s t [ALM_STAT_SV_LATE, ALM_STAT_SV_BAD] { t.hw with net := s.hw.net, xarr := s.hw.xarr, free := s.hw.free, time := s.hw.time } ∧
      smapGet 0 t.hw.xarr (svArea n) = a.smpCnt % 65536 ∧
      bitOf (smapGet 0 t.hw.xarr (svArea n + 2)) 1 = f.sim ∧ bitOf (smapGet 0 t.hw.xarr (svArea n + 2)) 3 = true ∧
      (smapGet {} t.hw.net.sv n).seen.contains (sec.toNat, a.smpCnt) = true) ∧
  (∀ (s : State) (n : Nat) (x : Nat × Nat), Runs s.hw → n < 16 → (smapGet {} s.hw.net.sv n).newest = some x →
    svOld ((s.hw.timeNow.1 * nsPerSec + s.hw.timeNow.2.1) * 2 ^ 32 + s.hw.timeNow.2.2) (svRate (s.hw.liveGet (NET_SVs_CFG_RATE n))) x = true →
    ∃ t, exec (.svStale n) s = .next t ∧
      Keeps s t [] { t.hw with xarr := s.hw.xarr } ∧
      bitOf (smapGet 0 t.hw.xarr (svArea n + 2)) 0 = false) ∧
  (∀ (s : State) (g : Nat) (m : GooseMsg), Runs s.hw → g < 32 → gooseMatch s.hw g m = true →
    (smapGet {} s.hw.net.goose g).last ≠ some (m.stNum, m.sqNum) →
    ∃ t, exec (.gooseMessageReceive m) s = .next t ∧
      Keeps s t ((List.range 32).map fun k => word (NET_GOg_STAT k)) { t.hw with net := s.hw.net, xarr := s.hw.xarr } ∧
      t.hw.flag (NET_GOg_STAT_VALID g) = true ∧
      t.hw.get (NET_GOg_STAT_STNUM g) = m.stNum % 65536 ∧ smapGet 0 t.hw.xarr (gooseArea g + 1) = m.stNum % 65536 ∧
      bitOf (smapGet 0 t.hw.xarr (gooseArea g)) 0 = true) ∧
  (∀ (s : State) (g : Nat), Runs s.hw → g < 32 → s.hw.flag (NET_GOg_STAT_VALID g) = true →
    (smapGet {} s.hw.net.goose g).at_ + (smapGet {} s.hw.net.goose g).ttl * 256000 ≤ s.hw.cycles →
    ∃ t, exec (.gooseTtlExpiry g) s = .next t ∧
      Keeps s t [word (NET_GOg_STAT g)] { t.hw with xarr := s.hw.xarr } ∧
      t.hw.flag (NET_GOg_STAT_VALID g) = false ∧
      bitOf (smapGet 0 t.hw.xarr (gooseArea g)) 0 = false ∧
      ∀ v, s.hw.liveGet (NET_GOg_CFG_LOSS g) = v + 1 → v < 2 → ∀ k, k < 14 → smapGet 0 t.hw.xarr (gooseArea g + 4 + 2 * k) = v) ∧
  (∀ (s : State) (rd : Nat) (c : Telem) (x : List Byte) (xs : List (List Byte)), Runs s.hw → s.hw.net.telem = some c →
    s.hw.net.telDue = x :: xs →
    ((s.hw.get TL_WR_WR + 1) % c.count ≠ rd % 2 ^ 24 → ∃ t, exec (.telemetryRecord rd) s = .next t ∧
      Keeps s t [TL_RD_RD, TL_WR_WR] { t.hw with net := s.hw.net, cmd := s.hw.cmd } ∧
      t.hw.net.telDue = xs ∧
      t.hw.get TL_WR_WR = (s.hw.get TL_WR_WR + 1) % c.count % 2 ^ 24 ∧ t.hw.net.telSeq = s.hw.net.telSeq + 1 ∧
      t.hw.net.telLast.map (·.1) = some (c.base + s.hw.get TL_WR_WR * c.size)) ∧
    ((s.hw.get TL_WR_WR + 1) % c.count = rd % 2 ^ 24 → ∃ t, exec (.telemetryRecord rd) s = .next t ∧
      Keeps s t [TL_RD_RD, TL_DROP_DROP] { t.hw with net := s.hw.net, cmd := s.hw.cmd } ∧
      t.hw.net.telDue = xs ∧
      t.hw.get TL_WR_WR = s.hw.get TL_WR_WR ∧ t.hw.get TL_DROP_DROP = satInc TL_DROP_DROP.width (s.hw.get TL_DROP_DROP)))

/-! ### The store, keys, the log and integrity -/

/-- Table STO-8 and R403, R406: STORE takes its snapshot at acceptance and replies at its completion, which leaves the other bank written;
STORE_REVERT acts at the next frame boundary; STORE_ERASE invalidates both banks; CFG_CHECK enters its registers. -/
def Obligations.StoreCommands : Prop :=
  (∀ (s : State) (h : Hdr), Accepts (Op.plain 0x0300 .viewer) h s.hw → Answers (.storeStatusGet h) h 0x0300 s
    (regBytes s.hw ([STO_STAT, STO_BANKn 0, STO_BANKn 1] ++ (List.range 4).map STO_CFGCHKj))) ∧
  (∀ (s : State) (h : Hdr), Accepts (Op.plain 0x0301 .engineer) h s.hw → Room s.hw 1 → s.hw.storeBusy = false →
    let c := if s.hw.sto.revertPend then s.hw.storedNow else s.hw.snapshot
    Waits (.store h) h 0x0301 s .store
      (((s.hw.accept h).onSto fun t => { t with storing := some c, storeTick := s.hw.ticks }).put STO_STAT_STORING 1)) ∧
  (∀ (s : State) (h : Hdr), Accepts (Op.plain 0x0302 .engineer) h s.hw → Room s.hw 1 → s.hw.cfgMode = true →
    Performs (.storeRevert h) h 0x0302 s [] ((s.hw.accept h).onSto fun t => { t with revertPend := true })) ∧
  (∀ (s : State) (h : Hdr), Accepts (Op.plain 0x0303 .service) h s.hw → Room s.hw 1 → s.hw.mode = mCommission → s.hw.storeBusy = false →
    ∃ t, exec (.storeErase h) s = .next t ∧
      Keeps s t ([word (STO_BANKn 0), word (STO_BANKn 1), STO_STAT_WEAR_WARN, SYS_MODE_CFG_INVALID] ++ servedFlds)
        { t.hw with cmd := s.hw.cmd, log := s.hw.log, ops := s.hw.ops, nv := s.hw.nv } ∧
      t.hw.nv.bank0.valid = false ∧ t.hw.nv.bank1.valid = false ∧ t.hw.bankUsed = none ∧
      t.hw.flag SYS_MODE_CFG_INVALID = true ∧ Replied t.hw h 0x0303 .ok []) ∧
  (∀ (s : State) (c : Stored) (ok : Bool), Runs s.hw → s.hw.sto.storing = some c →
    ∃ t, exec (.storeComplete ok) s = .next t ∧
      Keeps s t ([word (STO_BANKn 0), word (STO_BANKn 1), word STO_STAT, SYS_MODE_CFG_INVALID] ++ replyFlds)
        { t.hw with nv := s.hw.nv, sto := s.hw.sto, ops := s.hw.ops, cmd := s.hw.cmd } ∧
      t.hw.nv.bank s.hw.storeTo = s.hw.storeBank c ok ∧ t.hw.sto.storing = none ∧
      (∀ w ∈ t.hw.cmd.waiting, w.kind ≠ .store) ∧ (ok = true → t.hw.get STO_STAT_BANK = s.hw.storeTo) ∧
      (ok = false → t.hw.flag STO_STAT_STORE_FAIL_SEEN = true ∧ t.hw.get STO_STAT_BANK = s.hw.get STO_STAT_BANK)) ∧
  (∀ s : State, Runs s.hw → s.hw.flag STO_STAT_CHK_BUSY = true → ∃ t, exec .cfgCheckDone s = .next t ∧
      Keeps s t (STO_STAT_CHK_BUSY :: (List.range 4).map STO_CFGCHKj_CHK) t.hw ∧
    t.hw.flag STO_STAT_CHK_BUSY = false ∧ ∀ j, j < 4 → t.hw.get (STO_CFGCHKj_CHK j) = s.hw.checkValue / 2 ^ (32 * j) % 2 ^ 32)

/-- Table STO-9, R407 to R414: firmware slots, keys, quotes and identity. -/
def Obligations.SecurityCommands : Prop :=
  (∀ (s : State) (h : Hdr), Accepts (Op.plain 0x0D00 .viewer) h s.hw → Answers (.secStatusGet h) h 0x0D00 s
    (regBytes s.hw [SEC_BOOT, SEC_STAT, SEC_CFG])) ∧
  (∀ (s : State) (h : Hdr) (b o n : Nat) (bs : List Byte), Accepts (Op.sized 0x0D01 .service (7 + n)) h s.hw → Room s.hw 1 → b ≤ 1 →
    o + n ≤ slotSize → bs.length = n → s.hw.runSlot ≠ some b →
    Performs (.fwLoad h b o n bs) h 0x0D01 s []
      ((s.hw.accept h).onNv fun v => { v with flash := memWriteList v.flash (b * slotSize + o) bs })) ∧
  (∀ (s : State) (h : Hdr) (b : Nat), Accepts (Op.plain 0x0D02 .service) h s.hw → b ≤ 1 →
    let r := fwResult s.hw b
    ∃ t, exec (.fwVerify h b) s = .next t ∧
      Keeps s t servedFlds { t.hw with cmd := s.hw.cmd, sto := s.hw.sto } ∧
      smapGet false t.hw.sto.verified b = (r == 0) ∧
      Replied t.hw h 0x0D02 (if r = 0 then .ok else .fwInvalid) (leBytes 1 r)) ∧
  (∀ (s : State) (h : Hdr) (b : Nat), Accepts (Op.plain 0x0D03 .service) h s.hw → Room s.hw 1 → b ≤ 1 →
    smapGet false s.hw.sto.verified b = true → Performs (.fwSelect h b) h 0x0D03 s []
      (((s.hw.accept h).onNv fun v => v.onCnt fun r => { r with prefSlot := b }).put SEC_BOOT_PREF_SLOT b)) ∧
  (∀ (s : State) (h : Hdr), Accepts (Op.plain 0x0D04 .service) h s.hw → Room s.hw 1 →
    let v := match s.hw.runSlot with
      | some b => max s.hw.nv.minSvn (imgField (s.hw.slotBytes b 0 0x40) 0x08 2)
      | none => s.hw.nv.minSvn
    Performs (.fwSvnCommit h) h 0x0D04 s []
      (((s.hw.accept h).onNv fun x => x.onCnt fun r => { r with minSvn := v }).put SEC_BOOT_MIN_SVN v)) ∧
  (∀ (s : State) (h : Hdr) (k : List Byte), Accepts (Op.plain 0x0D05 .engineer) h s.hw → Room s.hw 1 → s.hw.mode = mCommission →
    k.length = 68 → s.hw.nv.custKey = none → Performs (.keyEnroll h k) h 0x0D05 s []
      (secRegs ((s.hw.accept h).onNv fun v => v.onKey fun r => { r with custKey := some k }))) ∧
  (∀ (s : State) (h : Hdr) (k : List Byte), Accepts (Op.plain 0x0D06 .service) h s.hw → Room s.hw 1 → s.hw.mode = mCommission →
    s.hw.nv.custKey = some k → Performs (.keyRevoke h) h 0x0D06 s []
      (secRegs (((s.hw.accept h).onNv fun v => v.onKey fun r => { r with custKey := none }).onSto fun t =>
        { t with revokePend := true }))) ∧
  (∀ (s : State) (h : Hdr) (r : Nat) (w : BitVec 256), Accepts (Op.plain 0x0D07 (roleKeyNeed s.hw h r)) h s.hw → Room s.hw 1 → r ≤ 4 →
    let k := unwrapKey (s.hw.accept h) h w
    s.hw.mode = mCommission ∨ k ≠ 0#256 → Performs (.rolekeySet h r w) h 0x0D07 s []
      (secRegs ((s.hw.accept h).onNv fun v => v.onKey fun x => { x with roleKeys := smapSet 0#256 x.roleKeys r k }))) ∧
  (∀ (s : State) (h : Hdr) (n : List Byte), Accepts (Op.plain 0x0D08 .viewer) h s.hw → n.length = 32 → s.hw.nv.sigIndex < 2 ^ 20 →
    (∀ k ∈ s.hw.sto.lastQuote, k + s.hw.get SEC_CFG_ATT_PERIOD * 50000 ≤ s.hw.ticks) →
    let q := quoteBody (s.hw.accept h) n
    let sig := Config.xmssSign s.hw.nv.sigIndex q
    Performs (.attestQuote h n) h 0x0D08 s (q ++ leBytes 4 sig.length)
      (secRegs (((s.hw.accept h).onNv fun v => v.onCnt fun r => { r with sigIndex := r.sigIndex + 1 }).onSto fun x =>
        { x with signature := sig, lastQuote := some s.hw.ticks }))) ∧
  (∀ (s : State) (h : Hdr) (o n : Nat), Accepts (Op.plain 0x0D09 .viewer) h s.hw → n ≤ 1024 → o + n ≤ s.hw.sto.signature.length →
    Answers (.attestRead h o n) h 0x0D09 s (chunk s.hw.sto.signature o n)) ∧
  (∀ (s : State) (h : Hdr) (o n : Nat), Accepts (Op.plain 0x0D0A .viewer) h s.hw → n ≤ 1024 → o + n ≤ 2888 →
    Answers (.identityGet h o n) h 0x0D0A s (chunk Config.identity o n)) ∧
  (∀ (s : State) (h : Hdr) (c : Nat), Accepts (Op.plain 0x0D0B .service) h s.hw → Room s.hw 1 →
    let u := (s.hw.accept h).setWord SEC_CFG c
    secCfgBad u = false → Performs (.secCfgSet h c) h 0x0D0B s [] u)

/-- Table STO-8, R417: the change log's commands; Table INT-3, R427: the integrity commands. -/
def Obligations.LogAndIntegrityCommands : Prop :=
  (∀ (s : State) (h : Hdr), Accepts (Op.plain 0x0E00 .viewer) h s.hw → Answers (.logStatusGet h) h 0x0E00 s
    (regBytes s.hw [LOG_HEAD, LOG_EXP, LOG_CFG, LOG_STAT] ++ leBytes 16 s.hw.log.headChain)) ∧
  (∀ (s : State) (h : Hdr) (f n : Nat), Accepts (Op.plain 0x0E01 .viewer) h s.hw → 1 ≤ n → n ≤ 1024 →
    let d := s.hw.log.behind f
    d < s.hw.log.count → d < logSlots → n ≤ d + 1 →
    let data := (List.range n).flatMap fun k => (smapGet blankLogEntry s.hw.log.ring ((s.hw.log.count - 1 - d + k) % logSlots)).bytes
    Fits h data → Answers (.logRead h f n) h 0x0E01 s data) ∧
  (∀ (s : State) (h : Hdr) (q : Nat), Accepts (Op.plain 0x0E02 .engineer) h s.hw →
    let d := s.hw.log.behind q
    d ≤ s.hw.log.count - s.hw.log.exported → d < s.hw.log.count → s.hw.flag LOG_CFG_LOG_POLICY = false ∨ 257 ≤ logSlots - min d logSlots →
    ∃ t, exec (.logAck h q) s = .next t ∧
      Keeps s t servedFlds { t.hw with cmd := s.hw.cmd, log := s.hw.log } ∧
      t.hw.log.exported = s.hw.log.count - d ∧ Replied t.hw h 0x0E02 .ok []) ∧
  (∀ (s : State) (h : Hdr) (c : Nat), Accepts (Op.plain 0x0E03 .service) h s.hw → Room s.hw 1 →
    Performs (.logCfgSet h c) h 0x0E03 s [] ((s.hw.accept h).put LOG_CFG_LOG_POLICY c)) ∧
  (∀ (s : State) (h : Hdr), Accepts (Op.plain 0x0F00 .viewer) h s.hw → Answers (.intStatusGet h) h 0x0F00 s
    (regBytes s.hw ([INT_CFG, INT_STAT] ++ (List.range 5).map INT_BDRYb ++ [INT_BOOT]))) ∧
  (∀ (s : State) (h : Hdr) (c : Nat), Accepts (Op.plain 0x0F01 .engineer) h s.hw → Room s.hw 1 →
    let u := (s.hw.accept h).setWord INT_CFG c
    intCfgBad u = false → Performs (.intCfgSet h c) h 0x0F01 s [] u) ∧
  (∀ (s : State) (h : Hdr) (b i : Nat), Accepts (Op.plain 0x0F02 .engineer) h s.hw → Room s.hw 1 → s.hw.mode ≠ mRide →
    i < bundleCount b → s.hw.int.inj = none → s.hw.int.injSlow ≠ some s.hw.nextSlow → (b = 3 → s.hw.laneState (i / 2) = lnRun) →
    Performs (.intInject h b i) h 0x0F02 s [] (({ s.hw.accept h with int := { s.hw.int with
      inj := some (b, i), injTick := s.hw.ticks + 1, injSlow := some s.hw.nextSlow } } : Hw).put INT_STAT_INJ_PEND 1))

/-- R415, R416: an entry goes to the slot after the newest one, chained to it; no other slot changes, and LOG_HEAD names it. -/
def Obligations.LogAppendsAChainedEntry : Prop :=
  ∀ (s : Hw) (tick origin session : Nat) (c : Chg),
    let t := s.logOne tick origin session c
    let e := smapGet blankLogEntry t.log.ring (s.log.count % logSlots)
    t.log.count = s.log.count + 1 ∧ e.seq = s.log.count % 2 ^ 32 ∧ e.tick = tick ∧ e.origin = origin ∧ e.session = session ∧
      e.object = c.object ∧ e.old = c.old % 2 ^ 64 ∧ e.new = c.new % 2 ^ 64 ∧
      e.chain = Config.shake256 (leBytes 16 s.log.headChain ++ e.head) 128 ∧ t.log.headChain = e.chain ∧
      (∀ k, k ≠ s.log.count % logSlots → smapGet blankLogEntry t.log.ring k = smapGet blankLogEntry s.log.ring k) ∧
      t.get LOG_HEAD_HEAD = s.log.count % 2 ^ 32 ∧
      (s.log.unexported = logSlots → t.log.lost = s.log.lost + 1) ∧ (s.log.unexported < logSlots → t.log.lost = s.log.lost)

/-! ### Register access -/

/-- R400, R64, R77, R302, R312: a read returns its words in ascending order; the reads with side effects. -/
def Obligations.RegisterReads : Prop :=
  (∀ (s : State) (h : Hdr) (a n : Nat), Accepts (Op.plain 0x1000 .viewer) h s.hw → 1 ≤ n → n ≤ 256 → a % 4 = 0 → 0x20000000 ≤ a →
    a + 4 * n ≤ 0x20010000 → Answers (.regRead h a n) h 0x1000 s ((List.range n).flatMap fun i => leBytes 4 (s.hw.view (a + 4 * i)).toNat)) ∧
  (∀ (s : State) (h : Hdr) (a n : Nat) (w : Window), Accepts (Op.plain 0x1000 .viewer) h s.hw → windowOf a = some w → 1 ≤ n →
    w.last < a + 4 * (n - 1) → Refuses (.regRead h a n) h 0x1000 s .range []) ∧
  (∀ (s : State) (h : Hdr), Accepts (Op.plain 0x1000 .viewer) h s.hw → Performs (.almNsRead h) h 0x1000 s
    (leBytes 4 (BitVec.ofNat 32 s.hw.timeNow.2.1).toNat) ((((s.hw.accept h).put ALM_SECL_SECL (s.hw.timeNow.1 % 2 ^ 32)).put ALM_SECH_SECH
      (s.hw.timeNow.1 / 2 ^ 32)).put ALM_FRAC_FRAC s.hw.timeNow.2.2)) ∧
  (∀ (s : State) (h : Hdr) (n : Nat), Accepts (Op.plain 0x1000 .viewer) h s.hw → n < 2 → Performs (.hkcnDataRead h n) h 0x1000 s
    (leBytes 4 (s.hw.reg (HKCn_DATA n)).toNat) ((s.hw.accept h).put (HKCn_DATA_NEW n) 0)) ∧
  (∀ (s : State) (h : Hdr) (n m : Nat), Accepts (Op.plain 0x1000 .viewer) h s.hw → n < 2 → m < 16 →
    Performs (.tdMag2Read h n m) h 0x1000 s (leBytes 4 (s.hw.reg (SVn_TDm_MAG2 n m)).toNat)
      ((s.hw.accept h).onTone n m fun t => { t with cap := some (s.hw.reg (SVn_TDm_PH n m)) })) ∧
  (∀ (s : State) (h : Hdr) (p : Nat), Accepts (Op.plain 0x1000 .viewer) h s.hw → p < 2 →
    let r := txReadId p (s.hw.accept h)
    Performs (.almTxtsIdRead h p) h 0x1000 s (leBytes 4 r.1.toNat) r.2 ∧
      (∀ x q, smapGet [] s.hw.time.txq p = x :: q → smapGet [] r.2.time.txq p = q) ∧
      (smapGet [] s.hw.time.txq p = [] → r.2.flag (ALM_TXTSp_ID_VALID p) = false))

/-- What REG_WRITE and REG_WRITE_BLOCK do, and each of their refusals. A word that the checks of its register admit (`writeWord`, for a
block `writeWords` word by word in ascending order) leaves the part that they give, and the reply is OK, or ENABLE_DEFERRED where a
loop's configuration waits; a word that they refuse changes nothing, of a block no word at all, and the reply names its index. For the
network's address registers, the flags of SYS_TISTAT and a block of two network words the part left is written out. -/
def Obligations.RegisterWrites : Prop :=
  (∀ (s : State) (h : Hdr) (a m v : Nat), Accepts (Op.plain 0x1001 .viewer) h s.hw → a ≠ ALM_INCH ∨ m % 16 = 0 →
    (∀ t log late, writeWord (s.hw.roleOf h) a m v (s.hw.accept h) = .ok (t, log, late) → log = [] ∨ Room s.hw log.length →
      ∃ u, exec (.regWrite h a m v) s = .next u ∧ u.pending = s.pending ∧ u.capture = s.capture ∧ Served t u.hw ∧
        Replied u.hw h 0x1001 (if late then .enableDeferred else .ok) []) ∧
    (∀ st, writeWord (s.hw.roleOf h) a m v (s.hw.accept h) = .error st → Refuses (.regWrite h a m v) h 0x1001 s st [])) ∧
  (∀ (s : State) (h : Hdr) (a : Nat) (vs : List Nat) (w : Window), Accepts (Op.sized 0x1002 .viewer (8 + 4 * vs.length)) h s.hw →
    1 ≤ vs.length → vs.length ≤ 256 → windowOf a = some w →
    (a + 4 * (vs.length - 1) ≤ w.last → blockIncFar a vs (s.hw.accept h) = false →
      (∀ t log late, writeWords (s.hw.roleOf h) a 0 vs (s.hw.accept h) = .ok (t, log, late) → log = [] ∨ Room s.hw log.length →
        ∃ u, exec (.regWriteBlock h a vs) s = .next u ∧ u.pending = s.pending ∧ u.capture = s.capture ∧ Served t u.hw ∧
          Replied u.hw h 0x1002 (if late then .enableDeferred else .ok) []) ∧
      (∀ st i, writeWords (s.hw.roleOf h) a 0 vs (s.hw.accept h) = .error (st, i) →
        Refuses (.regWriteBlock h a vs) h 0x1002 s st (leBytes 2 i))) ∧
    (a + 4 * (vs.length - 1) ≤ w.last → blockIncFar a vs (s.hw.accept h) = true → Waits (.regWriteBlock h a vs) h 0x1002 s .inc
      { s.hw.accept h with time := { s.hw.time with blkNext := s.hw.time.blkNext ++ [(h, a, vs)] } }) ∧
    (w.last < a + 4 * (vs.length - 1) → Refuses (.regWriteBlock h a vs) h 0x1002 s .range (leBytes 2 ((w.last - a) / 4 + 1)))) ∧
  (∀ (s : State) (h : Hdr) (r : Role) (a : Nat) (m v : Word), Accepts (Op.plain 0x1001 .viewer) h s.hw →
    Room s.hw 1 → s.hw.roleOf h = some r → roleMeets r .engineer = true → a = NET_IP ∨ a = NET_MASK ∨ a = NET_GW →
    Performs (.regWrite h a m.toNat v.toNat) h 0x1001 s [] ((s.hw.accept h).setReg a ((s.hw.reg a &&& ~~~m) ||| (v &&& m)))) ∧
  (∀ (s : State) (h : Hdr) (r : Role) (m v : Word), Accepts (Op.plain 0x1001 .viewer) h s.hw →
    Room s.hw 1 → s.hw.roleOf h = some r → roleMeets r .operator = true → m &&& 0xFFFFFFE0#32 = 0#32 →
    Performs (.regWrite h SYS_TISTAT m.toNat v.toNat) h 0x1001 s []
      ((s.hw.accept h).setReg SYS_TISTAT (s.hw.reg SYS_TISTAT &&& ~~~(m &&& v)))) ∧
  (∀ (s : State) (h : Hdr) (r : Role) (v w : Word), Accepts (Op.sized 0x1002 .viewer (8 + 4 * 2)) h s.hw →
    Room s.hw 2 → s.hw.roleOf h = some r → roleMeets r .engineer = true →
    Performs (.regWriteBlock h NET_MASK [v.toNat, w.toNat]) h 0x1002 s []
      (((s.hw.accept h).setReg NET_MASK v).setReg NET_GW w)) ∧
  (∀ (s : State) (h : Hdr) (a m v : Nat) (w : Window), Accepts (Op.plain 0x1001 .viewer) h s.hw →
    windowOf a = some w → w.writable = false → Refuses (.regWrite h a m v) h 0x1001 s .addrDenied [])

/-- The writes that the operation table lists by themselves: R72, R178, R25, R258, R348, R304. -/
def Obligations.ActionRegisters : Prop :=
  (∀ (s : State) (h : Hdr) (r : Role), Accepts (Op.plain 0x1001 .viewer) h s.hw → Room s.hw 1 →
    s.hw.roleOf h = some r →
    (roleMeets r .engineer = true → s.hw.get SV_USERCTL_TAPS0 ≤ 128 → s.hw.get SV_USERCTL_TAPS1 ≤ 128 →
      firstFail (commitChecks s.hw) = none → Performs (.svUserctlCommit h) h 0x1001 s [] (commitMark (s.hw.accept h))) ∧
    (roleMeets r .engineer = true → s.hw.get SHAPE_CTRL_SHAPE_SRC ≠ 3 → commitBarred s.hw = false →
      ∃ t, exec (.shapeCtrlCommit h) s = .next t ∧
        Keeps s t (SHAPE_CTRL_PEND :: servedFlds) { t.hw with cmd := s.hw.cmd, log := s.hw.log } ∧
        t.hw.flag SHAPE_CTRL_PEND = true ∧ Replied t.hw h 0x1001 .ok []) ∧
    (roleMeets r .operator = true → Performs (.sysTlmaxClr h) h 0x1001 s []
      (((s.hw.accept h).put SYS_TLMAX_SEQ_DONE_MAX 0).put SYS_TLMAX_SIEVE_DONE_MAX 0)) ∧
    (roleMeets r .operator = true → ∀ m, m < 2 ^ 12 → ∃ t, exec (.lstCommit h m) s = .next t ∧
      Keeps s t (legTimerFlds s.hw ++ servedFlds) { t.hw with lst := s.hw.lst, cmd := s.hw.cmd, log := s.hw.log } ∧
      Replied t.hw h 0x1001 .ok [] ∧
      ∀ n, n < 12 → bitOf m n = true → s.hw.flag (LEGn_CFG_COMMIT_MODE n) = true →
        t.hw.flag (LEGn_STAT_COMMIT_PEND n) = true ∧ (t.hw.legOf n).cmt = 1) ∧
    (roleMeets r .engineer = true → ∀ u, u ≤ 16 → statBad s.hw u = false →
      Performs (.chrHistClr h u) h 0x1001 s [] (statClr u (s.hw.accept h))) ∧
    (roleMeets r .operator = true → ∀ v : Word, Performs (.almInclWrite h v.toNat) h 0x1001 s []
      { s.hw.accept h with time := { s.hw.time with stageLow := some v.toNat } }) ∧
    (roleMeets r .operator = true → (s.hw.view ALM_INCH).toNat < 16 → ∀ v, v < 16 →
      let x := s.hw.incStaged v
      incJudge s.hw x = none → s.hw.logRefuses 0 = false → incNear limRun x = true →
      Performs (.almInchWrite h v) h 0x1001 s []
        (({ s.hw.accept h with time := { s.hw.time with stageLow := none } } : Hw).pushInc ⟨x, none⟩)) ∧
    (roleMeets r .operator = true → (s.hw.view ALM_INCH).toNat < 16 → ∀ v, v < 16 →
      let x := s.hw.incStaged v
      incJudge s.hw x = none → s.hw.logRefuses 0 = false → incNear limRun x = false →
      Waits (.almInchWrite h v) h 0x1001 s .inc
        (({ s.hw.accept h with time := { s.hw.time with stageLow := none } } : Hw).pushInc ⟨x, some (h, 0x1001)⟩)))

/-! ### Supplies, reset, the tick -/

/-- R433 to R437, R445: what raises and ends internal reset, and the cause that it leaves; R41, Table MOD-1: the power-on mode. -/
def Obligations.SuppliesAndReset : Prop :=
  (∀ (s : State) (rs : List RailRise) (r : RailRise),
    let rises := rs.filter fun r => decide (r.rail < 8) && !bitOf s.hw.pwr.up r.rail
    r ∈ rises → ∃ t, exec (.powerUp rs) s = .next t ∧
      Keeps s t [word SYS_RSTCAUSE] { t.hw with pwr := s.hw.pwr, time := s.hw.time } ∧ bitOf t.hw.pwr.up r.rail = true ∧
      (orderBad s.hw.pwr.up rises r = true → t.hw.pwr.hold = true ∧ t.hw.flag SYS_RSTCAUSE_ORDER = true) ∧
      (slewBad r = true → (t.hw.pwr.hold = true ∨ t.hw.pwr.holdAon = true) ∧ t.hw.flag SYS_RSTCAUSE_SLEW = true)) ∧
  (∀ (s : State) (d a n m : Nat), Runs s.hw → d % 256 ≠ 0 → ∃ t, exec (.powerDown d a n m) s = .next t ∧ Resets s t ∧
    (∀ k, k < 8 → bitOf d k = true → bitOf t.hw.pwr.up k = false) ∧
    (bitOf t.hw.pwr.up 0 = true → t.hw.flag SYS_RSTCAUSE_SUPPLY = true) ∧
    (bitOf t.hw.pwr.up 0 = false → t.hw.flag SYS_RSTCAUSE_POR = true ∧ t.hw.time.aonOk = false)) ∧
  (∀ (s : State) (r : Nat), Runs s.hw → r < 8 → ∃ t, exec (.brownOut r) s = .next t ∧ Resets s t ∧
    (r ≠ 0 → t.hw.flag SYS_RSTCAUSE_SUPPLY = true ∧ t.hw.get SYS_RSTCAUSE_RAIL = r) ∧
    (r = 0 → t.hw.reg SYS_RSTCAUSE = 0x8000#32 ∧ t.hw.time.aonOk = false)) ∧
  (∀ (s : State) (ns : Nat) (b : Bool),
    (1000 ≤ ns → ∃ t, exec (.resetNLow ns b) s = .next t ∧ (s.hw.inReset = false → Resets s t) ∧
      (s.hw.inReset = true → Keeps s t [word SYS_RSTCAUSE] t.hw) ∧ t.hw.inReset = true ∧ t.hw.flag SYS_RSTCAUSE_EXT = true) ∧
    (ns < 100 → exec (.resetNLow ns b) s = .next s)) ∧
  (∀ (s : State) (d : Int), 125 < d → s.hw.pwr.hot = false → ∃ t, exec (.thermalLimit d) s = .next t ∧
    (s.hw.inReset = false → Resets s t) ∧ (s.hw.inReset = true → Keeps s t [word SYS_RSTCAUSE] { t.hw with pwr := s.hw.pwr }) ∧
    t.hw.inReset = true ∧ t.hw.pwr.hot = true ∧ t.hw.flag SYS_RSTCAUSE_THERM = true) ∧
  (∀ s : State, Runs s.hw → s.hw.cmd.resetPending = true → ∃ t, exec .softReset s = .next t ∧ Resets s t ∧
    t.hw.flag SYS_RSTCAUSE_SOFT = true) ∧
  (∀ (s : State) (b : BootIn), s.hw.inReset = true → s.hw.pwr.hold = false → s.hw.pwr.holdAon = false → s.hw.pwr.hot = false →
    s.hw.pwr.up = 255 → b.ref % 4 ≠ 3 → ∃ t, exec (.resetRelease b) s = .next t ∧ t.pending = s.pending ∧ t.capture = s.capture ∧
      t.hw.nv = s.hw.nv ∧ t.hw.pwr = s.hw.pwr ∧ t.hw.inReset = false ∧
      t.hw.mode = (if t.hw.strapReeve then 7 else if t.hw.flag SYS_MODE_FW_UNVERIFIED = false ∧ t.hw.flag SYS_MODE_DEVID_MISMATCH = false ∧
        t.hw.flag SYS_MODE_CFG_INVALID = false ∧ t.hw.flag SYS_MODE_SAFETY_UNCONF = false then mBlocked else mCommission))

/-- What the model does at the fixed points of a tick, each by the blocks' own operations in the model's order: TICK_BOUNDARY, for a
running part, one whose core clock is lost and one whose timebase is lost; ADC_STROBE; INPUT_RELEASE; FRAME_RELEASE; STEP_APPLY. -/
def Obligations.TickPoints : Prop :=
  (∀ (s : State) (un ov : List Nat), Runs s.hw → exec (.tickBoundary un ov) s = .next (s.onCap fun hw =>
    let held := un.contains xidSafety
    let b :=
      if hw.time.clockLost then hw
      else if hw.flag ORY_MON_CORE_LOSS then
        let b := spreadBoundary (tickOver ((legsNow hw).put SYS_TISTAT_TI_NOW 0))
        let b := rampTick (legsNow (incBoundary b.mode (blocksBoundary b)))
        { b with twin := { b.twin with hbRun := false } }
      else
        let e := twinEnd (intEnd hw)
        let b := spreadBoundary (intBegin (incSummary (tickOver e)))
        let b := if b.frameStart then (revertFrame b).latch [SYS_IOCFG] else b
        if b.strapReeve then reeveTick (incBoundary b.mode (blocksBoundary b))
        else valveBoundary held b.time.tickStep (e.flag SYS_TISTAT_TI_NOW) b
    ov.foldl (fun s x => cdcOverflow x s) (un.foldl (fun s x => cdcUnstable x s) b))) ∧
  (∀ (s : State) (un ov : List Nat), s.hw.inReset = true → exec (.tickBoundary un ov) s = .next s) ∧
  (∀ s : State, CoreRuns s.hw → s.hw.time.clockLost = false → s.hw.fch.strobe < 16 ∨ s.hw.time.gapTo ≠ none → exec .adcStrobe s =
    .next (s.onCap fun hw => fchStrobe (chrStrobe (hw.atCyc (max hw.time.cyc hw.strobeCyc))))) ∧
  (∀ s : State, Ticking s.hw → ∃ t, exec .inputRelease s = .next t ∧
      Keeps s t [] { t.hw with time := s.hw.time, xram := s.hw.xram, le := s.hw.le, twin := s.hw.twin } ∧
      t.hw.time.cyc = 110 ∧
    (∀ w, w < 0x5010 → t.hw.xrBits w = smapGet 0 s.hw.xin w) ∧ ∀ w, 0x5010 ≤ w → t.hw.xrBits w = s.hw.xrBits w) ∧
  (∀ (s : State) (bad : List Nat) (d : Nat), Ticking s.hw → ∃ t, exec (.frameRelease bad d) s = .next t ∧
      Keeps s t ([SYS_TLMAX_SEQ_DONE_MAX, SYS_TISTAT_CLK_TOL] ++ mismatchFlds 3 ++ legTimerFlds s.hw)
        { t.hw with time := s.hw.time, int := s.hw.int, chr := s.hw.chr, shf := s.hw.shf, twin := s.hw.twin, net := s.hw.net,
                    lst := s.hw.lst } ∧
    t.hw.get SYS_TLMAX_SEQ_DONE_MAX = max (s.hw.get SYS_TLMAX_SEQ_DONE_MAX) (min d 511) ∧
    (221 < d → t.hw.flag SYS_TISTAT_CLK_TOL = true ∧ t.hw.int.tiFail = true)) ∧
  (∀ s : State, Runs s.hw → s.hw.time.clockLost = false → s.hw.time.gapTo = none →
    (∀ p, s.hw.stepDue = some p → s.hw.running = false → p.req.resultBad (s.hw.timeAt (max s.hw.time.cyc 256)).1
      (s.hw.timeAt (max s.hw.time.cyc 256)).2.1 = false → ∃ t, exec .stepApply s = .next t ∧
      KeepsOut s t ([ALM_STAT_SET, ALM_STAT_STEP_DONE, ALM_STAT_STEP_PEND, ALM_STAT_TIME_INVALID, CHR_XSP_STAT_M] ++
          (List.range 4).map (fun k => word (CHR_RECk_STAT k)) ++
          (List.range 32).map (fun d => SVn_TDm_PH_ABORT (d / 16) (d % 16)) ++ logFlds ++ replyFlds)
        { t.hw with time := s.hw.time, chr := s.hw.chr, cmd := s.hw.cmd, log := s.hw.log, sieve := s.hw.sieve, shf := s.hw.shf,
                    vsq := s.hw.vsq } ∧
      t.hw.time.gapTo ≠ none) ∧
    (s.hw.stepDue = none → exec .stepApply s = .next s))

/-- R10, R11: the tick that begins is numbered from the time at which it begins, which is the first cycle that reaches the next multiple of
2 us; the first tick of a frame has a number that 16 divides. -/
def Obligations.TickNumbers : Prop :=
  ∀ s : Hw,
    let t := nextTickBegins s
    t.time.tickNo = (t.time.sec * 500000 + t.time.ns / 2000) % 2 ^ 32 ∧ (t.frameStart = true ↔ t.time.tickNo % 16 = 0) ∧
      t.slowPos = t.time.ns % 1000000 / 2000 ∧ t.ticks = s.ticks + 1 ∧ t.time.cyc = 0 ∧
      (s.time.clockLost = false → s.time.gapTo = none → s.time.ns < 10 ^ 9 → s.time.frac < 2 ^ 32 → s.time.sec < 2 ^ 48 - 1 →
        0 < s.inc → s.inc ≤ 2000 * 2 ^ 32 →
        (t.time.sec * 10 ^ 9 + t.time.ns) / 2000 = (s.time.sec * 10 ^ 9 + s.time.ns) / 2000 + 1 ∧
          (t.time.ns % 2000) * 2 ^ 32 + t.time.frac < s.inc)

/-! ### The block as a whole -/

/-- A step on a queue runs the command at its front on the state with the queue's rest. -/
def Obligations.StepRunsTheFrontCommand : Prop :=
  ∀ (c : Instr) (q : List Instr) (s : State), s.pending = c :: q → step s = exec c { s with pending := q }

/-- The model's choice (log entry 2), with R384: on an empty queue the first held command whose session executes no other runs; where
none may, the block idles. -/
def Obligations.EmptyQueueResumesOrIdles : Prop :=
  (∀ s : State, s.pending = [] → (∀ p ∈ s.hw.cmd.held, heldSession s.hw p.1 = true) → step s = .next s) ∧
  (∀ (s : State) (pre post : List (Nat × Instr)) (k : Nat) (i : Instr), s.pending = [] → s.hw.cmd.held = pre ++ (k, i) :: post →
    (∀ p ∈ pre, heldSession s.hw p.1 = true) → heldSession s.hw k = false →
    step s = exec i { s with hw := { s.hw with cmd := { s.hw.cmd with held := pre ++ post, resuming := true } } })

/-- Every command answers a next state, and none touches the queue. -/
def Obligations.EveryCommandAnswersNext : Prop :=
  ∀ (i : Instr) (s : State), ∃ t, exec i s = .next t ∧ t.pending = s.pending

/-- Every step keeps the capture memory's canonical form: addresses rise, and no byte is listed that reads as an unlisted one does. -/
def Obligations.CaptureMemoryStaysCanonical : Prop :=
  ∀ s t : State, Safe s → step s = .next t → Safe t

/-- The capture memory is canonical at reset, where nothing waits. -/
def Obligations.ResetIsSafe : Prop :=
  Safe State.reset ∧ State.reset.pending = [] ∧ State.reset.capture = []

/-- The register descriptions, Table PKG-12: every register holds its description's reset value, but SYS_RSTCAUSE, where the rise of
VDD_AON has set POR; some of them are named. -/
def Obligations.ResetValues : Prop :=
  (∀ a, a ≠ SYS_RSTCAUSE → State.reset.hw.reg a = regReset a) ∧ State.reset.hw.flag SYS_RSTCAUSE_POR = true ∧
    State.reset.hw.reg SYS_DEVID = 0x46081101#32 ∧ State.reset.hw.get SYS_TICKCFG_LAUNCH_OFS = 900 ∧
    State.reset.hw.inc = 0x3E8000000 ∧ State.reset.hw.reg NET_MASK = 0xFFFFFF00#32 ∧ State.reset.hw.inReset = true

/-- R379, R383, R384, R401: what the checks of Table CMD-3 make of every host command. During reset it is lost; refused, it changes
nothing but its reply; a duplicate is answered again; one whose session executes another is held. -/
def Obligations.HostCommandsPassTheChecksFirst : Prop :=
  ∀ (i : Instr) (s : State) (op : Op) (h : Hdr), hostRow s.hw i = some (op, h) →
    (s.hw.inReset = true → exec i s = .next s) ∧
    (s.hw.inReset = false → s.hw.cmd.resuming = false →
      (∀ st, gate op s.hw h = .fail st → ∃ t, exec i s = .next t ∧ t.pending = s.pending ∧ t.capture = s.capture ∧ Served s.hw t.hw ∧
        t.hw.log = s.hw.log ∧ t.hw.cmd.sessions = s.hw.cmd.sessions ∧ t.hw.cmd.waiting = s.hw.cmd.waiting ∧
        Replied t.hw h op.code st []) ∧
      (∀ r, gate op s.hw h = .again (some r) → exec i s = .next { s with hw := s.hw.deliver r }) ∧
      (gate op s.hw h = .accept → s.hw.sessionBusy h.session = true → op.closes = false → exec i s =
        .next { s with hw := { s.hw.accept h with cmd := { (s.hw.accept h).cmd with held := s.hw.cmd.held ++ [(h.session, i)] } } }))

/-- Steps 1 to 4 of Table CMD-3 pass. -/
abbrev Sys2Proof.Addressed (op : Op) (s : Hw) (h : Hdr) : Prop :=
  s.transportOn h.transport = true ∧ h.version = 1 ∧ h.flags = 0 ∧ h.checkOk = true ∧ h.length ≤ cmdLimit h.transport ∧
    sessionOk op s h = true

/-- R383: a duplicate of one of the newest accepted SEQ values gets its stored reply; any other is stale unless its distance from the
newest lies in 1 to 32,767; acceptance makes it the newest and keeps four; its reply, whatever its status, is stored with it; a
command that is not accepted leaves the session as it was. -/
def Obligations.SequenceNumbers : Prop :=
  (∀ (op : Op) (s : Hw) (h : Hdr) (x : Session), Sys2Proof.Addressed op s h → s.session? h = some x →
    (∀ q, x.recent.find? (fun q => q.seq == h.seq) = some q → gate op s h = .again q.reply) ∧
    (x.recent.find? (fun q => q.seq == h.seq) = none → (gate op s h = .fail .seqStale ↔
      ∃ l, x.last = some l ∧ ¬ (1 ≤ (h.seq + 2 ^ 16 - l) % 2 ^ 16 ∧ (h.seq + 2 ^ 16 - l) % 2 ^ 16 ≤ 32767)))) ∧
  (∀ (s : Hw) (h : Hdr) (x : Session), s.session? h = some x → (s.accept h).session? h =
    some { x with last := some h.seq, recent := (⟨h.seq, none⟩ :: x.recent).take 4, lastTick := s.ticks }) ∧
  (∀ (s : Hw) (h : Hdr) (x : Session) (code : Nat) (st : Status) (data : List Byte), s.session? h = some x → h.session ≠ 0 → code ≠ 1 →
    Fits h data → ∃ r, r.status = st ∧ r.data = data ∧ (s.reply h code st data).session? h = some { x with
      recent := x.recent.map (fun q => if q.seq = h.seq ∧ q.reply = none then { q with reply := some r } else q), lastTick := s.ticks }) ∧
  (∀ (op : Op) (i : Instr) (s : Hw) (h : Hdr) (body : Hw → Done), s.inReset = false → s.cmd.resuming = false →
    gate op s h ≠ .accept → (hostCmd op i h body s).cmd.sessions = s.cmd.sessions)
end

