-- ==== Sys2Proof/Laws/Maps.lean ====
section
/-! SUPPORT. Sparse maps and byte memories: what is read after a write, and that every operation keeps the canonical form. -/

namespace Sys2Proof.Machine

variable {β : Type}

/-! ### Read after write -/

theorem smapErase_cons (p : Nat × β) (m : SMap β) (k : Nat) :
    smapErase (p :: m) k = if p.1 = k then smapErase m k else p :: smapErase m k := by
  by_cases h : p.1 = k <;> simp [smapErase, h]

theorem smapGet_erase_self (d : β) (m : SMap β) (k : Nat) : smapGet d (smapErase m k) k = d := by
  induction m with
  | nil => rfl
  | cons p r ih =>
    rw [smapErase_cons]
    split
    · exact ih
    · rename_i h
      simp [smapGet, h, ih]

theorem smapGet_erase_ne (d : β) (m : SMap β) {k j : Nat} (hj : j ≠ k) : smapGet d (smapErase m k) j = smapGet d m j := by
  induction m with
  | nil => rfl
  | cons p r ih =>
    rw [smapErase_cons]
    split
    · rename_i h
      rw [ih, smapGet, if_neg (by omega)]
    · rw [smapGet, smapGet, ih]

theorem smapGet_insert (d : β) (m : SMap β) (k j : Nat) (v : β) :
    smapGet d (smapInsert (smapErase m k) k v) j = if j = k then v else smapGet d (smapErase m k) j := by
  have key : ∀ n : SMap β, (∀ p ∈ n, p.1 ≠ k) → smapGet d (smapInsert n k v) j = if j = k then v else smapGet d n j := by
    intro n hn
    induction n with
    | nil =>
      by_cases h : j = k
      · subst h; simp [smapInsert, smapGet]
      · simp [smapInsert, smapGet, h, Ne.symm h]
    | cons p r ih =>
      have hp := hn p (by simp)
      have ih := ih (fun q hq => hn q (by simp [hq]))
      unfold smapInsert
      split
      · by_cases h : j = k
        · subst h; simp [smapGet]
        · simp [smapGet, h, Ne.symm h]
      · by_cases h : p.1 = j
        · subst h; simp [smapGet, hp]
        · simp [smapGet, h, ih]
  exact key _ fun p hp => by simpa [smapErase] using (List.mem_filter.mp hp).2

/-- A key reads as what was last written under it; every other key reads as before. -/
theorem smapGet_set [DecidableEq β] (d : β) (m : SMap β) (k j : Nat) (v : β) :
    smapGet d (smapSet d m k v) j = if j = k then v else smapGet d m j := by
  unfold smapSet
  split
  · rename_i h
    by_cases hj : j = k
    · subst hj; simp [smapGet_erase_self, h]
    · simp [hj, smapGet_erase_ne d m hj]
  · rw [smapGet_insert]
    by_cases hj : j = k
    · simp [hj]
    · simp [hj, smapGet_erase_ne d m hj]

@[simp] theorem smapGet_set_self [DecidableEq β] (d : β) (m : SMap β) (k : Nat) (v : β) :
    smapGet d (smapSet d m k v) k = v := by simp [smapGet_set]

/-- Another key reads as before, whatever an unlisted key reads as there. -/
theorem smapGet_set_ne [DecidableEq β] (d e : β) (m : SMap β) {k j : Nat} (v : β) (h : j ≠ k) :
    smapGet e (smapSet d m k v) j = smapGet e m j := by
  unfold smapSet
  split
  · exact smapGet_erase_ne e m h
  · rw [smapGet_insert, if_neg h, smapGet_erase_ne e m h]

theorem memRead_write (m : Memory) (a b : Nat) (v : Byte) :
    memRead (memWrite m a v) b = if b = a then v else memRead m b := smapGet_set _ _ _ _ _

/-- Bytes below and above the written ones read as before. -/
theorem memRead_writeList_out (m : Memory) (a b : Nat) (bs : List Byte) (h : b < a ∨ a + bs.length ≤ b) :
    memRead (memWriteList m a bs) b = memRead m b := by
  induction bs generalizing m a with
  | nil => rfl
  | cons x xs ih =>
    rw [List.length_cons] at h
    rw [memWriteList, ih _ _ (by omega), memRead_write, if_neg (by omega)]

/-- The written bytes read as written. -/
theorem memRead_writeList_in (m : Memory) (a i : Nat) (bs : List Byte) (h : i < bs.length) :
    memRead (memWriteList m a bs) (a + i) = bs[i] := by
  induction bs generalizing m a i with
  | nil => simp at h
  | cons x xs ih =>
    cases i with
    | zero => rw [memWriteList, memRead_writeList_out _ _ _ _ (by omega), memRead_write]; simp
    | succ n =>
      have := ih (memWrite m a x) (a + 1) n (by simpa using h)
      rw [memWriteList, show a + (n + 1) = a + 1 + n by omega, this]; rfl

/-! ### The canonical form -/

/-- The keys of a map rise strictly. -/
def smapRises (m : SMap β) : Prop := m.Pairwise fun p q => p.1 < q.1

theorem smapSorted_iff (m : SMap β) : smapSorted m = true ↔ smapRises m := by
  unfold smapRises
  induction m with
  | nil => simp [smapSorted]
  | cons p r ih =>
    cases r with
    | nil => simp [smapSorted]
    | cons q r =>
      rw [smapSorted, Bool.and_eq_true, ih, decide_eq_true_eq, List.pairwise_cons (a := p)]
      constructor
      · rintro ⟨h, hr⟩
        refine ⟨fun x hx => ?_, hr⟩
        rcases List.mem_cons.mp hx with rfl | hx
        · exact h
        · exact Nat.lt_trans h ((List.pairwise_cons.mp hr).1 x hx)
      · rintro ⟨h, hr⟩
        exact ⟨h q (by simp), hr⟩

theorem smapWf_iff [DecidableEq β] (d : Nat → β) (m : SMap β) :
    smapWf d m = true ↔ smapRises m ∧ ∀ p ∈ m, p.2 ≠ d p.1 := by
  simp [smapWf, smapSorted_iff]

theorem smapRises_filter {m : SMap β} (h : smapRises m) (f : Nat × β → Bool) : smapRises (m.filter f) :=
  List.Pairwise.sublist List.filter_sublist h

theorem mem_smapInsert {m : SMap β} {k : Nat} {v : β} {p : Nat × β} : p ∈ smapInsert m k v → p = (k, v) ∨ p ∈ m := by
  induction m with
  | nil => simp [smapInsert]
  | cons q r ih =>
    unfold smapInsert
    split
    · intro h; simpa using h
    · intro h
      rcases List.mem_cons.mp h with h | h
      · exact Or.inr (by simp [h])
      · rcases ih h with h | h
        · exact Or.inl h
        · exact Or.inr (by simp [h])

theorem smapRises_insert {m : SMap β} (h : smapRises m) {k : Nat} (hk : ∀ p ∈ m, p.1 ≠ k) (v : β) :
    smapRises (smapInsert m k v) := by
  unfold smapRises at *
  induction m with
  | nil => simp [smapInsert]
  | cons q r ih =>
    have hq := hk q (by simp)
    rw [List.pairwise_cons] at h
    unfold smapInsert
    split
    · rename_i hlt
      rw [List.pairwise_cons, List.pairwise_cons]
      refine ⟨fun x hx => ?_, h⟩
      rcases List.mem_cons.mp hx with rfl | hx
      · exact hlt
      · exact Nat.lt_trans hlt (h.1 x hx)
    · rename_i hge
      rw [List.pairwise_cons]
      refine ⟨fun x hx => ?_, ih h.2 (fun p hp => hk p (by simp [hp]))⟩
      rcases mem_smapInsert hx with rfl | hx
      · exact Nat.lt_of_le_of_ne (Nat.not_lt.mp hge) hq
      · exact h.1 x hx

/-- A write keeps the canonical form. -/
theorem smapWf_set [DecidableEq β] (d : Nat → β) {m : SMap β} (h : smapWf d m = true) (k : Nat) (v : β) :
    smapWf d (smapSet (d k) m k v) = true := by
  rw [smapWf_iff] at *
  obtain ⟨hr, hd⟩ := h
  have he : ∀ p ∈ smapErase m k, p.1 ≠ k ∧ p.2 ≠ d p.1 := fun p hp => by
    obtain ⟨h1, h2⟩ := List.mem_filter.mp hp
    exact ⟨by simpa using h2, hd p h1⟩
  unfold smapSet
  split
  · exact ⟨smapRises_filter hr _, fun p hp => (he p hp).2⟩
  · rename_i hv
    refine ⟨smapRises_insert (smapRises_filter hr _) (fun p hp => (he p hp).1) v, fun p hp => ?_⟩
    rcases mem_smapInsert hp with rfl | hp
    · exact hv
    · exact (he p hp).2

theorem memWf_write {m : Memory} (h : memWf m = true) (a : Nat) (v : Byte) : memWf (memWrite m a v) = true :=
  smapWf_set (fun _ => unlistedByte) h a v

theorem memWf_writeList {m : Memory} (h : memWf m = true) (a : Nat) (bs : List Byte) : memWf (memWriteList m a bs) = true := by
  induction bs generalizing m a with
  | nil => exact h
  | cons b bs ih => exact ih (memWf_write h a b) (a + 1)

theorem memWf_put {m : Memory} (h : memWf m = true) (a n v : Nat) : memWf (memPut m a n v) = true := memWf_writeList h a _

theorem memWf_zero {m : Memory} (h : memWf m = true) (a n : Nat) : memWf (memZero m a n) = true := by
  rw [memWf, smapWf_iff] at *
  exact ⟨smapRises_filter h.1 _, fun p hp => h.2 p (List.mem_filter.mp hp).1⟩

/-- Every access to the capture memory keeps its canonical form. -/
theorem memWf_capDo {m : Memory} (h : memWf m = true) (c : CapOp) : memWf (capDo m c) = true := by
  cases c with
  | put a bs => exact memWf_writeList h a bs
  | count a => exact memWf_put h a _ _
  | zero a n => exact memWf_zero h a n

theorem memWf_capAll {m : Memory} (h : memWf m = true) (cs : List CapOp) : memWf (cs.foldl capDo m) = true := by
  induction cs generalizing m with
  | nil => exact h
  | cons c cs ih => exact ih (memWf_capDo h c)

end Sys2Proof.Machine
end

