-- ==== Sys2Proof/Laws/State.lean ====
section
/-! SUPPORT. What each named update of the state leaves alone, one lemma for each field, true by unfolding; and what it writes. -/

namespace Sys2Proof.Machine

/-! ### The state: queue, part, capture memory -/

@[simp] theorem State.onHw_pending (s : State) (f : Hw → Hw) : (s.onHw f).pending = s.pending := rfl
@[simp] theorem State.onReset_pending (s : State) (f : Hw → Hw) : (s.onReset f).pending = s.pending := rfl
@[simp] theorem State.onCap_pending (s : State) (f : Hw → Hw) : (s.onCap f).pending = s.pending := rfl
@[simp] theorem State.onHw_hw (s : State) (f : Hw → Hw) : (s.onHw f).hw = f s.hw := rfl
@[simp] theorem State.onHw_capture (s : State) (f : Hw → Hw) : (s.onHw f).capture = s.capture := rfl
@[simp] theorem State.onReset_hw (s : State) (f : Hw → Hw) : (s.onReset f).hw = f s.hw := rfl
@[simp] theorem State.onRefresh_pending (s : State) (f : Hw → Hw) : (s.onRefresh f).pending = s.pending := by
  simp only [State.onRefresh]
  by_cases h : (s.hw.chr.stall && !(f s.hw).chr.stall) = true
  · rw [if_pos h]
  · rw [if_neg h]
theorem State.onCap_hw (s : State) (f : Hw → Hw) : (s.onCap f).hw = { f s.hw with chr := { (f s.hw).chr with
    acc := s.hw.chr.acc ++ (capNew s.hw.chr (f s.hw).chr).filter (f s.hw).chr.waits } } := rfl
theorem State.onCap_capture (s : State) (f : Hw → Hw) : (s.onCap f).capture =
    ((capNew s.hw.chr (f s.hw).chr).filter fun o => !(f s.hw).chr.waits o).foldl capDo s.capture := rfl
/-- A change that asks for no access to capture memory. -/
theorem State.onCap_of_no_access (s : State) (f : Hw → Hw) (h : (f s.hw).chr.acc = s.hw.chr.acc) : s.onCap f = { s with hw := f s.hw } := by
  have e : capNew s.hw.chr (f s.hw).chr = [] := by rw [capNew, h, List.drop_length]
  simp only [State.onCap, e, List.filter_nil, List.foldl_nil, List.append_nil]
  rw [← h]

/-! ### A register written -/

@[simp] theorem Hw.setReg_regs (s : Hw) (a : Nat) (v : Word) : (s.setReg a v).regs = smapSet (regReset a) s.regs a v := rfl
@[simp] theorem Hw.setReg_strapReeve (s : Hw) (a : Nat) (v : Word) : (s.setReg a v).strapReeve = s.strapReeve := rfl
@[simp] theorem Hw.setReg_strapTwinB (s : Hw) (a : Nat) (v : Word) : (s.setReg a v).strapTwinB = s.strapTwinB := rfl
@[simp] theorem Hw.setReg_strapRef (s : Hw) (a : Nat) (v : Word) : (s.setReg a v).strapRef = s.strapRef := rfl
@[simp] theorem Hw.setReg_time (s : Hw) (a : Nat) (v : Word) : (s.setReg a v).time = s.time := rfl
@[simp] theorem Hw.setReg_cmd (s : Hw) (a : Nat) (v : Word) : (s.setReg a v).cmd = s.cmd := rfl
@[simp] theorem Hw.setReg_log (s : Hw) (a : Nat) (v : Word) : (s.setReg a v).log = s.log := rfl
@[simp] theorem Hw.setReg_nv (s : Hw) (a : Nat) (v : Word) : (s.setReg a v).nv = s.nv := rfl
@[simp] theorem Hw.setReg_sto (s : Hw) (a : Nat) (v : Word) : (s.setReg a v).sto = s.sto := rfl
@[simp] theorem Hw.setReg_ops (s : Hw) (a : Nat) (v : Word) : (s.setReg a v).ops = s.ops := rfl
@[simp] theorem Hw.setReg_twin (s : Hw) (a : Nat) (v : Word) : (s.setReg a v).twin = s.twin := rfl
@[simp] theorem Hw.setReg_reeve (s : Hw) (a : Nat) (v : Word) : (s.setReg a v).reeve = s.reeve := rfl
@[simp] theorem Hw.setReg_xarr (s : Hw) (a : Nat) (v : Word) : (s.setReg a v).xarr = s.xarr := rfl
@[simp] theorem Hw.setReg_xin (s : Hw) (a : Nat) (v : Word) : (s.setReg a v).xin = s.xin := rfl
@[simp] theorem Hw.setReg_live (s : Hw) (a : Nat) (v : Word) : (s.setReg a v).live = s.live := rfl
@[simp] theorem Hw.setReg_staged (s : Hw) (a : Nat) (v : Word) : (s.setReg a v).staged = s.staged := rfl
@[simp] theorem Hw.setReg_xram (s : Hw) (a : Nat) (v : Word) : (s.setReg a v).xram = s.xram := rfl
@[simp] theorem Hw.setReg_trg (s : Hw) (a : Nat) (v : Word) : (s.setReg a v).trg = s.trg := rfl
@[simp] theorem Hw.setReg_int (s : Hw) (a : Nat) (v : Word) : (s.setReg a v).int = s.int := rfl
@[simp] theorem Hw.setReg_fch (s : Hw) (a : Nat) (v : Word) : (s.setReg a v).fch = s.fch := rfl
@[simp] theorem Hw.setReg_hkc (s : Hw) (a : Nat) (v : Word) : (s.setReg a v).hkc = s.hkc := rfl
@[simp] theorem Hw.setReg_sieve (s : Hw) (a : Nat) (v : Word) : (s.setReg a v).sieve = s.sieve := rfl
@[simp] theorem Hw.setReg_le (s : Hw) (a : Nat) (v : Word) : (s.setReg a v).le = s.le := rfl
@[simp] theorem Hw.setReg_ramp (s : Hw) (a : Nat) (v : Word) : (s.setReg a v).ramp = s.ramp := rfl
@[simp] theorem Hw.setReg_vsq (s : Hw) (a : Nat) (v : Word) : (s.setReg a v).vsq = s.vsq := rfl
@[simp] theorem Hw.setReg_shf (s : Hw) (a : Nat) (v : Word) : (s.setReg a v).shf = s.shf := rfl
@[simp] theorem Hw.setReg_lst (s : Hw) (a : Nat) (v : Word) : (s.setReg a v).lst = s.lst := rfl
@[simp] theorem Hw.setReg_ory (s : Hw) (a : Nat) (v : Word) : (s.setReg a v).ory = s.ory := rfl
@[simp] theorem Hw.setReg_chr (s : Hw) (a : Nat) (v : Word) : (s.setReg a v).chr = s.chr := rfl
@[simp] theorem Hw.setReg_saf (s : Hw) (a : Nat) (v : Word) : (s.setReg a v).saf = s.saf := rfl
@[simp] theorem Hw.setReg_net (s : Hw) (a : Nat) (v : Word) : (s.setReg a v).net = s.net := rfl
@[simp] theorem Hw.setReg_pwr (s : Hw) (a : Nat) (v : Word) : (s.setReg a v).pwr = s.pwr := rfl
@[simp] theorem Hw.setReg_inReset (s : Hw) (a : Nat) (v : Word) : (s.setReg a v).inReset = s.inReset := rfl
@[simp] theorem Hw.setReg_free (s : Hw) (a : Nat) (v : Word) : (s.setReg a v).free = s.free := rfl

/-! ### A field written -/

@[simp] theorem Hw.put_strapReeve (s : Hw) (f : Fld) (v : Nat) : (s.put f v).strapReeve = s.strapReeve := rfl
@[simp] theorem Hw.put_strapTwinB (s : Hw) (f : Fld) (v : Nat) : (s.put f v).strapTwinB = s.strapTwinB := rfl
@[simp] theorem Hw.put_strapRef (s : Hw) (f : Fld) (v : Nat) : (s.put f v).strapRef = s.strapRef := rfl
@[simp] theorem Hw.put_time (s : Hw) (f : Fld) (v : Nat) : (s.put f v).time = s.time := rfl
@[simp] theorem Hw.put_cmd (s : Hw) (f : Fld) (v : Nat) : (s.put f v).cmd = s.cmd := rfl
@[simp] theorem Hw.put_log (s : Hw) (f : Fld) (v : Nat) : (s.put f v).log = s.log := rfl
@[simp] theorem Hw.put_nv (s : Hw) (f : Fld) (v : Nat) : (s.put f v).nv = s.nv := rfl
@[simp] theorem Hw.put_sto (s : Hw) (f : Fld) (v : Nat) : (s.put f v).sto = s.sto := rfl
@[simp] theorem Hw.put_ops (s : Hw) (f : Fld) (v : Nat) : (s.put f v).ops = s.ops := rfl
@[simp] theorem Hw.put_twin (s : Hw) (f : Fld) (v : Nat) : (s.put f v).twin = s.twin := rfl
@[simp] theorem Hw.put_reeve (s : Hw) (f : Fld) (v : Nat) : (s.put f v).reeve = s.reeve := rfl
@[simp] theorem Hw.put_xarr (s : Hw) (f : Fld) (v : Nat) : (s.put f v).xarr = s.xarr := rfl
@[simp] theorem Hw.put_xin (s : Hw) (f : Fld) (v : Nat) : (s.put f v).xin = s.xin := rfl
@[simp] theorem Hw.put_live (s : Hw) (f : Fld) (v : Nat) : (s.put f v).live = s.live := rfl
@[simp] theorem Hw.put_staged (s : Hw) (f : Fld) (v : Nat) : (s.put f v).staged = s.staged := rfl
@[simp] theorem Hw.put_xram (s : Hw) (f : Fld) (v : Nat) : (s.put f v).xram = s.xram := rfl
@[simp] theorem Hw.put_trg (s : Hw) (f : Fld) (v : Nat) : (s.put f v).trg = s.trg := rfl
@[simp] theorem Hw.put_int (s : Hw) (f : Fld) (v : Nat) : (s.put f v).int = s.int := rfl
@[simp] theorem Hw.put_fch (s : Hw) (f : Fld) (v : Nat) : (s.put f v).fch = s.fch := rfl
@[simp] theorem Hw.put_hkc (s : Hw) (f : Fld) (v : Nat) : (s.put f v).hkc = s.hkc := rfl
@[simp] theorem Hw.put_sieve (s : Hw) (f : Fld) (v : Nat) : (s.put f v).sieve = s.sieve := rfl
@[simp] theorem Hw.put_le (s : Hw) (f : Fld) (v : Nat) : (s.put f v).le = s.le := rfl
@[simp] theorem Hw.put_ramp (s : Hw) (f : Fld) (v : Nat) : (s.put f v).ramp = s.ramp := rfl
@[simp] theorem Hw.put_vsq (s : Hw) (f : Fld) (v : Nat) : (s.put f v).vsq = s.vsq := rfl
@[simp] theorem Hw.put_shf (s : Hw) (f : Fld) (v : Nat) : (s.put f v).shf = s.shf := rfl
@[simp] theorem Hw.put_lst (s : Hw) (f : Fld) (v : Nat) : (s.put f v).lst = s.lst := rfl
@[simp] theorem Hw.put_ory (s : Hw) (f : Fld) (v : Nat) : (s.put f v).ory = s.ory := rfl
@[simp] theorem Hw.put_chr (s : Hw) (f : Fld) (v : Nat) : (s.put f v).chr = s.chr := rfl
@[simp] theorem Hw.put_saf (s : Hw) (f : Fld) (v : Nat) : (s.put f v).saf = s.saf := rfl
@[simp] theorem Hw.put_net (s : Hw) (f : Fld) (v : Nat) : (s.put f v).net = s.net := rfl
@[simp] theorem Hw.put_pwr (s : Hw) (f : Fld) (v : Nat) : (s.put f v).pwr = s.pwr := rfl
@[simp] theorem Hw.put_inReset (s : Hw) (f : Fld) (v : Nat) : (s.put f v).inReset = s.inReset := rfl
@[simp] theorem Hw.put_free (s : Hw) (f : Fld) (v : Nat) : (s.put f v).free = s.free := rfl

/-! ### `onLe` -/

@[simp] theorem Hw.onLe_le (s : Hw) (f : ClusterSt → ClusterSt) : (s.onLe f).le = f s.le := rfl
@[simp] theorem Hw.onLe_regs (s : Hw) (f : ClusterSt → ClusterSt) : (s.onLe f).regs = s.regs := rfl
@[simp] theorem Hw.onLe_strapReeve (s : Hw) (f : ClusterSt → ClusterSt) : (s.onLe f).strapReeve = s.strapReeve := rfl
@[simp] theorem Hw.onLe_strapTwinB (s : Hw) (f : ClusterSt → ClusterSt) : (s.onLe f).strapTwinB = s.strapTwinB := rfl
@[simp] theorem Hw.onLe_strapRef (s : Hw) (f : ClusterSt → ClusterSt) : (s.onLe f).strapRef = s.strapRef := rfl
@[simp] theorem Hw.onLe_time (s : Hw) (f : ClusterSt → ClusterSt) : (s.onLe f).time = s.time := rfl
@[simp] theorem Hw.onLe_cmd (s : Hw) (f : ClusterSt → ClusterSt) : (s.onLe f).cmd = s.cmd := rfl
@[simp] theorem Hw.onLe_log (s : Hw) (f : ClusterSt → ClusterSt) : (s.onLe f).log = s.log := rfl
@[simp] theorem Hw.onLe_nv (s : Hw) (f : ClusterSt → ClusterSt) : (s.onLe f).nv = s.nv := rfl
@[simp] theorem Hw.onLe_sto (s : Hw) (f : ClusterSt → ClusterSt) : (s.onLe f).sto = s.sto := rfl
@[simp] theorem Hw.onLe_ops (s : Hw) (f : ClusterSt → ClusterSt) : (s.onLe f).ops = s.ops := rfl
@[simp] theorem Hw.onLe_twin (s : Hw) (f : ClusterSt → ClusterSt) : (s.onLe f).twin = s.twin := rfl
@[simp] theorem Hw.onLe_reeve (s : Hw) (f : ClusterSt → ClusterSt) : (s.onLe f).reeve = s.reeve := rfl
@[simp] theorem Hw.onLe_xarr (s : Hw) (f : ClusterSt → ClusterSt) : (s.onLe f).xarr = s.xarr := rfl
@[simp] theorem Hw.onLe_xin (s : Hw) (f : ClusterSt → ClusterSt) : (s.onLe f).xin = s.xin := rfl
@[simp] theorem Hw.onLe_live (s : Hw) (f : ClusterSt → ClusterSt) : (s.onLe f).live = s.live := rfl
@[simp] theorem Hw.onLe_staged (s : Hw) (f : ClusterSt → ClusterSt) : (s.onLe f).staged = s.staged := rfl
@[simp] theorem Hw.onLe_xram (s : Hw) (f : ClusterSt → ClusterSt) : (s.onLe f).xram = s.xram := rfl
@[simp] theorem Hw.onLe_trg (s : Hw) (f : ClusterSt → ClusterSt) : (s.onLe f).trg = s.trg := rfl
@[simp] theorem Hw.onLe_int (s : Hw) (f : ClusterSt → ClusterSt) : (s.onLe f).int = s.int := rfl
@[simp] theorem Hw.onLe_fch (s : Hw) (f : ClusterSt → ClusterSt) : (s.onLe f).fch = s.fch := rfl
@[simp] theorem Hw.onLe_hkc (s : Hw) (f : ClusterSt → ClusterSt) : (s.onLe f).hkc = s.hkc := rfl
@[simp] theorem Hw.onLe_sieve (s : Hw) (f : ClusterSt → ClusterSt) : (s.onLe f).sieve = s.sieve := rfl
@[simp] theorem Hw.onLe_ramp (s : Hw) (f : ClusterSt → ClusterSt) : (s.onLe f).ramp = s.ramp := rfl
@[simp] theorem Hw.onLe_vsq (s : Hw) (f : ClusterSt → ClusterSt) : (s.onLe f).vsq = s.vsq := rfl
@[simp] theorem Hw.onLe_shf (s : Hw) (f : ClusterSt → ClusterSt) : (s.onLe f).shf = s.shf := rfl
@[simp] theorem Hw.onLe_lst (s : Hw) (f : ClusterSt → ClusterSt) : (s.onLe f).lst = s.lst := rfl
@[simp] theorem Hw.onLe_ory (s : Hw) (f : ClusterSt → ClusterSt) : (s.onLe f).ory = s.ory := rfl
@[simp] theorem Hw.onLe_chr (s : Hw) (f : ClusterSt → ClusterSt) : (s.onLe f).chr = s.chr := rfl
@[simp] theorem Hw.onLe_saf (s : Hw) (f : ClusterSt → ClusterSt) : (s.onLe f).saf = s.saf := rfl
@[simp] theorem Hw.onLe_net (s : Hw) (f : ClusterSt → ClusterSt) : (s.onLe f).net = s.net := rfl
@[simp] theorem Hw.onLe_pwr (s : Hw) (f : ClusterSt → ClusterSt) : (s.onLe f).pwr = s.pwr := rfl
@[simp] theorem Hw.onLe_inReset (s : Hw) (f : ClusterSt → ClusterSt) : (s.onLe f).inReset = s.inReset := rfl
@[simp] theorem Hw.onLe_free (s : Hw) (f : ClusterSt → ClusterSt) : (s.onLe f).free = s.free := rfl

/-! ### `onFch` -/

@[simp] theorem Hw.onFch_fch (s : Hw) (f : FchSt → FchSt) : (s.onFch f).fch = f s.fch := rfl
@[simp] theorem Hw.onFch_regs (s : Hw) (f : FchSt → FchSt) : (s.onFch f).regs = s.regs := rfl
@[simp] theorem Hw.onFch_strapReeve (s : Hw) (f : FchSt → FchSt) : (s.onFch f).strapReeve = s.strapReeve := rfl
@[simp] theorem Hw.onFch_strapTwinB (s : Hw) (f : FchSt → FchSt) : (s.onFch f).strapTwinB = s.strapTwinB := rfl
@[simp] theorem Hw.onFch_strapRef (s : Hw) (f : FchSt → FchSt) : (s.onFch f).strapRef = s.strapRef := rfl
@[simp] theorem Hw.onFch_time (s : Hw) (f : FchSt → FchSt) : (s.onFch f).time = s.time := rfl
@[simp] theorem Hw.onFch_cmd (s : Hw) (f : FchSt → FchSt) : (s.onFch f).cmd = s.cmd := rfl
@[simp] theorem Hw.onFch_log (s : Hw) (f : FchSt → FchSt) : (s.onFch f).log = s.log := rfl
@[simp] theorem Hw.onFch_nv (s : Hw) (f : FchSt → FchSt) : (s.onFch f).nv = s.nv := rfl
@[simp] theorem Hw.onFch_sto (s : Hw) (f : FchSt → FchSt) : (s.onFch f).sto = s.sto := rfl
@[simp] theorem Hw.onFch_ops (s : Hw) (f : FchSt → FchSt) : (s.onFch f).ops = s.ops := rfl
@[simp] theorem Hw.onFch_twin (s : Hw) (f : FchSt → FchSt) : (s.onFch f).twin = s.twin := rfl
@[simp] theorem Hw.onFch_reeve (s : Hw) (f : FchSt → FchSt) : (s.onFch f).reeve = s.reeve := rfl
@[simp] theorem Hw.onFch_xarr (s : Hw) (f : FchSt → FchSt) : (s.onFch f).xarr = s.xarr := rfl
@[simp] theorem Hw.onFch_xin (s : Hw) (f : FchSt → FchSt) : (s.onFch f).xin = s.xin := rfl
@[simp] theorem Hw.onFch_live (s : Hw) (f : FchSt → FchSt) : (s.onFch f).live = s.live := rfl
@[simp] theorem Hw.onFch_staged (s : Hw) (f : FchSt → FchSt) : (s.onFch f).staged = s.staged := rfl
@[simp] theorem Hw.onFch_xram (s : Hw) (f : FchSt → FchSt) : (s.onFch f).xram = s.xram := rfl
@[simp] theorem Hw.onFch_trg (s : Hw) (f : FchSt → FchSt) : (s.onFch f).trg = s.trg := rfl
@[simp] theorem Hw.onFch_int (s : Hw) (f : FchSt → FchSt) : (s.onFch f).int = s.int := rfl
@[simp] theorem Hw.onFch_hkc (s : Hw) (f : FchSt → FchSt) : (s.onFch f).hkc = s.hkc := rfl
@[simp] theorem Hw.onFch_sieve (s : Hw) (f : FchSt → FchSt) : (s.onFch f).sieve = s.sieve := rfl
@[simp] theorem Hw.onFch_le (s : Hw) (f : FchSt → FchSt) : (s.onFch f).le = s.le := rfl
@[simp] theorem Hw.onFch_ramp (s : Hw) (f : FchSt → FchSt) : (s.onFch f).ramp = s.ramp := rfl
@[simp] theorem Hw.onFch_vsq (s : Hw) (f : FchSt → FchSt) : (s.onFch f).vsq = s.vsq := rfl
@[simp] theorem Hw.onFch_shf (s : Hw) (f : FchSt → FchSt) : (s.onFch f).shf = s.shf := rfl
@[simp] theorem Hw.onFch_lst (s : Hw) (f : FchSt → FchSt) : (s.onFch f).lst = s.lst := rfl
@[simp] theorem Hw.onFch_ory (s : Hw) (f : FchSt → FchSt) : (s.onFch f).ory = s.ory := rfl
@[simp] theorem Hw.onFch_chr (s : Hw) (f : FchSt → FchSt) : (s.onFch f).chr = s.chr := rfl
@[simp] theorem Hw.onFch_saf (s : Hw) (f : FchSt → FchSt) : (s.onFch f).saf = s.saf := rfl
@[simp] theorem Hw.onFch_net (s : Hw) (f : FchSt → FchSt) : (s.onFch f).net = s.net := rfl
@[simp] theorem Hw.onFch_pwr (s : Hw) (f : FchSt → FchSt) : (s.onFch f).pwr = s.pwr := rfl
@[simp] theorem Hw.onFch_inReset (s : Hw) (f : FchSt → FchSt) : (s.onFch f).inReset = s.inReset := rfl
@[simp] theorem Hw.onFch_free (s : Hw) (f : FchSt → FchSt) : (s.onFch f).free = s.free := rfl

/-! ### `onSieve` -/

@[simp] theorem Hw.onSieve_sieve (s : Hw) (f : SieveSt → SieveSt) : (s.onSieve f).sieve = f s.sieve := rfl
@[simp] theorem Hw.onSieve_regs (s : Hw) (f : SieveSt → SieveSt) : (s.onSieve f).regs = s.regs := rfl
@[simp] theorem Hw.onSieve_strapReeve (s : Hw) (f : SieveSt → SieveSt) : (s.onSieve f).strapReeve = s.strapReeve := rfl
@[simp] theorem Hw.onSieve_strapTwinB (s : Hw) (f : SieveSt → SieveSt) : (s.onSieve f).strapTwinB = s.strapTwinB := rfl
@[simp] theorem Hw.onSieve_strapRef (s : Hw) (f : SieveSt → SieveSt) : (s.onSieve f).strapRef = s.strapRef := rfl
@[simp] theorem Hw.onSieve_time (s : Hw) (f : SieveSt → SieveSt) : (s.onSieve f).time = s.time := rfl
@[simp] theorem Hw.onSieve_cmd (s : Hw) (f : SieveSt → SieveSt) : (s.onSieve f).cmd = s.cmd := rfl
@[simp] theorem Hw.onSieve_log (s : Hw) (f : SieveSt → SieveSt) : (s.onSieve f).log = s.log := rfl
@[simp] theorem Hw.onSieve_nv (s : Hw) (f : SieveSt → SieveSt) : (s.onSieve f).nv = s.nv := rfl
@[simp] theorem Hw.onSieve_sto (s : Hw) (f : SieveSt → SieveSt) : (s.onSieve f).sto = s.sto := rfl
@[simp] theorem Hw.onSieve_ops (s : Hw) (f : SieveSt → SieveSt) : (s.onSieve f).ops = s.ops := rfl
@[simp] theorem Hw.onSieve_twin (s : Hw) (f : SieveSt → SieveSt) : (s.onSieve f).twin = s.twin := rfl
@[simp] theorem Hw.onSieve_reeve (s : Hw) (f : SieveSt → SieveSt) : (s.onSieve f).reeve = s.reeve := rfl
@[simp] theorem Hw.onSieve_xarr (s : Hw) (f : SieveSt → SieveSt) : (s.onSieve f).xarr = s.xarr := rfl
@[simp] theorem Hw.onSieve_xin (s : Hw) (f : SieveSt → SieveSt) : (s.onSieve f).xin = s.xin := rfl
@[simp] theorem Hw.onSieve_live (s : Hw) (f : SieveSt → SieveSt) : (s.onSieve f).live = s.live := rfl
@[simp] theorem Hw.onSieve_staged (s : Hw) (f : SieveSt → SieveSt) : (s.onSieve f).staged = s.staged := rfl
@[simp] theorem Hw.onSieve_xram (s : Hw) (f : SieveSt → SieveSt) : (s.onSieve f).xram = s.xram := rfl
@[simp] theorem Hw.onSieve_trg (s : Hw) (f : SieveSt → SieveSt) : (s.onSieve f).trg = s.trg := rfl
@[simp] theorem Hw.onSieve_int (s : Hw) (f : SieveSt → SieveSt) : (s.onSieve f).int = s.int := rfl
@[simp] theorem Hw.onSieve_fch (s : Hw) (f : SieveSt → SieveSt) : (s.onSieve f).fch = s.fch := rfl
@[simp] theorem Hw.onSieve_hkc (s : Hw) (f : SieveSt → SieveSt) : (s.onSieve f).hkc = s.hkc := rfl
@[simp] theorem Hw.onSieve_le (s : Hw) (f : SieveSt → SieveSt) : (s.onSieve f).le = s.le := rfl
@[simp] theorem Hw.onSieve_ramp (s : Hw) (f : SieveSt → SieveSt) : (s.onSieve f).ramp = s.ramp := rfl
@[simp] theorem Hw.onSieve_vsq (s : Hw) (f : SieveSt → SieveSt) : (s.onSieve f).vsq = s.vsq := rfl
@[simp] theorem Hw.onSieve_shf (s : Hw) (f : SieveSt → SieveSt) : (s.onSieve f).shf = s.shf := rfl
@[simp] theorem Hw.onSieve_lst (s : Hw) (f : SieveSt → SieveSt) : (s.onSieve f).lst = s.lst := rfl
@[simp] theorem Hw.onSieve_ory (s : Hw) (f : SieveSt → SieveSt) : (s.onSieve f).ory = s.ory := rfl
@[simp] theorem Hw.onSieve_chr (s : Hw) (f : SieveSt → SieveSt) : (s.onSieve f).chr = s.chr := rfl
@[simp] theorem Hw.onSieve_saf (s : Hw) (f : SieveSt → SieveSt) : (s.onSieve f).saf = s.saf := rfl
@[simp] theorem Hw.onSieve_net (s : Hw) (f : SieveSt → SieveSt) : (s.onSieve f).net = s.net := rfl
@[simp] theorem Hw.onSieve_pwr (s : Hw) (f : SieveSt → SieveSt) : (s.onSieve f).pwr = s.pwr := rfl
@[simp] theorem Hw.onSieve_inReset (s : Hw) (f : SieveSt → SieveSt) : (s.onSieve f).inReset = s.inReset := rfl
@[simp] theorem Hw.onSieve_free (s : Hw) (f : SieveSt → SieveSt) : (s.onSieve f).free = s.free := rfl

/-! ### `onChr` -/

@[simp] theorem Hw.onChr_chr (s : Hw) (f : ChrSt → ChrSt) : (s.onChr f).chr = f s.chr := rfl
@[simp] theorem Hw.onChr_regs (s : Hw) (f : ChrSt → ChrSt) : (s.onChr f).regs = s.regs := rfl
@[simp] theorem Hw.onChr_strapReeve (s : Hw) (f : ChrSt → ChrSt) : (s.onChr f).strapReeve = s.strapReeve := rfl
@[simp] theorem Hw.onChr_strapTwinB (s : Hw) (f : ChrSt → ChrSt) : (s.onChr f).strapTwinB = s.strapTwinB := rfl
@[simp] theorem Hw.onChr_strapRef (s : Hw) (f : ChrSt → ChrSt) : (s.onChr f).strapRef = s.strapRef := rfl
@[simp] theorem Hw.onChr_time (s : Hw) (f : ChrSt → ChrSt) : (s.onChr f).time = s.time := rfl
@[simp] theorem Hw.onChr_cmd (s : Hw) (f : ChrSt → ChrSt) : (s.onChr f).cmd = s.cmd := rfl
@[simp] theorem Hw.onChr_log (s : Hw) (f : ChrSt → ChrSt) : (s.onChr f).log = s.log := rfl
@[simp] theorem Hw.onChr_nv (s : Hw) (f : ChrSt → ChrSt) : (s.onChr f).nv = s.nv := rfl
@[simp] theorem Hw.onChr_sto (s : Hw) (f : ChrSt → ChrSt) : (s.onChr f).sto = s.sto := rfl
@[simp] theorem Hw.onChr_ops (s : Hw) (f : ChrSt → ChrSt) : (s.onChr f).ops = s.ops := rfl
@[simp] theorem Hw.onChr_twin (s : Hw) (f : ChrSt → ChrSt) : (s.onChr f).twin = s.twin := rfl
@[simp] theorem Hw.onChr_reeve (s : Hw) (f : ChrSt → ChrSt) : (s.onChr f).reeve = s.reeve := rfl
@[simp] theorem Hw.onChr_xarr (s : Hw) (f : ChrSt → ChrSt) : (s.onChr f).xarr = s.xarr := rfl
@[simp] theorem Hw.onChr_xin (s : Hw) (f : ChrSt → ChrSt) : (s.onChr f).xin = s.xin := rfl
@[simp] theorem Hw.onChr_live (s : Hw) (f : ChrSt → ChrSt) : (s.onChr f).live = s.live := rfl
@[simp] theorem Hw.onChr_staged (s : Hw) (f : ChrSt → ChrSt) : (s.onChr f).staged = s.staged := rfl
@[simp] theorem Hw.onChr_xram (s : Hw) (f : ChrSt → ChrSt) : (s.onChr f).xram = s.xram := rfl
@[simp] theorem Hw.onChr_trg (s : Hw) (f : ChrSt → ChrSt) : (s.onChr f).trg = s.trg := rfl
@[simp] theorem Hw.onChr_int (s : Hw) (f : ChrSt → ChrSt) : (s.onChr f).int = s.int := rfl
@[simp] theorem Hw.onChr_fch (s : Hw) (f : ChrSt → ChrSt) : (s.onChr f).fch = s.fch := rfl
@[simp] theorem Hw.onChr_hkc (s : Hw) (f : ChrSt → ChrSt) : (s.onChr f).hkc = s.hkc := rfl
@[simp] theorem Hw.onChr_sieve (s : Hw) (f : ChrSt → ChrSt) : (s.onChr f).sieve = s.sieve := rfl
@[simp] theorem Hw.onChr_le (s : Hw) (f : ChrSt → ChrSt) : (s.onChr f).le = s.le := rfl
@[simp] theorem Hw.onChr_ramp (s : Hw) (f : ChrSt → ChrSt) : (s.onChr f).ramp = s.ramp := rfl
@[simp] theorem Hw.onChr_vsq (s : Hw) (f : ChrSt → ChrSt) : (s.onChr f).vsq = s.vsq := rfl
@[simp] theorem Hw.onChr_shf (s : Hw) (f : ChrSt → ChrSt) : (s.onChr f).shf = s.shf := rfl
@[simp] theorem Hw.onChr_lst (s : Hw) (f : ChrSt → ChrSt) : (s.onChr f).lst = s.lst := rfl
@[simp] theorem Hw.onChr_ory (s : Hw) (f : ChrSt → ChrSt) : (s.onChr f).ory = s.ory := rfl
@[simp] theorem Hw.onChr_saf (s : Hw) (f : ChrSt → ChrSt) : (s.onChr f).saf = s.saf := rfl
@[simp] theorem Hw.onChr_net (s : Hw) (f : ChrSt → ChrSt) : (s.onChr f).net = s.net := rfl
@[simp] theorem Hw.onChr_pwr (s : Hw) (f : ChrSt → ChrSt) : (s.onChr f).pwr = s.pwr := rfl
@[simp] theorem Hw.onChr_inReset (s : Hw) (f : ChrSt → ChrSt) : (s.onChr f).inReset = s.inReset := rfl
@[simp] theorem Hw.onChr_free (s : Hw) (f : ChrSt → ChrSt) : (s.onChr f).free = s.free := rfl

/-! ### `onSaf` -/

@[simp] theorem Hw.onSaf_saf (s : Hw) (f : SafSt → SafSt) : (s.onSaf f).saf = f s.saf := rfl
@[simp] theorem Hw.onSaf_regs (s : Hw) (f : SafSt → SafSt) : (s.onSaf f).regs = s.regs := rfl
@[simp] theorem Hw.onSaf_strapReeve (s : Hw) (f : SafSt → SafSt) : (s.onSaf f).strapReeve = s.strapReeve := rfl
@[simp] theorem Hw.onSaf_strapTwinB (s : Hw) (f : SafSt → SafSt) : (s.onSaf f).strapTwinB = s.strapTwinB := rfl
@[simp] theorem Hw.onSaf_strapRef (s : Hw) (f : SafSt → SafSt) : (s.onSaf f).strapRef = s.strapRef := rfl
@[simp] theorem Hw.onSaf_time (s : Hw) (f : SafSt → SafSt) : (s.onSaf f).time = s.time := rfl
@[simp] theorem Hw.onSaf_cmd (s : Hw) (f : SafSt → SafSt) : (s.onSaf f).cmd = s.cmd := rfl
@[simp] theorem Hw.onSaf_log (s : Hw) (f : SafSt → SafSt) : (s.onSaf f).log = s.log := rfl
@[simp] theorem Hw.onSaf_nv (s : Hw) (f : SafSt → SafSt) : (s.onSaf f).nv = s.nv := rfl
@[simp] theorem Hw.onSaf_sto (s : Hw) (f : SafSt → SafSt) : (s.onSaf f).sto = s.sto := rfl
@[simp] theorem Hw.onSaf_ops (s : Hw) (f : SafSt → SafSt) : (s.onSaf f).ops = s.ops := rfl
@[simp] theorem Hw.onSaf_twin (s : Hw) (f : SafSt → SafSt) : (s.onSaf f).twin = s.twin := rfl
@[simp] theorem Hw.onSaf_reeve (s : Hw) (f : SafSt → SafSt) : (s.onSaf f).reeve = s.reeve := rfl
@[simp] theorem Hw.onSaf_xarr (s : Hw) (f : SafSt → SafSt) : (s.onSaf f).xarr = s.xarr := rfl
@[simp] theorem Hw.onSaf_xin (s : Hw) (f : SafSt → SafSt) : (s.onSaf f).xin = s.xin := rfl
@[simp] theorem Hw.onSaf_live (s : Hw) (f : SafSt → SafSt) : (s.onSaf f).live = s.live := rfl
@[simp] theorem Hw.onSaf_staged (s : Hw) (f : SafSt → SafSt) : (s.onSaf f).staged = s.staged := rfl
@[simp] theorem Hw.onSaf_xram (s : Hw) (f : SafSt → SafSt) : (s.onSaf f).xram = s.xram := rfl
@[simp] theorem Hw.onSaf_trg (s : Hw) (f : SafSt → SafSt) : (s.onSaf f).trg = s.trg := rfl
@[simp] theorem Hw.onSaf_int (s : Hw) (f : SafSt → SafSt) : (s.onSaf f).int = s.int := rfl
@[simp] theorem Hw.onSaf_fch (s : Hw) (f : SafSt → SafSt) : (s.onSaf f).fch = s.fch := rfl
@[simp] theorem Hw.onSaf_hkc (s : Hw) (f : SafSt → SafSt) : (s.onSaf f).hkc = s.hkc := rfl
@[simp] theorem Hw.onSaf_sieve (s : Hw) (f : SafSt → SafSt) : (s.onSaf f).sieve = s.sieve := rfl
@[simp] theorem Hw.onSaf_le (s : Hw) (f : SafSt → SafSt) : (s.onSaf f).le = s.le := rfl
@[simp] theorem Hw.onSaf_ramp (s : Hw) (f : SafSt → SafSt) : (s.onSaf f).ramp = s.ramp := rfl
@[simp] theorem Hw.onSaf_vsq (s : Hw) (f : SafSt → SafSt) : (s.onSaf f).vsq = s.vsq := rfl
@[simp] theorem Hw.onSaf_shf (s : Hw) (f : SafSt → SafSt) : (s.onSaf f).shf = s.shf := rfl
@[simp] theorem Hw.onSaf_lst (s : Hw) (f : SafSt → SafSt) : (s.onSaf f).lst = s.lst := rfl
@[simp] theorem Hw.onSaf_ory (s : Hw) (f : SafSt → SafSt) : (s.onSaf f).ory = s.ory := rfl
@[simp] theorem Hw.onSaf_chr (s : Hw) (f : SafSt → SafSt) : (s.onSaf f).chr = s.chr := rfl
@[simp] theorem Hw.onSaf_net (s : Hw) (f : SafSt → SafSt) : (s.onSaf f).net = s.net := rfl
@[simp] theorem Hw.onSaf_pwr (s : Hw) (f : SafSt → SafSt) : (s.onSaf f).pwr = s.pwr := rfl
@[simp] theorem Hw.onSaf_inReset (s : Hw) (f : SafSt → SafSt) : (s.onSaf f).inReset = s.inReset := rfl
@[simp] theorem Hw.onSaf_free (s : Hw) (f : SafSt → SafSt) : (s.onSaf f).free = s.free := rfl

/-! ### `onNet` -/

@[simp] theorem Hw.onNet_net (s : Hw) (f : NetSt → NetSt) : (s.onNet f).net = f s.net := rfl
@[simp] theorem Hw.onNet_regs (s : Hw) (f : NetSt → NetSt) : (s.onNet f).regs = s.regs := rfl
@[simp] theorem Hw.onNet_strapReeve (s : Hw) (f : NetSt → NetSt) : (s.onNet f).strapReeve = s.strapReeve := rfl
@[simp] theorem Hw.onNet_strapTwinB (s : Hw) (f : NetSt → NetSt) : (s.onNet f).strapTwinB = s.strapTwinB := rfl
@[simp] theorem Hw.onNet_strapRef (s : Hw) (f : NetSt → NetSt) : (s.onNet f).strapRef = s.strapRef := rfl
@[simp] theorem Hw.onNet_time (s : Hw) (f : NetSt → NetSt) : (s.onNet f).time = s.time := rfl
@[simp] theorem Hw.onNet_cmd (s : Hw) (f : NetSt → NetSt) : (s.onNet f).cmd = s.cmd := rfl
@[simp] theorem Hw.onNet_log (s : Hw) (f : NetSt → NetSt) : (s.onNet f).log = s.log := rfl
@[simp] theorem Hw.onNet_nv (s : Hw) (f : NetSt → NetSt) : (s.onNet f).nv = s.nv := rfl
@[simp] theorem Hw.onNet_sto (s : Hw) (f : NetSt → NetSt) : (s.onNet f).sto = s.sto := rfl
@[simp] theorem Hw.onNet_ops (s : Hw) (f : NetSt → NetSt) : (s.onNet f).ops = s.ops := rfl
@[simp] theorem Hw.onNet_twin (s : Hw) (f : NetSt → NetSt) : (s.onNet f).twin = s.twin := rfl
@[simp] theorem Hw.onNet_reeve (s : Hw) (f : NetSt → NetSt) : (s.onNet f).reeve = s.reeve := rfl
@[simp] theorem Hw.onNet_xarr (s : Hw) (f : NetSt → NetSt) : (s.onNet f).xarr = s.xarr := rfl
@[simp] theorem Hw.onNet_xin (s : Hw) (f : NetSt → NetSt) : (s.onNet f).xin = s.xin := rfl
@[simp] theorem Hw.onNet_live (s : Hw) (f : NetSt → NetSt) : (s.onNet f).live = s.live := rfl
@[simp] theorem Hw.onNet_staged (s : Hw) (f : NetSt → NetSt) : (s.onNet f).staged = s.staged := rfl
@[simp] theorem Hw.onNet_xram (s : Hw) (f : NetSt → NetSt) : (s.onNet f).xram = s.xram := rfl
@[simp] theorem Hw.onNet_trg (s : Hw) (f : NetSt → NetSt) : (s.onNet f).trg = s.trg := rfl
@[simp] theorem Hw.onNet_int (s : Hw) (f : NetSt → NetSt) : (s.onNet f).int = s.int := rfl
@[simp] theorem Hw.onNet_fch (s : Hw) (f : NetSt → NetSt) : (s.onNet f).fch = s.fch := rfl
@[simp] theorem Hw.onNet_hkc (s : Hw) (f : NetSt → NetSt) : (s.onNet f).hkc = s.hkc := rfl
@[simp] theorem Hw.onNet_sieve (s : Hw) (f : NetSt → NetSt) : (s.onNet f).sieve = s.sieve := rfl
@[simp] theorem Hw.onNet_le (s : Hw) (f : NetSt → NetSt) : (s.onNet f).le = s.le := rfl
@[simp] theorem Hw.onNet_ramp (s : Hw) (f : NetSt → NetSt) : (s.onNet f).ramp = s.ramp := rfl
@[simp] theorem Hw.onNet_vsq (s : Hw) (f : NetSt → NetSt) : (s.onNet f).vsq = s.vsq := rfl
@[simp] theorem Hw.onNet_shf (s : Hw) (f : NetSt → NetSt) : (s.onNet f).shf = s.shf := rfl
@[simp] theorem Hw.onNet_lst (s : Hw) (f : NetSt → NetSt) : (s.onNet f).lst = s.lst := rfl
@[simp] theorem Hw.onNet_ory (s : Hw) (f : NetSt → NetSt) : (s.onNet f).ory = s.ory := rfl
@[simp] theorem Hw.onNet_chr (s : Hw) (f : NetSt → NetSt) : (s.onNet f).chr = s.chr := rfl
@[simp] theorem Hw.onNet_saf (s : Hw) (f : NetSt → NetSt) : (s.onNet f).saf = s.saf := rfl
@[simp] theorem Hw.onNet_pwr (s : Hw) (f : NetSt → NetSt) : (s.onNet f).pwr = s.pwr := rfl
@[simp] theorem Hw.onNet_inReset (s : Hw) (f : NetSt → NetSt) : (s.onNet f).inReset = s.inReset := rfl
@[simp] theorem Hw.onNet_free (s : Hw) (f : NetSt → NetSt) : (s.onNet f).free = s.free := rfl

/-! ### `onNv` -/

@[simp] theorem Hw.onNv_nv (s : Hw) (f : NvSt → NvSt) : (s.onNv f).nv = f s.nv := rfl
@[simp] theorem Hw.onNv_regs (s : Hw) (f : NvSt → NvSt) : (s.onNv f).regs = s.regs := rfl
@[simp] theorem Hw.onNv_strapReeve (s : Hw) (f : NvSt → NvSt) : (s.onNv f).strapReeve = s.strapReeve := rfl
@[simp] theorem Hw.onNv_strapTwinB (s : Hw) (f : NvSt → NvSt) : (s.onNv f).strapTwinB = s.strapTwinB := rfl
@[simp] theorem Hw.onNv_strapRef (s : Hw) (f : NvSt → NvSt) : (s.onNv f).strapRef = s.strapRef := rfl
@[simp] theorem Hw.onNv_time (s : Hw) (f : NvSt → NvSt) : (s.onNv f).time = s.time := rfl
@[simp] theorem Hw.onNv_cmd (s : Hw) (f : NvSt → NvSt) : (s.onNv f).cmd = s.cmd := rfl
@[simp] theorem Hw.onNv_log (s : Hw) (f : NvSt → NvSt) : (s.onNv f).log = s.log := rfl
@[simp] theorem Hw.onNv_sto (s : Hw) (f : NvSt → NvSt) : (s.onNv f).sto = s.sto := rfl
@[simp] theorem Hw.onNv_ops (s : Hw) (f : NvSt → NvSt) : (s.onNv f).ops = s.ops := rfl
@[simp] theorem Hw.onNv_twin (s : Hw) (f : NvSt → NvSt) : (s.onNv f).twin = s.twin := rfl
@[simp] theorem Hw.onNv_reeve (s : Hw) (f : NvSt → NvSt) : (s.onNv f).reeve = s.reeve := rfl
@[simp] theorem Hw.onNv_xarr (s : Hw) (f : NvSt → NvSt) : (s.onNv f).xarr = s.xarr := rfl
@[simp] theorem Hw.onNv_xin (s : Hw) (f : NvSt → NvSt) : (s.onNv f).xin = s.xin := rfl
@[simp] theorem Hw.onNv_live (s : Hw) (f : NvSt → NvSt) : (s.onNv f).live = s.live := rfl
@[simp] theorem Hw.onNv_staged (s : Hw) (f : NvSt → NvSt) : (s.onNv f).staged = s.staged := rfl
@[simp] theorem Hw.onNv_xram (s : Hw) (f : NvSt → NvSt) : (s.onNv f).xram = s.xram := rfl
@[simp] theorem Hw.onNv_trg (s : Hw) (f : NvSt → NvSt) : (s.onNv f).trg = s.trg := rfl
@[simp] theorem Hw.onNv_int (s : Hw) (f : NvSt → NvSt) : (s.onNv f).int = s.int := rfl
@[simp] theorem Hw.onNv_fch (s : Hw) (f : NvSt → NvSt) : (s.onNv f).fch = s.fch := rfl
@[simp] theorem Hw.onNv_hkc (s : Hw) (f : NvSt → NvSt) : (s.onNv f).hkc = s.hkc := rfl
@[simp] theorem Hw.onNv_sieve (s : Hw) (f : NvSt → NvSt) : (s.onNv f).sieve = s.sieve := rfl
@[simp] theorem Hw.onNv_le (s : Hw) (f : NvSt → NvSt) : (s.onNv f).le = s.le := rfl
@[simp] theorem Hw.onNv_ramp (s : Hw) (f : NvSt → NvSt) : (s.onNv f).ramp = s.ramp := rfl
@[simp] theorem Hw.onNv_vsq (s : Hw) (f : NvSt → NvSt) : (s.onNv f).vsq = s.vsq := rfl
@[simp] theorem Hw.onNv_shf (s : Hw) (f : NvSt → NvSt) : (s.onNv f).shf = s.shf := rfl
@[simp] theorem Hw.onNv_lst (s : Hw) (f : NvSt → NvSt) : (s.onNv f).lst = s.lst := rfl
@[simp] theorem Hw.onNv_ory (s : Hw) (f : NvSt → NvSt) : (s.onNv f).ory = s.ory := rfl
@[simp] theorem Hw.onNv_chr (s : Hw) (f : NvSt → NvSt) : (s.onNv f).chr = s.chr := rfl
@[simp] theorem Hw.onNv_saf (s : Hw) (f : NvSt → NvSt) : (s.onNv f).saf = s.saf := rfl
@[simp] theorem Hw.onNv_net (s : Hw) (f : NvSt → NvSt) : (s.onNv f).net = s.net := rfl
@[simp] theorem Hw.onNv_pwr (s : Hw) (f : NvSt → NvSt) : (s.onNv f).pwr = s.pwr := rfl
@[simp] theorem Hw.onNv_inReset (s : Hw) (f : NvSt → NvSt) : (s.onNv f).inReset = s.inReset := rfl
@[simp] theorem Hw.onNv_free (s : Hw) (f : NvSt → NvSt) : (s.onNv f).free = s.free := rfl

/-! ### `onSto` -/

@[simp] theorem Hw.onSto_sto (s : Hw) (f : StoSt → StoSt) : (s.onSto f).sto = f s.sto := rfl
@[simp] theorem Hw.onSto_regs (s : Hw) (f : StoSt → StoSt) : (s.onSto f).regs = s.regs := rfl
@[simp] theorem Hw.onSto_strapReeve (s : Hw) (f : StoSt → StoSt) : (s.onSto f).strapReeve = s.strapReeve := rfl
@[simp] theorem Hw.onSto_strapTwinB (s : Hw) (f : StoSt → StoSt) : (s.onSto f).strapTwinB = s.strapTwinB := rfl
@[simp] theorem Hw.onSto_strapRef (s : Hw) (f : StoSt → StoSt) : (s.onSto f).strapRef = s.strapRef := rfl
@[simp] theorem Hw.onSto_time (s : Hw) (f : StoSt → StoSt) : (s.onSto f).time = s.time := rfl
@[simp] theorem Hw.onSto_cmd (s : Hw) (f : StoSt → StoSt) : (s.onSto f).cmd = s.cmd := rfl
@[simp] theorem Hw.onSto_log (s : Hw) (f : StoSt → StoSt) : (s.onSto f).log = s.log := rfl
@[simp] theorem Hw.onSto_nv (s : Hw) (f : StoSt → StoSt) : (s.onSto f).nv = s.nv := rfl
@[simp] theorem Hw.onSto_ops (s : Hw) (f : StoSt → StoSt) : (s.onSto f).ops = s.ops := rfl
@[simp] theorem Hw.onSto_twin (s : Hw) (f : StoSt → StoSt) : (s.onSto f).twin = s.twin := rfl
@[simp] theorem Hw.onSto_reeve (s : Hw) (f : StoSt → StoSt) : (s.onSto f).reeve = s.reeve := rfl
@[simp] theorem Hw.onSto_xarr (s : Hw) (f : StoSt → StoSt) : (s.onSto f).xarr = s.xarr := rfl
@[simp] theorem Hw.onSto_xin (s : Hw) (f : StoSt → StoSt) : (s.onSto f).xin = s.xin := rfl
@[simp] theorem Hw.onSto_live (s : Hw) (f : StoSt → StoSt) : (s.onSto f).live = s.live := rfl
@[simp] theorem Hw.onSto_staged (s : Hw) (f : StoSt → StoSt) : (s.onSto f).staged = s.staged := rfl
@[simp] theorem Hw.onSto_xram (s : Hw) (f : StoSt → StoSt) : (s.onSto f).xram = s.xram := rfl
@[simp] theorem Hw.onSto_trg (s : Hw) (f : StoSt → StoSt) : (s.onSto f).trg = s.trg := rfl
@[simp] theorem Hw.onSto_int (s : Hw) (f : StoSt → StoSt) : (s.onSto f).int = s.int := rfl
@[simp] theorem Hw.onSto_fch (s : Hw) (f : StoSt → StoSt) : (s.onSto f).fch = s.fch := rfl
@[simp] theorem Hw.onSto_hkc (s : Hw) (f : StoSt → StoSt) : (s.onSto f).hkc = s.hkc := rfl
@[simp] theorem Hw.onSto_sieve (s : Hw) (f : StoSt → StoSt) : (s.onSto f).sieve = s.sieve := rfl
@[simp] theorem Hw.onSto_le (s : Hw) (f : StoSt → StoSt) : (s.onSto f).le = s.le := rfl
@[simp] theorem Hw.onSto_ramp (s : Hw) (f : StoSt → StoSt) : (s.onSto f).ramp = s.ramp := rfl
@[simp] theorem Hw.onSto_vsq (s : Hw) (f : StoSt → StoSt) : (s.onSto f).vsq = s.vsq := rfl
@[simp] theorem Hw.onSto_shf (s : Hw) (f : StoSt → StoSt) : (s.onSto f).shf = s.shf := rfl
@[simp] theorem Hw.onSto_lst (s : Hw) (f : StoSt → StoSt) : (s.onSto f).lst = s.lst := rfl
@[simp] theorem Hw.onSto_ory (s : Hw) (f : StoSt → StoSt) : (s.onSto f).ory = s.ory := rfl
@[simp] theorem Hw.onSto_chr (s : Hw) (f : StoSt → StoSt) : (s.onSto f).chr = s.chr := rfl
@[simp] theorem Hw.onSto_saf (s : Hw) (f : StoSt → StoSt) : (s.onSto f).saf = s.saf := rfl
@[simp] theorem Hw.onSto_net (s : Hw) (f : StoSt → StoSt) : (s.onSto f).net = s.net := rfl
@[simp] theorem Hw.onSto_pwr (s : Hw) (f : StoSt → StoSt) : (s.onSto f).pwr = s.pwr := rfl
@[simp] theorem Hw.onSto_inReset (s : Hw) (f : StoSt → StoSt) : (s.onSto f).inReset = s.inReset := rfl
@[simp] theorem Hw.onSto_free (s : Hw) (f : StoSt → StoSt) : (s.onSto f).free = s.free := rfl

/-! ### `onPwr` -/

@[simp] theorem Hw.onPwr_pwr (s : Hw) (f : PwrSt → PwrSt) : (s.onPwr f).pwr = f s.pwr := rfl
@[simp] theorem Hw.onPwr_regs (s : Hw) (f : PwrSt → PwrSt) : (s.onPwr f).regs = s.regs := rfl
@[simp] theorem Hw.onPwr_strapReeve (s : Hw) (f : PwrSt → PwrSt) : (s.onPwr f).strapReeve = s.strapReeve := rfl
@[simp] theorem Hw.onPwr_strapTwinB (s : Hw) (f : PwrSt → PwrSt) : (s.onPwr f).strapTwinB = s.strapTwinB := rfl
@[simp] theorem Hw.onPwr_strapRef (s : Hw) (f : PwrSt → PwrSt) : (s.onPwr f).strapRef = s.strapRef := rfl
@[simp] theorem Hw.onPwr_time (s : Hw) (f : PwrSt → PwrSt) : (s.onPwr f).time = s.time := rfl
@[simp] theorem Hw.onPwr_cmd (s : Hw) (f : PwrSt → PwrSt) : (s.onPwr f).cmd = s.cmd := rfl
@[simp] theorem Hw.onPwr_log (s : Hw) (f : PwrSt → PwrSt) : (s.onPwr f).log = s.log := rfl
@[simp] theorem Hw.onPwr_nv (s : Hw) (f : PwrSt → PwrSt) : (s.onPwr f).nv = s.nv := rfl
@[simp] theorem Hw.onPwr_sto (s : Hw) (f : PwrSt → PwrSt) : (s.onPwr f).sto = s.sto := rfl
@[simp] theorem Hw.onPwr_ops (s : Hw) (f : PwrSt → PwrSt) : (s.onPwr f).ops = s.ops := rfl
@[simp] theorem Hw.onPwr_twin (s : Hw) (f : PwrSt → PwrSt) : (s.onPwr f).twin = s.twin := rfl
@[simp] theorem Hw.onPwr_reeve (s : Hw) (f : PwrSt → PwrSt) : (s.onPwr f).reeve = s.reeve := rfl
@[simp] theorem Hw.onPwr_xarr (s : Hw) (f : PwrSt → PwrSt) : (s.onPwr f).xarr = s.xarr := rfl
@[simp] theorem Hw.onPwr_xin (s : Hw) (f : PwrSt → PwrSt) : (s.onPwr f).xin = s.xin := rfl
@[simp] theorem Hw.onPwr_live (s : Hw) (f : PwrSt → PwrSt) : (s.onPwr f).live = s.live := rfl
@[simp] theorem Hw.onPwr_staged (s : Hw) (f : PwrSt → PwrSt) : (s.onPwr f).staged = s.staged := rfl
@[simp] theorem Hw.onPwr_xram (s : Hw) (f : PwrSt → PwrSt) : (s.onPwr f).xram = s.xram := rfl
@[simp] theorem Hw.onPwr_trg (s : Hw) (f : PwrSt → PwrSt) : (s.onPwr f).trg = s.trg := rfl
@[simp] theorem Hw.onPwr_int (s : Hw) (f : PwrSt → PwrSt) : (s.onPwr f).int = s.int := rfl
@[simp] theorem Hw.onPwr_fch (s : Hw) (f : PwrSt → PwrSt) : (s.onPwr f).fch = s.fch := rfl
@[simp] theorem Hw.onPwr_hkc (s : Hw) (f : PwrSt → PwrSt) : (s.onPwr f).hkc = s.hkc := rfl
@[simp] theorem Hw.onPwr_sieve (s : Hw) (f : PwrSt → PwrSt) : (s.onPwr f).sieve = s.sieve := rfl
@[simp] theorem Hw.onPwr_le (s : Hw) (f : PwrSt → PwrSt) : (s.onPwr f).le = s.le := rfl
@[simp] theorem Hw.onPwr_ramp (s : Hw) (f : PwrSt → PwrSt) : (s.onPwr f).ramp = s.ramp := rfl
@[simp] theorem Hw.onPwr_vsq (s : Hw) (f : PwrSt → PwrSt) : (s.onPwr f).vsq = s.vsq := rfl
@[simp] theorem Hw.onPwr_shf (s : Hw) (f : PwrSt → PwrSt) : (s.onPwr f).shf = s.shf := rfl
@[simp] theorem Hw.onPwr_lst (s : Hw) (f : PwrSt → PwrSt) : (s.onPwr f).lst = s.lst := rfl
@[simp] theorem Hw.onPwr_ory (s : Hw) (f : PwrSt → PwrSt) : (s.onPwr f).ory = s.ory := rfl
@[simp] theorem Hw.onPwr_chr (s : Hw) (f : PwrSt → PwrSt) : (s.onPwr f).chr = s.chr := rfl
@[simp] theorem Hw.onPwr_saf (s : Hw) (f : PwrSt → PwrSt) : (s.onPwr f).saf = s.saf := rfl
@[simp] theorem Hw.onPwr_net (s : Hw) (f : PwrSt → PwrSt) : (s.onPwr f).net = s.net := rfl
@[simp] theorem Hw.onPwr_inReset (s : Hw) (f : PwrSt → PwrSt) : (s.onPwr f).inReset = s.inReset := rfl
@[simp] theorem Hw.onPwr_free (s : Hw) (f : PwrSt → PwrSt) : (s.onPwr f).free = s.free := rfl

/-! ### `onRamp` -/

@[simp] theorem Hw.onRamp_ramp (s : Hw) (c : Nat) (f : RampSt → RampSt) : (s.onRamp c f).ramp = smapSet {} s.ramp c (f (s.rampOf c)) := rfl
@[simp] theorem Hw.onRamp_regs (s : Hw) (c : Nat) (f : RampSt → RampSt) : (s.onRamp c f).regs = s.regs := rfl
@[simp] theorem Hw.onRamp_strapReeve (s : Hw) (c : Nat) (f : RampSt → RampSt) : (s.onRamp c f).strapReeve = s.strapReeve := rfl
@[simp] theorem Hw.onRamp_strapTwinB (s : Hw) (c : Nat) (f : RampSt → RampSt) : (s.onRamp c f).strapTwinB = s.strapTwinB := rfl
@[simp] theorem Hw.onRamp_strapRef (s : Hw) (c : Nat) (f : RampSt → RampSt) : (s.onRamp c f).strapRef = s.strapRef := rfl
@[simp] theorem Hw.onRamp_time (s : Hw) (c : Nat) (f : RampSt → RampSt) : (s.onRamp c f).time = s.time := rfl
@[simp] theorem Hw.onRamp_cmd (s : Hw) (c : Nat) (f : RampSt → RampSt) : (s.onRamp c f).cmd = s.cmd := rfl
@[simp] theorem Hw.onRamp_log (s : Hw) (c : Nat) (f : RampSt → RampSt) : (s.onRamp c f).log = s.log := rfl
@[simp] theorem Hw.onRamp_nv (s : Hw) (c : Nat) (f : RampSt → RampSt) : (s.onRamp c f).nv = s.nv := rfl
@[simp] theorem Hw.onRamp_sto (s : Hw) (c : Nat) (f : RampSt → RampSt) : (s.onRamp c f).sto = s.sto := rfl
@[simp] theorem Hw.onRamp_ops (s : Hw) (c : Nat) (f : RampSt → RampSt) : (s.onRamp c f).ops = s.ops := rfl
@[simp] theorem Hw.onRamp_twin (s : Hw) (c : Nat) (f : RampSt → RampSt) : (s.onRamp c f).twin = s.twin := rfl
@[simp] theorem Hw.onRamp_reeve (s : Hw) (c : Nat) (f : RampSt → RampSt) : (s.onRamp c f).reeve = s.reeve := rfl
@[simp] theorem Hw.onRamp_xarr (s : Hw) (c : Nat) (f : RampSt → RampSt) : (s.onRamp c f).xarr = s.xarr := rfl
@[simp] theorem Hw.onRamp_xin (s : Hw) (c : Nat) (f : RampSt → RampSt) : (s.onRamp c f).xin = s.xin := rfl
@[simp] theorem Hw.onRamp_live (s : Hw) (c : Nat) (f : RampSt → RampSt) : (s.onRamp c f).live = s.live := rfl
@[simp] theorem Hw.onRamp_staged (s : Hw) (c : Nat) (f : RampSt → RampSt) : (s.onRamp c f).staged = s.staged := rfl
@[simp] theorem Hw.onRamp_xram (s : Hw) (c : Nat) (f : RampSt → RampSt) : (s.onRamp c f).xram = s.xram := rfl
@[simp] theorem Hw.onRamp_trg (s : Hw) (c : Nat) (f : RampSt → RampSt) : (s.onRamp c f).trg = s.trg := rfl
@[simp] theorem Hw.onRamp_int (s : Hw) (c : Nat) (f : RampSt → RampSt) : (s.onRamp c f).int = s.int := rfl
@[simp] theorem Hw.onRamp_fch (s : Hw) (c : Nat) (f : RampSt → RampSt) : (s.onRamp c f).fch = s.fch := rfl
@[simp] theorem Hw.onRamp_hkc (s : Hw) (c : Nat) (f : RampSt → RampSt) : (s.onRamp c f).hkc = s.hkc := rfl
@[simp] theorem Hw.onRamp_sieve (s : Hw) (c : Nat) (f : RampSt → RampSt) : (s.onRamp c f).sieve = s.sieve := rfl
@[simp] theorem Hw.onRamp_le (s : Hw) (c : Nat) (f : RampSt → RampSt) : (s.onRamp c f).le = s.le := rfl
@[simp] theorem Hw.onRamp_vsq (s : Hw) (c : Nat) (f : RampSt → RampSt) : (s.onRamp c f).vsq = s.vsq := rfl
@[simp] theorem Hw.onRamp_shf (s : Hw) (c : Nat) (f : RampSt → RampSt) : (s.onRamp c f).shf = s.shf := rfl
@[simp] theorem Hw.onRamp_lst (s : Hw) (c : Nat) (f : RampSt → RampSt) : (s.onRamp c f).lst = s.lst := rfl
@[simp] theorem Hw.onRamp_ory (s : Hw) (c : Nat) (f : RampSt → RampSt) : (s.onRamp c f).ory = s.ory := rfl
@[simp] theorem Hw.onRamp_chr (s : Hw) (c : Nat) (f : RampSt → RampSt) : (s.onRamp c f).chr = s.chr := rfl
@[simp] theorem Hw.onRamp_saf (s : Hw) (c : Nat) (f : RampSt → RampSt) : (s.onRamp c f).saf = s.saf := rfl
@[simp] theorem Hw.onRamp_net (s : Hw) (c : Nat) (f : RampSt → RampSt) : (s.onRamp c f).net = s.net := rfl
@[simp] theorem Hw.onRamp_pwr (s : Hw) (c : Nat) (f : RampSt → RampSt) : (s.onRamp c f).pwr = s.pwr := rfl
@[simp] theorem Hw.onRamp_inReset (s : Hw) (c : Nat) (f : RampSt → RampSt) : (s.onRamp c f).inReset = s.inReset := rfl
@[simp] theorem Hw.onRamp_free (s : Hw) (c : Nat) (f : RampSt → RampSt) : (s.onRamp c f).free = s.free := rfl

/-! ### `onHkc` -/

@[simp] theorem Hw.onHkc_hkc (s : Hw) (n : Nat) (f : HkcSt → HkcSt) : (s.onHkc n f).hkc = smapSet {} s.hkc n (f (s.hkcOf n)) := rfl
@[simp] theorem Hw.onHkc_regs (s : Hw) (n : Nat) (f : HkcSt → HkcSt) : (s.onHkc n f).regs = s.regs := rfl
@[simp] theorem Hw.onHkc_strapReeve (s : Hw) (n : Nat) (f : HkcSt → HkcSt) : (s.onHkc n f).strapReeve = s.strapReeve := rfl
@[simp] theorem Hw.onHkc_strapTwinB (s : Hw) (n : Nat) (f : HkcSt → HkcSt) : (s.onHkc n f).strapTwinB = s.strapTwinB := rfl
@[simp] theorem Hw.onHkc_strapRef (s : Hw) (n : Nat) (f : HkcSt → HkcSt) : (s.onHkc n f).strapRef = s.strapRef := rfl
@[simp] theorem Hw.onHkc_time (s : Hw) (n : Nat) (f : HkcSt → HkcSt) : (s.onHkc n f).time = s.time := rfl
@[simp] theorem Hw.onHkc_cmd (s : Hw) (n : Nat) (f : HkcSt → HkcSt) : (s.onHkc n f).cmd = s.cmd := rfl
@[simp] theorem Hw.onHkc_log (s : Hw) (n : Nat) (f : HkcSt → HkcSt) : (s.onHkc n f).log = s.log := rfl
@[simp] theorem Hw.onHkc_nv (s : Hw) (n : Nat) (f : HkcSt → HkcSt) : (s.onHkc n f).nv = s.nv := rfl
@[simp] theorem Hw.onHkc_sto (s : Hw) (n : Nat) (f : HkcSt → HkcSt) : (s.onHkc n f).sto = s.sto := rfl
@[simp] theorem Hw.onHkc_ops (s : Hw) (n : Nat) (f : HkcSt → HkcSt) : (s.onHkc n f).ops = s.ops := rfl
@[simp] theorem Hw.onHkc_twin (s : Hw) (n : Nat) (f : HkcSt → HkcSt) : (s.onHkc n f).twin = s.twin := rfl
@[simp] theorem Hw.onHkc_reeve (s : Hw) (n : Nat) (f : HkcSt → HkcSt) : (s.onHkc n f).reeve = s.reeve := rfl
@[simp] theorem Hw.onHkc_xarr (s : Hw) (n : Nat) (f : HkcSt → HkcSt) : (s.onHkc n f).xarr = s.xarr := rfl
@[simp] theorem Hw.onHkc_xin (s : Hw) (n : Nat) (f : HkcSt → HkcSt) : (s.onHkc n f).xin = s.xin := rfl
@[simp] theorem Hw.onHkc_live (s : Hw) (n : Nat) (f : HkcSt → HkcSt) : (s.onHkc n f).live = s.live := rfl
@[simp] theorem Hw.onHkc_staged (s : Hw) (n : Nat) (f : HkcSt → HkcSt) : (s.onHkc n f).staged = s.staged := rfl
@[simp] theorem Hw.onHkc_xram (s : Hw) (n : Nat) (f : HkcSt → HkcSt) : (s.onHkc n f).xram = s.xram := rfl
@[simp] theorem Hw.onHkc_trg (s : Hw) (n : Nat) (f : HkcSt → HkcSt) : (s.onHkc n f).trg = s.trg := rfl
@[simp] theorem Hw.onHkc_int (s : Hw) (n : Nat) (f : HkcSt → HkcSt) : (s.onHkc n f).int = s.int := rfl
@[simp] theorem Hw.onHkc_fch (s : Hw) (n : Nat) (f : HkcSt → HkcSt) : (s.onHkc n f).fch = s.fch := rfl
@[simp] theorem Hw.onHkc_sieve (s : Hw) (n : Nat) (f : HkcSt → HkcSt) : (s.onHkc n f).sieve = s.sieve := rfl
@[simp] theorem Hw.onHkc_le (s : Hw) (n : Nat) (f : HkcSt → HkcSt) : (s.onHkc n f).le = s.le := rfl
@[simp] theorem Hw.onHkc_ramp (s : Hw) (n : Nat) (f : HkcSt → HkcSt) : (s.onHkc n f).ramp = s.ramp := rfl
@[simp] theorem Hw.onHkc_vsq (s : Hw) (n : Nat) (f : HkcSt → HkcSt) : (s.onHkc n f).vsq = s.vsq := rfl
@[simp] theorem Hw.onHkc_shf (s : Hw) (n : Nat) (f : HkcSt → HkcSt) : (s.onHkc n f).shf = s.shf := rfl
@[simp] theorem Hw.onHkc_lst (s : Hw) (n : Nat) (f : HkcSt → HkcSt) : (s.onHkc n f).lst = s.lst := rfl
@[simp] theorem Hw.onHkc_ory (s : Hw) (n : Nat) (f : HkcSt → HkcSt) : (s.onHkc n f).ory = s.ory := rfl
@[simp] theorem Hw.onHkc_chr (s : Hw) (n : Nat) (f : HkcSt → HkcSt) : (s.onHkc n f).chr = s.chr := rfl
@[simp] theorem Hw.onHkc_saf (s : Hw) (n : Nat) (f : HkcSt → HkcSt) : (s.onHkc n f).saf = s.saf := rfl
@[simp] theorem Hw.onHkc_net (s : Hw) (n : Nat) (f : HkcSt → HkcSt) : (s.onHkc n f).net = s.net := rfl
@[simp] theorem Hw.onHkc_pwr (s : Hw) (n : Nat) (f : HkcSt → HkcSt) : (s.onHkc n f).pwr = s.pwr := rfl
@[simp] theorem Hw.onHkc_inReset (s : Hw) (n : Nat) (f : HkcSt → HkcSt) : (s.onHkc n f).inReset = s.inReset := rfl
@[simp] theorem Hw.onHkc_free (s : Hw) (n : Nat) (f : HkcSt → HkcSt) : (s.onHkc n f).free = s.free := rfl

/-! ### `setLive` -/

@[simp] theorem Hw.setLive_live (s : Hw) (a : Nat) (v : Word) : (s.setLive a v).live = smapSet (regReset a) s.live a v := rfl
@[simp] theorem Hw.setLive_regs (s : Hw) (a : Nat) (v : Word) : (s.setLive a v).regs = s.regs := rfl
@[simp] theorem Hw.setLive_strapReeve (s : Hw) (a : Nat) (v : Word) : (s.setLive a v).strapReeve = s.strapReeve := rfl
@[simp] theorem Hw.setLive_strapTwinB (s : Hw) (a : Nat) (v : Word) : (s.setLive a v).strapTwinB = s.strapTwinB := rfl
@[simp] theorem Hw.setLive_strapRef (s : Hw) (a : Nat) (v : Word) : (s.setLive a v).strapRef = s.strapRef := rfl
@[simp] theorem Hw.setLive_time (s : Hw) (a : Nat) (v : Word) : (s.setLive a v).time = s.time := rfl
@[simp] theorem Hw.setLive_cmd (s : Hw) (a : Nat) (v : Word) : (s.setLive a v).cmd = s.cmd := rfl
@[simp] theorem Hw.setLive_log (s : Hw) (a : Nat) (v : Word) : (s.setLive a v).log = s.log := rfl
@[simp] theorem Hw.setLive_nv (s : Hw) (a : Nat) (v : Word) : (s.setLive a v).nv = s.nv := rfl
@[simp] theorem Hw.setLive_sto (s : Hw) (a : Nat) (v : Word) : (s.setLive a v).sto = s.sto := rfl
@[simp] theorem Hw.setLive_ops (s : Hw) (a : Nat) (v : Word) : (s.setLive a v).ops = s.ops := rfl
@[simp] theorem Hw.setLive_twin (s : Hw) (a : Nat) (v : Word) : (s.setLive a v).twin = s.twin := rfl
@[simp] theorem Hw.setLive_reeve (s : Hw) (a : Nat) (v : Word) : (s.setLive a v).reeve = s.reeve := rfl
@[simp] theorem Hw.setLive_xarr (s : Hw) (a : Nat) (v : Word) : (s.setLive a v).xarr = s.xarr := rfl
@[simp] theorem Hw.setLive_xin (s : Hw) (a : Nat) (v : Word) : (s.setLive a v).xin = s.xin := rfl
@[simp] theorem Hw.setLive_staged (s : Hw) (a : Nat) (v : Word) : (s.setLive a v).staged = s.staged := rfl
@[simp] theorem Hw.setLive_xram (s : Hw) (a : Nat) (v : Word) : (s.setLive a v).xram = s.xram := rfl
@[simp] theorem Hw.setLive_trg (s : Hw) (a : Nat) (v : Word) : (s.setLive a v).trg = s.trg := rfl
@[simp] theorem Hw.setLive_int (s : Hw) (a : Nat) (v : Word) : (s.setLive a v).int = s.int := rfl
@[simp] theorem Hw.setLive_fch (s : Hw) (a : Nat) (v : Word) : (s.setLive a v).fch = s.fch := rfl
@[simp] theorem Hw.setLive_hkc (s : Hw) (a : Nat) (v : Word) : (s.setLive a v).hkc = s.hkc := rfl
@[simp] theorem Hw.setLive_sieve (s : Hw) (a : Nat) (v : Word) : (s.setLive a v).sieve = s.sieve := rfl
@[simp] theorem Hw.setLive_le (s : Hw) (a : Nat) (v : Word) : (s.setLive a v).le = s.le := rfl
@[simp] theorem Hw.setLive_ramp (s : Hw) (a : Nat) (v : Word) : (s.setLive a v).ramp = s.ramp := rfl
@[simp] theorem Hw.setLive_vsq (s : Hw) (a : Nat) (v : Word) : (s.setLive a v).vsq = s.vsq := rfl
@[simp] theorem Hw.setLive_shf (s : Hw) (a : Nat) (v : Word) : (s.setLive a v).shf = s.shf := rfl
@[simp] theorem Hw.setLive_lst (s : Hw) (a : Nat) (v : Word) : (s.setLive a v).lst = s.lst := rfl
@[simp] theorem Hw.setLive_ory (s : Hw) (a : Nat) (v : Word) : (s.setLive a v).ory = s.ory := rfl
@[simp] theorem Hw.setLive_chr (s : Hw) (a : Nat) (v : Word) : (s.setLive a v).chr = s.chr := rfl
@[simp] theorem Hw.setLive_saf (s : Hw) (a : Nat) (v : Word) : (s.setLive a v).saf = s.saf := rfl
@[simp] theorem Hw.setLive_net (s : Hw) (a : Nat) (v : Word) : (s.setLive a v).net = s.net := rfl
@[simp] theorem Hw.setLive_pwr (s : Hw) (a : Nat) (v : Word) : (s.setLive a v).pwr = s.pwr := rfl
@[simp] theorem Hw.setLive_inReset (s : Hw) (a : Nat) (v : Word) : (s.setLive a v).inReset = s.inReset := rfl
@[simp] theorem Hw.setLive_free (s : Hw) (a : Nat) (v : Word) : (s.setLive a v).free = s.free := rfl

/-! ### `setXr` -/

@[simp] theorem Hw.setXr_xram (s : Hw) (w : Nat) (v : Int) : (s.setXr w v).xram = smapSet 0 s.xram w (unsigned 16 v) := rfl
@[simp] theorem Hw.setXr_regs (s : Hw) (w : Nat) (v : Int) : (s.setXr w v).regs = s.regs := rfl
@[simp] theorem Hw.setXr_strapReeve (s : Hw) (w : Nat) (v : Int) : (s.setXr w v).strapReeve = s.strapReeve := rfl
@[simp] theorem Hw.setXr_strapTwinB (s : Hw) (w : Nat) (v : Int) : (s.setXr w v).strapTwinB = s.strapTwinB := rfl
@[simp] theorem Hw.setXr_strapRef (s : Hw) (w : Nat) (v : Int) : (s.setXr w v).strapRef = s.strapRef := rfl
@[simp] theorem Hw.setXr_time (s : Hw) (w : Nat) (v : Int) : (s.setXr w v).time = s.time := rfl
@[simp] theorem Hw.setXr_cmd (s : Hw) (w : Nat) (v : Int) : (s.setXr w v).cmd = s.cmd := rfl
@[simp] theorem Hw.setXr_log (s : Hw) (w : Nat) (v : Int) : (s.setXr w v).log = s.log := rfl
@[simp] theorem Hw.setXr_nv (s : Hw) (w : Nat) (v : Int) : (s.setXr w v).nv = s.nv := rfl
@[simp] theorem Hw.setXr_sto (s : Hw) (w : Nat) (v : Int) : (s.setXr w v).sto = s.sto := rfl
@[simp] theorem Hw.setXr_ops (s : Hw) (w : Nat) (v : Int) : (s.setXr w v).ops = s.ops := rfl
@[simp] theorem Hw.setXr_twin (s : Hw) (w : Nat) (v : Int) : (s.setXr w v).twin = s.twin := rfl
@[simp] theorem Hw.setXr_reeve (s : Hw) (w : Nat) (v : Int) : (s.setXr w v).reeve = s.reeve := rfl
@[simp] theorem Hw.setXr_xarr (s : Hw) (w : Nat) (v : Int) : (s.setXr w v).xarr = s.xarr := rfl
@[simp] theorem Hw.setXr_xin (s : Hw) (w : Nat) (v : Int) : (s.setXr w v).xin = s.xin := rfl
@[simp] theorem Hw.setXr_live (s : Hw) (w : Nat) (v : Int) : (s.setXr w v).live = s.live := rfl
@[simp] theorem Hw.setXr_staged (s : Hw) (w : Nat) (v : Int) : (s.setXr w v).staged = s.staged := rfl
@[simp] theorem Hw.setXr_trg (s : Hw) (w : Nat) (v : Int) : (s.setXr w v).trg = s.trg := rfl
@[simp] theorem Hw.setXr_int (s : Hw) (w : Nat) (v : Int) : (s.setXr w v).int = s.int := rfl
@[simp] theorem Hw.setXr_fch (s : Hw) (w : Nat) (v : Int) : (s.setXr w v).fch = s.fch := rfl
@[simp] theorem Hw.setXr_hkc (s : Hw) (w : Nat) (v : Int) : (s.setXr w v).hkc = s.hkc := rfl
@[simp] theorem Hw.setXr_sieve (s : Hw) (w : Nat) (v : Int) : (s.setXr w v).sieve = s.sieve := rfl
@[simp] theorem Hw.setXr_le (s : Hw) (w : Nat) (v : Int) : (s.setXr w v).le = s.le := rfl
@[simp] theorem Hw.setXr_ramp (s : Hw) (w : Nat) (v : Int) : (s.setXr w v).ramp = s.ramp := rfl
@[simp] theorem Hw.setXr_vsq (s : Hw) (w : Nat) (v : Int) : (s.setXr w v).vsq = s.vsq := rfl
@[simp] theorem Hw.setXr_shf (s : Hw) (w : Nat) (v : Int) : (s.setXr w v).shf = s.shf := rfl
@[simp] theorem Hw.setXr_lst (s : Hw) (w : Nat) (v : Int) : (s.setXr w v).lst = s.lst := rfl
@[simp] theorem Hw.setXr_ory (s : Hw) (w : Nat) (v : Int) : (s.setXr w v).ory = s.ory := rfl
@[simp] theorem Hw.setXr_chr (s : Hw) (w : Nat) (v : Int) : (s.setXr w v).chr = s.chr := rfl
@[simp] theorem Hw.setXr_saf (s : Hw) (w : Nat) (v : Int) : (s.setXr w v).saf = s.saf := rfl
@[simp] theorem Hw.setXr_net (s : Hw) (w : Nat) (v : Int) : (s.setXr w v).net = s.net := rfl
@[simp] theorem Hw.setXr_pwr (s : Hw) (w : Nat) (v : Int) : (s.setXr w v).pwr = s.pwr := rfl
@[simp] theorem Hw.setXr_inReset (s : Hw) (w : Nat) (v : Int) : (s.setXr w v).inReset = s.inReset := rfl
@[simp] theorem Hw.setXr_free (s : Hw) (w : Nat) (v : Int) : (s.setXr w v).free = s.free := rfl

/-! ### `onSession` -/

@[simp] theorem Hw.onSession_cmd (s : Hw) (id : Nat) (f : Session → Session) : (s.onSession id f).cmd = { s.cmd with sessions := s.cmd.sessions.map fun x => if x.id = id then f x else x } := rfl
@[simp] theorem Hw.onSession_regs (s : Hw) (id : Nat) (f : Session → Session) : (s.onSession id f).regs = s.regs := rfl
@[simp] theorem Hw.onSession_strapReeve (s : Hw) (id : Nat) (f : Session → Session) : (s.onSession id f).strapReeve = s.strapReeve := rfl
@[simp] theorem Hw.onSession_strapTwinB (s : Hw) (id : Nat) (f : Session → Session) : (s.onSession id f).strapTwinB = s.strapTwinB := rfl
@[simp] theorem Hw.onSession_strapRef (s : Hw) (id : Nat) (f : Session → Session) : (s.onSession id f).strapRef = s.strapRef := rfl
@[simp] theorem Hw.onSession_time (s : Hw) (id : Nat) (f : Session → Session) : (s.onSession id f).time = s.time := rfl
@[simp] theorem Hw.onSession_log (s : Hw) (id : Nat) (f : Session → Session) : (s.onSession id f).log = s.log := rfl
@[simp] theorem Hw.onSession_nv (s : Hw) (id : Nat) (f : Session → Session) : (s.onSession id f).nv = s.nv := rfl
@[simp] theorem Hw.onSession_sto (s : Hw) (id : Nat) (f : Session → Session) : (s.onSession id f).sto = s.sto := rfl
@[simp] theorem Hw.onSession_ops (s : Hw) (id : Nat) (f : Session → Session) : (s.onSession id f).ops = s.ops := rfl
@[simp] theorem Hw.onSession_twin (s : Hw) (id : Nat) (f : Session → Session) : (s.onSession id f).twin = s.twin := rfl
@[simp] theorem Hw.onSession_reeve (s : Hw) (id : Nat) (f : Session → Session) : (s.onSession id f).reeve = s.reeve := rfl
@[simp] theorem Hw.onSession_xarr (s : Hw) (id : Nat) (f : Session → Session) : (s.onSession id f).xarr = s.xarr := rfl
@[simp] theorem Hw.onSession_xin (s : Hw) (id : Nat) (f : Session → Session) : (s.onSession id f).xin = s.xin := rfl
@[simp] theorem Hw.onSession_live (s : Hw) (id : Nat) (f : Session → Session) : (s.onSession id f).live = s.live := rfl
@[simp] theorem Hw.onSession_staged (s : Hw) (id : Nat) (f : Session → Session) : (s.onSession id f).staged = s.staged := rfl
@[simp] theorem Hw.onSession_xram (s : Hw) (id : Nat) (f : Session → Session) : (s.onSession id f).xram = s.xram := rfl
@[simp] theorem Hw.onSession_trg (s : Hw) (id : Nat) (f : Session → Session) : (s.onSession id f).trg = s.trg := rfl
@[simp] theorem Hw.onSession_int (s : Hw) (id : Nat) (f : Session → Session) : (s.onSession id f).int = s.int := rfl
@[simp] theorem Hw.onSession_fch (s : Hw) (id : Nat) (f : Session → Session) : (s.onSession id f).fch = s.fch := rfl
@[simp] theorem Hw.onSession_hkc (s : Hw) (id : Nat) (f : Session → Session) : (s.onSession id f).hkc = s.hkc := rfl
@[simp] theorem Hw.onSession_sieve (s : Hw) (id : Nat) (f : Session → Session) : (s.onSession id f).sieve = s.sieve := rfl
@[simp] theorem Hw.onSession_le (s : Hw) (id : Nat) (f : Session → Session) : (s.onSession id f).le = s.le := rfl
@[simp] theorem Hw.onSession_ramp (s : Hw) (id : Nat) (f : Session → Session) : (s.onSession id f).ramp = s.ramp := rfl
@[simp] theorem Hw.onSession_vsq (s : Hw) (id : Nat) (f : Session → Session) : (s.onSession id f).vsq = s.vsq := rfl
@[simp] theorem Hw.onSession_shf (s : Hw) (id : Nat) (f : Session → Session) : (s.onSession id f).shf = s.shf := rfl
@[simp] theorem Hw.onSession_lst (s : Hw) (id : Nat) (f : Session → Session) : (s.onSession id f).lst = s.lst := rfl
@[simp] theorem Hw.onSession_ory (s : Hw) (id : Nat) (f : Session → Session) : (s.onSession id f).ory = s.ory := rfl
@[simp] theorem Hw.onSession_chr (s : Hw) (id : Nat) (f : Session → Session) : (s.onSession id f).chr = s.chr := rfl
@[simp] theorem Hw.onSession_saf (s : Hw) (id : Nat) (f : Session → Session) : (s.onSession id f).saf = s.saf := rfl
@[simp] theorem Hw.onSession_net (s : Hw) (id : Nat) (f : Session → Session) : (s.onSession id f).net = s.net := rfl
@[simp] theorem Hw.onSession_pwr (s : Hw) (id : Nat) (f : Session → Session) : (s.onSession id f).pwr = s.pwr := rfl
@[simp] theorem Hw.onSession_inReset (s : Hw) (id : Nat) (f : Session → Session) : (s.onSession id f).inReset = s.inReset := rfl
@[simp] theorem Hw.onSession_free (s : Hw) (id : Nat) (f : Session → Session) : (s.onSession id f).free = s.free := rfl

/-! ### `atCyc` -/

@[simp] theorem Hw.atCyc_time (s : Hw) (c : Nat) : (s.atCyc c).time = { s.time with cyc := c } := rfl
@[simp] theorem Hw.atCyc_regs (s : Hw) (c : Nat) : (s.atCyc c).regs = s.regs := rfl
@[simp] theorem Hw.atCyc_strapReeve (s : Hw) (c : Nat) : (s.atCyc c).strapReeve = s.strapReeve := rfl
@[simp] theorem Hw.atCyc_strapTwinB (s : Hw) (c : Nat) : (s.atCyc c).strapTwinB = s.strapTwinB := rfl
@[simp] theorem Hw.atCyc_strapRef (s : Hw) (c : Nat) : (s.atCyc c).strapRef = s.strapRef := rfl
@[simp] theorem Hw.atCyc_cmd (s : Hw) (c : Nat) : (s.atCyc c).cmd = s.cmd := rfl
@[simp] theorem Hw.atCyc_log (s : Hw) (c : Nat) : (s.atCyc c).log = s.log := rfl
@[simp] theorem Hw.atCyc_nv (s : Hw) (c : Nat) : (s.atCyc c).nv = s.nv := rfl
@[simp] theorem Hw.atCyc_sto (s : Hw) (c : Nat) : (s.atCyc c).sto = s.sto := rfl
@[simp] theorem Hw.atCyc_ops (s : Hw) (c : Nat) : (s.atCyc c).ops = s.ops := rfl
@[simp] theorem Hw.atCyc_twin (s : Hw) (c : Nat) : (s.atCyc c).twin = s.twin := rfl
@[simp] theorem Hw.atCyc_reeve (s : Hw) (c : Nat) : (s.atCyc c).reeve = s.reeve := rfl
@[simp] theorem Hw.atCyc_xarr (s : Hw) (c : Nat) : (s.atCyc c).xarr = s.xarr := rfl
@[simp] theorem Hw.atCyc_xin (s : Hw) (c : Nat) : (s.atCyc c).xin = s.xin := rfl
@[simp] theorem Hw.atCyc_live (s : Hw) (c : Nat) : (s.atCyc c).live = s.live := rfl
@[simp] theorem Hw.atCyc_staged (s : Hw) (c : Nat) : (s.atCyc c).staged = s.staged := rfl
@[simp] theorem Hw.atCyc_xram (s : Hw) (c : Nat) : (s.atCyc c).xram = s.xram := rfl
@[simp] theorem Hw.atCyc_trg (s : Hw) (c : Nat) : (s.atCyc c).trg = s.trg := rfl
@[simp] theorem Hw.atCyc_int (s : Hw) (c : Nat) : (s.atCyc c).int = s.int := rfl
@[simp] theorem Hw.atCyc_fch (s : Hw) (c : Nat) : (s.atCyc c).fch = s.fch := rfl
@[simp] theorem Hw.atCyc_hkc (s : Hw) (c : Nat) : (s.atCyc c).hkc = s.hkc := rfl
@[simp] theorem Hw.atCyc_sieve (s : Hw) (c : Nat) : (s.atCyc c).sieve = s.sieve := rfl
@[simp] theorem Hw.atCyc_le (s : Hw) (c : Nat) : (s.atCyc c).le = s.le := rfl
@[simp] theorem Hw.atCyc_ramp (s : Hw) (c : Nat) : (s.atCyc c).ramp = s.ramp := rfl
@[simp] theorem Hw.atCyc_vsq (s : Hw) (c : Nat) : (s.atCyc c).vsq = s.vsq := rfl
@[simp] theorem Hw.atCyc_shf (s : Hw) (c : Nat) : (s.atCyc c).shf = s.shf := rfl
@[simp] theorem Hw.atCyc_lst (s : Hw) (c : Nat) : (s.atCyc c).lst = s.lst := rfl
@[simp] theorem Hw.atCyc_ory (s : Hw) (c : Nat) : (s.atCyc c).ory = s.ory := rfl
@[simp] theorem Hw.atCyc_chr (s : Hw) (c : Nat) : (s.atCyc c).chr = s.chr := rfl
@[simp] theorem Hw.atCyc_saf (s : Hw) (c : Nat) : (s.atCyc c).saf = s.saf := rfl
@[simp] theorem Hw.atCyc_net (s : Hw) (c : Nat) : (s.atCyc c).net = s.net := rfl
@[simp] theorem Hw.atCyc_pwr (s : Hw) (c : Nat) : (s.atCyc c).pwr = s.pwr := rfl
@[simp] theorem Hw.atCyc_inReset (s : Hw) (c : Nat) : (s.atCyc c).inReset = s.inReset := rfl
@[simp] theorem Hw.atCyc_free (s : Hw) (c : Nat) : (s.atCyc c).free = s.free := rfl

/-! ### `trgEvent` -/

@[simp] theorem Hw.trgEvent_regs (s : Hw) (k : Nat) : (s.trgEvent k).regs = s.regs := by unfold Hw.trgEvent; rfl
@[simp] theorem Hw.trgEvent_strapReeve (s : Hw) (k : Nat) : (s.trgEvent k).strapReeve = s.strapReeve := by unfold Hw.trgEvent; rfl
@[simp] theorem Hw.trgEvent_strapTwinB (s : Hw) (k : Nat) : (s.trgEvent k).strapTwinB = s.strapTwinB := by unfold Hw.trgEvent; rfl
@[simp] theorem Hw.trgEvent_strapRef (s : Hw) (k : Nat) : (s.trgEvent k).strapRef = s.strapRef := by unfold Hw.trgEvent; rfl
@[simp] theorem Hw.trgEvent_time (s : Hw) (k : Nat) : (s.trgEvent k).time = s.time := by unfold Hw.trgEvent; rfl
@[simp] theorem Hw.trgEvent_cmd (s : Hw) (k : Nat) : (s.trgEvent k).cmd = s.cmd := by unfold Hw.trgEvent; rfl
@[simp] theorem Hw.trgEvent_log (s : Hw) (k : Nat) : (s.trgEvent k).log = s.log := by unfold Hw.trgEvent; rfl
@[simp] theorem Hw.trgEvent_nv (s : Hw) (k : Nat) : (s.trgEvent k).nv = s.nv := by unfold Hw.trgEvent; rfl
@[simp] theorem Hw.trgEvent_sto (s : Hw) (k : Nat) : (s.trgEvent k).sto = s.sto := by unfold Hw.trgEvent; rfl
@[simp] theorem Hw.trgEvent_ops (s : Hw) (k : Nat) : (s.trgEvent k).ops = s.ops := by unfold Hw.trgEvent; rfl
@[simp] theorem Hw.trgEvent_twin (s : Hw) (k : Nat) : (s.trgEvent k).twin = s.twin := by unfold Hw.trgEvent; rfl
@[simp] theorem Hw.trgEvent_reeve (s : Hw) (k : Nat) : (s.trgEvent k).reeve = s.reeve := by unfold Hw.trgEvent; rfl
@[simp] theorem Hw.trgEvent_xarr (s : Hw) (k : Nat) : (s.trgEvent k).xarr = s.xarr := by unfold Hw.trgEvent; rfl
@[simp] theorem Hw.trgEvent_xin (s : Hw) (k : Nat) : (s.trgEvent k).xin = s.xin := by unfold Hw.trgEvent; rfl
@[simp] theorem Hw.trgEvent_live (s : Hw) (k : Nat) : (s.trgEvent k).live = s.live := by unfold Hw.trgEvent; rfl
@[simp] theorem Hw.trgEvent_staged (s : Hw) (k : Nat) : (s.trgEvent k).staged = s.staged := by unfold Hw.trgEvent; rfl
@[simp] theorem Hw.trgEvent_xram (s : Hw) (k : Nat) : (s.trgEvent k).xram = s.xram := by unfold Hw.trgEvent; rfl
@[simp] theorem Hw.trgEvent_int (s : Hw) (k : Nat) : (s.trgEvent k).int = s.int := by unfold Hw.trgEvent; rfl
@[simp] theorem Hw.trgEvent_fch (s : Hw) (k : Nat) : (s.trgEvent k).fch = s.fch := by unfold Hw.trgEvent; rfl
@[simp] theorem Hw.trgEvent_hkc (s : Hw) (k : Nat) : (s.trgEvent k).hkc = s.hkc := by unfold Hw.trgEvent; rfl
@[simp] theorem Hw.trgEvent_sieve (s : Hw) (k : Nat) : (s.trgEvent k).sieve = s.sieve := by unfold Hw.trgEvent; rfl
@[simp] theorem Hw.trgEvent_le (s : Hw) (k : Nat) : (s.trgEvent k).le = s.le := by unfold Hw.trgEvent; rfl
@[simp] theorem Hw.trgEvent_ramp (s : Hw) (k : Nat) : (s.trgEvent k).ramp = s.ramp := by unfold Hw.trgEvent; rfl
@[simp] theorem Hw.trgEvent_vsq (s : Hw) (k : Nat) : (s.trgEvent k).vsq = s.vsq := by unfold Hw.trgEvent; rfl
@[simp] theorem Hw.trgEvent_shf (s : Hw) (k : Nat) : (s.trgEvent k).shf = s.shf := by unfold Hw.trgEvent; rfl
@[simp] theorem Hw.trgEvent_lst (s : Hw) (k : Nat) : (s.trgEvent k).lst = s.lst := by unfold Hw.trgEvent; rfl
@[simp] theorem Hw.trgEvent_ory (s : Hw) (k : Nat) : (s.trgEvent k).ory = s.ory := by unfold Hw.trgEvent; rfl
@[simp] theorem Hw.trgEvent_chr (s : Hw) (k : Nat) : (s.trgEvent k).chr = s.chr := by unfold Hw.trgEvent; rfl
@[simp] theorem Hw.trgEvent_saf (s : Hw) (k : Nat) : (s.trgEvent k).saf = s.saf := by unfold Hw.trgEvent; rfl
@[simp] theorem Hw.trgEvent_net (s : Hw) (k : Nat) : (s.trgEvent k).net = s.net := by unfold Hw.trgEvent; rfl
@[simp] theorem Hw.trgEvent_pwr (s : Hw) (k : Nat) : (s.trgEvent k).pwr = s.pwr := by unfold Hw.trgEvent; rfl
@[simp] theorem Hw.trgEvent_inReset (s : Hw) (k : Nat) : (s.trgEvent k).inReset = s.inReset := by unfold Hw.trgEvent; rfl
@[simp] theorem Hw.trgEvent_free (s : Hw) (k : Nat) : (s.trgEvent k).free = s.free := by unfold Hw.trgEvent; rfl

/-! ### `msixRaise` -/

@[simp] theorem Hw.msixRaise_regs (s : Hw) (v : Nat) : (s.msixRaise v).regs = s.regs := by unfold Hw.msixRaise; rfl
@[simp] theorem Hw.msixRaise_strapReeve (s : Hw) (v : Nat) : (s.msixRaise v).strapReeve = s.strapReeve := by unfold Hw.msixRaise; rfl
@[simp] theorem Hw.msixRaise_strapTwinB (s : Hw) (v : Nat) : (s.msixRaise v).strapTwinB = s.strapTwinB := by unfold Hw.msixRaise; rfl
@[simp] theorem Hw.msixRaise_strapRef (s : Hw) (v : Nat) : (s.msixRaise v).strapRef = s.strapRef := by unfold Hw.msixRaise; rfl
@[simp] theorem Hw.msixRaise_time (s : Hw) (v : Nat) : (s.msixRaise v).time = s.time := by unfold Hw.msixRaise; rfl
@[simp] theorem Hw.msixRaise_log (s : Hw) (v : Nat) : (s.msixRaise v).log = s.log := by unfold Hw.msixRaise; rfl
@[simp] theorem Hw.msixRaise_nv (s : Hw) (v : Nat) : (s.msixRaise v).nv = s.nv := by unfold Hw.msixRaise; rfl
@[simp] theorem Hw.msixRaise_sto (s : Hw) (v : Nat) : (s.msixRaise v).sto = s.sto := by unfold Hw.msixRaise; rfl
@[simp] theorem Hw.msixRaise_ops (s : Hw) (v : Nat) : (s.msixRaise v).ops = s.ops := by unfold Hw.msixRaise; rfl
@[simp] theorem Hw.msixRaise_twin (s : Hw) (v : Nat) : (s.msixRaise v).twin = s.twin := by unfold Hw.msixRaise; rfl
@[simp] theorem Hw.msixRaise_reeve (s : Hw) (v : Nat) : (s.msixRaise v).reeve = s.reeve := by unfold Hw.msixRaise; rfl
@[simp] theorem Hw.msixRaise_xarr (s : Hw) (v : Nat) : (s.msixRaise v).xarr = s.xarr := by unfold Hw.msixRaise; rfl
@[simp] theorem Hw.msixRaise_xin (s : Hw) (v : Nat) : (s.msixRaise v).xin = s.xin := by unfold Hw.msixRaise; rfl
@[simp] theorem Hw.msixRaise_live (s : Hw) (v : Nat) : (s.msixRaise v).live = s.live := by unfold Hw.msixRaise; rfl
@[simp] theorem Hw.msixRaise_staged (s : Hw) (v : Nat) : (s.msixRaise v).staged = s.staged := by unfold Hw.msixRaise; rfl
@[simp] theorem Hw.msixRaise_xram (s : Hw) (v : Nat) : (s.msixRaise v).xram = s.xram := by unfold Hw.msixRaise; rfl
@[simp] theorem Hw.msixRaise_trg (s : Hw) (v : Nat) : (s.msixRaise v).trg = s.trg := by unfold Hw.msixRaise; rfl
@[simp] theorem Hw.msixRaise_int (s : Hw) (v : Nat) : (s.msixRaise v).int = s.int := by unfold Hw.msixRaise; rfl
@[simp] theorem Hw.msixRaise_fch (s : Hw) (v : Nat) : (s.msixRaise v).fch = s.fch := by unfold Hw.msixRaise; rfl
@[simp] theorem Hw.msixRaise_hkc (s : Hw) (v : Nat) : (s.msixRaise v).hkc = s.hkc := by unfold Hw.msixRaise; rfl
@[simp] theorem Hw.msixRaise_sieve (s : Hw) (v : Nat) : (s.msixRaise v).sieve = s.sieve := by unfold Hw.msixRaise; rfl
@[simp] theorem Hw.msixRaise_le (s : Hw) (v : Nat) : (s.msixRaise v).le = s.le := by unfold Hw.msixRaise; rfl
@[simp] theorem Hw.msixRaise_ramp (s : Hw) (v : Nat) : (s.msixRaise v).ramp = s.ramp := by unfold Hw.msixRaise; rfl
@[simp] theorem Hw.msixRaise_vsq (s : Hw) (v : Nat) : (s.msixRaise v).vsq = s.vsq := by unfold Hw.msixRaise; rfl
@[simp] theorem Hw.msixRaise_shf (s : Hw) (v : Nat) : (s.msixRaise v).shf = s.shf := by unfold Hw.msixRaise; rfl
@[simp] theorem Hw.msixRaise_lst (s : Hw) (v : Nat) : (s.msixRaise v).lst = s.lst := by unfold Hw.msixRaise; rfl
@[simp] theorem Hw.msixRaise_ory (s : Hw) (v : Nat) : (s.msixRaise v).ory = s.ory := by unfold Hw.msixRaise; rfl
@[simp] theorem Hw.msixRaise_chr (s : Hw) (v : Nat) : (s.msixRaise v).chr = s.chr := by unfold Hw.msixRaise; rfl
@[simp] theorem Hw.msixRaise_saf (s : Hw) (v : Nat) : (s.msixRaise v).saf = s.saf := by unfold Hw.msixRaise; rfl
@[simp] theorem Hw.msixRaise_net (s : Hw) (v : Nat) : (s.msixRaise v).net = s.net := by unfold Hw.msixRaise; rfl
@[simp] theorem Hw.msixRaise_pwr (s : Hw) (v : Nat) : (s.msixRaise v).pwr = s.pwr := by unfold Hw.msixRaise; rfl
@[simp] theorem Hw.msixRaise_inReset (s : Hw) (v : Nat) : (s.msixRaise v).inReset = s.inReset := by unfold Hw.msixRaise; rfl
@[simp] theorem Hw.msixRaise_free (s : Hw) (v : Nat) : (s.msixRaise v).free = s.free := by unfold Hw.msixRaise; rfl

/-! ### `chrNews` -/

@[simp] theorem Hw.chrNews_regs (s : Hw) (path at_ : Nat) : (s.chrNews path at_).regs = s.regs := by unfold Hw.chrNews; rfl
@[simp] theorem Hw.chrNews_strapReeve (s : Hw) (path at_ : Nat) : (s.chrNews path at_).strapReeve = s.strapReeve := by unfold Hw.chrNews; rfl
@[simp] theorem Hw.chrNews_strapTwinB (s : Hw) (path at_ : Nat) : (s.chrNews path at_).strapTwinB = s.strapTwinB := by unfold Hw.chrNews; rfl
@[simp] theorem Hw.chrNews_strapRef (s : Hw) (path at_ : Nat) : (s.chrNews path at_).strapRef = s.strapRef := by unfold Hw.chrNews; rfl
@[simp] theorem Hw.chrNews_time (s : Hw) (path at_ : Nat) : (s.chrNews path at_).time = s.time := by unfold Hw.chrNews; rfl
@[simp] theorem Hw.chrNews_cmd (s : Hw) (path at_ : Nat) : (s.chrNews path at_).cmd = s.cmd := by unfold Hw.chrNews; rfl
@[simp] theorem Hw.chrNews_log (s : Hw) (path at_ : Nat) : (s.chrNews path at_).log = s.log := by unfold Hw.chrNews; rfl
@[simp] theorem Hw.chrNews_nv (s : Hw) (path at_ : Nat) : (s.chrNews path at_).nv = s.nv := by unfold Hw.chrNews; rfl
@[simp] theorem Hw.chrNews_sto (s : Hw) (path at_ : Nat) : (s.chrNews path at_).sto = s.sto := by unfold Hw.chrNews; rfl
@[simp] theorem Hw.chrNews_ops (s : Hw) (path at_ : Nat) : (s.chrNews path at_).ops = s.ops := by unfold Hw.chrNews; rfl
@[simp] theorem Hw.chrNews_twin (s : Hw) (path at_ : Nat) : (s.chrNews path at_).twin = s.twin := by unfold Hw.chrNews; rfl
@[simp] theorem Hw.chrNews_reeve (s : Hw) (path at_ : Nat) : (s.chrNews path at_).reeve = s.reeve := by unfold Hw.chrNews; rfl
@[simp] theorem Hw.chrNews_xarr (s : Hw) (path at_ : Nat) : (s.chrNews path at_).xarr = s.xarr := by unfold Hw.chrNews; rfl
@[simp] theorem Hw.chrNews_xin (s : Hw) (path at_ : Nat) : (s.chrNews path at_).xin = s.xin := by unfold Hw.chrNews; rfl
@[simp] theorem Hw.chrNews_live (s : Hw) (path at_ : Nat) : (s.chrNews path at_).live = s.live := by unfold Hw.chrNews; rfl
@[simp] theorem Hw.chrNews_staged (s : Hw) (path at_ : Nat) : (s.chrNews path at_).staged = s.staged := by unfold Hw.chrNews; rfl
@[simp] theorem Hw.chrNews_xram (s : Hw) (path at_ : Nat) : (s.chrNews path at_).xram = s.xram := by unfold Hw.chrNews; rfl
@[simp] theorem Hw.chrNews_trg (s : Hw) (path at_ : Nat) : (s.chrNews path at_).trg = s.trg := by unfold Hw.chrNews; rfl
@[simp] theorem Hw.chrNews_int (s : Hw) (path at_ : Nat) : (s.chrNews path at_).int = s.int := by unfold Hw.chrNews; rfl
@[simp] theorem Hw.chrNews_fch (s : Hw) (path at_ : Nat) : (s.chrNews path at_).fch = s.fch := by unfold Hw.chrNews; rfl
@[simp] theorem Hw.chrNews_hkc (s : Hw) (path at_ : Nat) : (s.chrNews path at_).hkc = s.hkc := by unfold Hw.chrNews; rfl
@[simp] theorem Hw.chrNews_sieve (s : Hw) (path at_ : Nat) : (s.chrNews path at_).sieve = s.sieve := by unfold Hw.chrNews; rfl
@[simp] theorem Hw.chrNews_le (s : Hw) (path at_ : Nat) : (s.chrNews path at_).le = s.le := by unfold Hw.chrNews; rfl
@[simp] theorem Hw.chrNews_ramp (s : Hw) (path at_ : Nat) : (s.chrNews path at_).ramp = s.ramp := by unfold Hw.chrNews; rfl
@[simp] theorem Hw.chrNews_vsq (s : Hw) (path at_ : Nat) : (s.chrNews path at_).vsq = s.vsq := by unfold Hw.chrNews; rfl
@[simp] theorem Hw.chrNews_shf (s : Hw) (path at_ : Nat) : (s.chrNews path at_).shf = s.shf := by unfold Hw.chrNews; rfl
@[simp] theorem Hw.chrNews_lst (s : Hw) (path at_ : Nat) : (s.chrNews path at_).lst = s.lst := by unfold Hw.chrNews; rfl
@[simp] theorem Hw.chrNews_ory (s : Hw) (path at_ : Nat) : (s.chrNews path at_).ory = s.ory := by unfold Hw.chrNews; rfl
@[simp] theorem Hw.chrNews_saf (s : Hw) (path at_ : Nat) : (s.chrNews path at_).saf = s.saf := by unfold Hw.chrNews; rfl
@[simp] theorem Hw.chrNews_net (s : Hw) (path at_ : Nat) : (s.chrNews path at_).net = s.net := by unfold Hw.chrNews; rfl
@[simp] theorem Hw.chrNews_pwr (s : Hw) (path at_ : Nat) : (s.chrNews path at_).pwr = s.pwr := by unfold Hw.chrNews; rfl
@[simp] theorem Hw.chrNews_inReset (s : Hw) (path at_ : Nat) : (s.chrNews path at_).inReset = s.inReset := by unfold Hw.chrNews; rfl
@[simp] theorem Hw.chrNews_free (s : Hw) (path at_ : Nat) : (s.chrNews path at_).free = s.free := by unfold Hw.chrNews; rfl

/-! ### `setWord` -/

@[simp] theorem Hw.setWord_strapReeve (s : Hw) (a v : Nat) : (s.setWord a v).strapReeve = s.strapReeve := Hw.setReg_strapReeve _ _ _
@[simp] theorem Hw.setWord_strapTwinB (s : Hw) (a v : Nat) : (s.setWord a v).strapTwinB = s.strapTwinB := Hw.setReg_strapTwinB _ _ _
@[simp] theorem Hw.setWord_strapRef (s : Hw) (a v : Nat) : (s.setWord a v).strapRef = s.strapRef := Hw.setReg_strapRef _ _ _
@[simp] theorem Hw.setWord_time (s : Hw) (a v : Nat) : (s.setWord a v).time = s.time := Hw.setReg_time _ _ _
@[simp] theorem Hw.setWord_cmd (s : Hw) (a v : Nat) : (s.setWord a v).cmd = s.cmd := Hw.setReg_cmd _ _ _
@[simp] theorem Hw.setWord_log (s : Hw) (a v : Nat) : (s.setWord a v).log = s.log := Hw.setReg_log _ _ _
@[simp] theorem Hw.setWord_nv (s : Hw) (a v : Nat) : (s.setWord a v).nv = s.nv := Hw.setReg_nv _ _ _
@[simp] theorem Hw.setWord_sto (s : Hw) (a v : Nat) : (s.setWord a v).sto = s.sto := Hw.setReg_sto _ _ _
@[simp] theorem Hw.setWord_ops (s : Hw) (a v : Nat) : (s.setWord a v).ops = s.ops := Hw.setReg_ops _ _ _
@[simp] theorem Hw.setWord_twin (s : Hw) (a v : Nat) : (s.setWord a v).twin = s.twin := Hw.setReg_twin _ _ _
@[simp] theorem Hw.setWord_reeve (s : Hw) (a v : Nat) : (s.setWord a v).reeve = s.reeve := Hw.setReg_reeve _ _ _
@[simp] theorem Hw.setWord_xarr (s : Hw) (a v : Nat) : (s.setWord a v).xarr = s.xarr := Hw.setReg_xarr _ _ _
@[simp] theorem Hw.setWord_xin (s : Hw) (a v : Nat) : (s.setWord a v).xin = s.xin := Hw.setReg_xin _ _ _
@[simp] theorem Hw.setWord_live (s : Hw) (a v : Nat) : (s.setWord a v).live = s.live := Hw.setReg_live _ _ _
@[simp] theorem Hw.setWord_staged (s : Hw) (a v : Nat) : (s.setWord a v).staged = s.staged := Hw.setReg_staged _ _ _
@[simp] theorem Hw.setWord_xram (s : Hw) (a v : Nat) : (s.setWord a v).xram = s.xram := Hw.setReg_xram _ _ _
@[simp] theorem Hw.setWord_trg (s : Hw) (a v : Nat) : (s.setWord a v).trg = s.trg := Hw.setReg_trg _ _ _
@[simp] theorem Hw.setWord_int (s : Hw) (a v : Nat) : (s.setWord a v).int = s.int := Hw.setReg_int _ _ _
@[simp] theorem Hw.setWord_fch (s : Hw) (a v : Nat) : (s.setWord a v).fch = s.fch := Hw.setReg_fch _ _ _
@[simp] theorem Hw.setWord_hkc (s : Hw) (a v : Nat) : (s.setWord a v).hkc = s.hkc := Hw.setReg_hkc _ _ _
@[simp] theorem Hw.setWord_sieve (s : Hw) (a v : Nat) : (s.setWord a v).sieve = s.sieve := Hw.setReg_sieve _ _ _
@[simp] theorem Hw.setWord_le (s : Hw) (a v : Nat) : (s.setWord a v).le = s.le := Hw.setReg_le _ _ _
@[simp] theorem Hw.setWord_ramp (s : Hw) (a v : Nat) : (s.setWord a v).ramp = s.ramp := Hw.setReg_ramp _ _ _
@[simp] theorem Hw.setWord_vsq (s : Hw) (a v : Nat) : (s.setWord a v).vsq = s.vsq := Hw.setReg_vsq _ _ _
@[simp] theorem Hw.setWord_shf (s : Hw) (a v : Nat) : (s.setWord a v).shf = s.shf := Hw.setReg_shf _ _ _
@[simp] theorem Hw.setWord_lst (s : Hw) (a v : Nat) : (s.setWord a v).lst = s.lst := Hw.setReg_lst _ _ _
@[simp] theorem Hw.setWord_ory (s : Hw) (a v : Nat) : (s.setWord a v).ory = s.ory := Hw.setReg_ory _ _ _
@[simp] theorem Hw.setWord_chr (s : Hw) (a v : Nat) : (s.setWord a v).chr = s.chr := Hw.setReg_chr _ _ _
@[simp] theorem Hw.setWord_saf (s : Hw) (a v : Nat) : (s.setWord a v).saf = s.saf := Hw.setReg_saf _ _ _
@[simp] theorem Hw.setWord_net (s : Hw) (a v : Nat) : (s.setWord a v).net = s.net := Hw.setReg_net _ _ _
@[simp] theorem Hw.setWord_pwr (s : Hw) (a v : Nat) : (s.setWord a v).pwr = s.pwr := Hw.setReg_pwr _ _ _
@[simp] theorem Hw.setWord_inReset (s : Hw) (a v : Nat) : (s.setWord a v).inReset = s.inReset := Hw.setReg_inReset _ _ _
@[simp] theorem Hw.setWord_free (s : Hw) (a v : Nat) : (s.setWord a v).free = s.free := Hw.setReg_free _ _ _

end Sys2Proof.Machine
end

