-- ==== Sys2Proof/Laws/Regs.lean ====
section
/-! SUPPORT. Registers and fields: what is read after a write. -/

namespace Sys2Proof.Machine

/-! ### Registers -/

@[simp] theorem Hw.reg_setReg_self (s : Hw) (a : Nat) (v : Word) : (s.setReg a v).reg a = v := by
  simp [Hw.reg, Hw.setReg]

theorem Hw.reg_setReg_ne (s : Hw) {a b : Nat} (v : Word) (h : b ≠ a) : (s.setReg a v).reg b = s.reg b :=
  smapGet_set_ne _ _ _ _ h

theorem Hw.reg_setReg (s : Hw) (a b : Nat) (v : Word) : (s.setReg a v).reg b = if b = a then v else s.reg b := by
  by_cases h : b = a
  · subst h; simp
  · simp [h, s.reg_setReg_ne v h]

@[simp] theorem Hw.reg_put_self (s : Hw) (f : Fld) (v : Nat) : (s.put f v).reg f.addr = f.into (s.reg f.addr) v := by
  simp [Hw.put]

theorem Hw.reg_put_ne (s : Hw) (f : Fld) (v : Nat) {b : Nat} (h : b ≠ f.addr) : (s.put f v).reg b = s.reg b :=
  s.reg_setReg_ne _ h

theorem Hw.reg_put (s : Hw) (f : Fld) (v b : Nat) :
    (s.put f v).reg b = if b = f.addr then f.into (s.reg f.addr) v else s.reg b := s.reg_setReg _ _ _

/-- Registers depend on nothing but the list of their words. -/
theorem Hw.reg_congr {s t : Hw} (h : t.regs = s.regs) (a : Nat) : t.reg a = s.reg a := by simp [Hw.reg, h]

theorem Hw.get_congr {s t : Hw} {f : Fld} (h : t.reg f.addr = s.reg f.addr) : t.get f = s.get f := by simp [Hw.get, h]

theorem Hw.flag_congr {s t : Hw} {f : Fld} (h : t.reg f.addr = s.reg f.addr) : t.flag f = s.flag f := by
  simp [Hw.flag, Hw.get_congr h]

/-! ### Fields -/

/-- A field that lies within a 32-bit word. -/
abbrev Fld.Ok (f : Fld) : Prop := f.lo ≤ f.hi ∧ f.hi < 32

/-- The word of a field write: the bits above, the field, the bits below. -/
theorem Fld.into_toNat {f : Fld} (hf : f.Ok) (w : Word) (v : Nat) :
    (f.into w v).toNat = w.toNat / 2 ^ (f.hi + 1) * 2 ^ (f.hi + 1) + v % 2 ^ f.width * 2 ^ f.lo + w.toNat % 2 ^ f.lo := by
  obtain ⟨h1, h2⟩ := hf
  obtain ⟨k, hk⟩ : ∃ k, 32 = f.hi + 1 + k := ⟨31 - f.hi, by omega⟩
  have hw : f.hi + 1 = f.lo + f.width := by unfold Fld.width; omega
  have e32 : (2 : Nat) ^ 32 = 2 ^ (f.hi + 1) * 2 ^ k := by rw [hk, Nat.pow_add]
  have ehi : (2 : Nat) ^ (f.hi + 1) = 2 ^ f.lo * 2 ^ f.width := by rw [hw, Nat.pow_add]
  have d1 : w.toNat = w.toNat / 2 ^ (f.hi + 1) * 2 ^ (f.hi + 1) + f.of w * 2 ^ f.lo + w.toNat % 2 ^ f.lo := by
    have a := Nat.div_add_mod w.toNat (2 ^ f.lo)
    have b := Nat.div_add_mod (w.toNat / 2 ^ f.lo) (2 ^ f.width)
    rw [Nat.div_div_eq_div_mul, ← ehi] at b
    unfold Fld.of
    calc w.toNat = 2 ^ f.lo * (w.toNat / 2 ^ f.lo) + w.toNat % 2 ^ f.lo := a.symm
      _ = 2 ^ f.lo * (2 ^ f.width * (w.toNat / 2 ^ (f.hi + 1)) + w.toNat / 2 ^ f.lo % 2 ^ f.width) + w.toNat % 2 ^ f.lo := by rw [b]
      _ = _ := by rw [ehi]; ring
  have hH : w.toNat / 2 ^ (f.hi + 1) < 2 ^ k := by
    rw [Nat.div_lt_iff_lt_mul (Nat.two_pow_pos _), Nat.mul_comm, ← e32]; exact w.isLt
  have hv : v % 2 ^ f.width < 2 ^ f.width := Nat.mod_lt _ (Nat.two_pow_pos _)
  have hl : w.toNat % 2 ^ f.lo < 2 ^ f.lo := Nat.mod_lt _ (Nat.two_pow_pos _)
  have hsum : v % 2 ^ f.width * 2 ^ f.lo + w.toNat % 2 ^ f.lo < 2 ^ (f.hi + 1) := by
    rw [ehi]
    calc _ < v % 2 ^ f.width * 2 ^ f.lo + 2 ^ f.lo := by omega
      _ = (v % 2 ^ f.width + 1) * 2 ^ f.lo := by ring
      _ ≤ 2 ^ f.width * 2 ^ f.lo := Nat.mul_le_mul_right _ hv
      _ = _ := Nat.mul_comm _ _
  unfold Fld.into
  rw [BitVec.toNat_ofNat, Nat.mod_eq_of_lt]
  · omega
  · have : w.toNat / 2 ^ (f.hi + 1) * 2 ^ (f.hi + 1) + 2 ^ (f.hi + 1) ≤ 2 ^ 32 := by
      rw [e32, ← Nat.succ_mul, Nat.mul_comm (2 ^ (f.hi + 1)) (2 ^ k)]
      exact Nat.mul_le_mul_right _ hH
    omega

/-- A field reads as what was last written into it. -/
theorem Fld.of_into_self {f : Fld} (hf : f.Ok) (w : Word) (v : Nat) : f.of (f.into w v) = v % 2 ^ f.width := by
  have hw : f.hi + 1 = f.lo + f.width := by obtain ⟨h1, h2⟩ := hf; unfold Fld.width; omega
  have hl : w.toNat % 2 ^ f.lo < 2 ^ f.lo := Nat.mod_lt _ (Nat.two_pow_pos _)
  rw [Fld.of, Fld.into_toNat hf, hw, Nat.pow_add]
  have : w.toNat / (2 ^ f.lo * 2 ^ f.width) * (2 ^ f.lo * 2 ^ f.width) + v % 2 ^ f.width * 2 ^ f.lo + w.toNat % 2 ^ f.lo
      = w.toNat % 2 ^ f.lo + 2 ^ f.lo * (w.toNat / (2 ^ f.lo * 2 ^ f.width) * 2 ^ f.width + v % 2 ^ f.width) := by ring
  rw [this, Nat.add_mul_div_left _ _ (Nat.two_pow_pos _), Nat.div_eq_of_lt hl, Nat.zero_add, Nat.mul_comm, Nat.mul_add_mod,
    Nat.mod_mod]

/-- A field that lies apart from the written one reads as before. -/
theorem Fld.of_into_apart {f g : Fld} (hf : f.Ok) (hg : g.Ok) (h : g.hi < f.lo ∨ f.hi < g.lo) (w : Word) (v : Nat) :
    g.of (f.into w v) = g.of w := by
  obtain ⟨g1, g2⟩ := hg
  have hw : f.hi + 1 = f.lo + f.width := by obtain ⟨h1, h2⟩ := hf; unfold Fld.width; omega
  have gw : g.hi + 1 = g.lo + g.width := by unfold Fld.width; omega
  have key : ∀ x : Nat, x / 2 ^ g.lo % 2 ^ g.width = x % 2 ^ (g.hi + 1) / 2 ^ g.lo := by
    intro x; rw [gw, Nat.pow_add, Nat.mod_mul_right_div_self]
  have hl : w.toNat % 2 ^ f.lo < 2 ^ f.lo := Nat.mod_lt _ (Nat.two_pow_pos _)
  have hv : v % 2 ^ f.width < 2 ^ f.width := Nat.mod_lt _ (Nat.two_pow_pos _)
  unfold Fld.of
  rw [Fld.into_toNat hf]
  rcases h with h | h
  · -- below: the low bits are the same
    rw [key, key w.toNat]
    congr 1
    obtain ⟨k, hk⟩ : ∃ k, f.lo = g.hi + 1 + k := ⟨f.lo - (g.hi + 1), by omega⟩
    obtain ⟨l, hl'⟩ : ∃ l, f.hi + 1 = g.hi + 1 + l := ⟨f.hi - g.hi, by unfold Fld.Ok at hf; omega⟩
    rw [hl', hk, Nat.pow_add 2 (g.hi + 1) l, Nat.pow_add 2 (g.hi + 1) k]
    have : w.toNat / (2 ^ (g.hi + 1) * 2 ^ l) * (2 ^ (g.hi + 1) * 2 ^ l) + v % 2 ^ f.width * (2 ^ (g.hi + 1) * 2 ^ k)
        + w.toNat % (2 ^ (g.hi + 1) * 2 ^ k)
        = 2 ^ (g.hi + 1) * (w.toNat / (2 ^ (g.hi + 1) * 2 ^ l) * 2 ^ l + v % 2 ^ f.width * 2 ^ k)
          + w.toNat % (2 ^ (g.hi + 1) * 2 ^ k) := by ring
    rw [this, Nat.mul_add_mod, Nat.mod_mul_right_mod]
  · -- above: the high bits are the same
    obtain ⟨k, hk⟩ : ∃ k, g.lo = f.hi + 1 + k := ⟨g.lo - (f.hi + 1), by omega⟩
    have hsum : v % 2 ^ f.width * 2 ^ f.lo + w.toNat % 2 ^ f.lo < 2 ^ (f.hi + 1) := by
      rw [hw, Nat.pow_add]
      calc _ < v % 2 ^ f.width * 2 ^ f.lo + 2 ^ f.lo := by omega
        _ = (v % 2 ^ f.width + 1) * 2 ^ f.lo := by ring
        _ ≤ 2 ^ f.width * 2 ^ f.lo := Nat.mul_le_mul_right _ hv
        _ = _ := Nat.mul_comm _ _
    rw [hk, Nat.pow_add 2 (f.hi + 1) k, ← Nat.div_div_eq_div_mul, ← Nat.div_div_eq_div_mul]
    congr 2
    rw [Nat.add_assoc, Nat.mul_comm, Nat.mul_add_div (Nat.two_pow_pos _), Nat.div_eq_of_lt hsum, Nat.add_zero]

/-- A field of the part reads as what was last written into it. -/
theorem Hw.get_put_self (s : Hw) {f : Fld} (hf : f.Ok) (v : Nat) : (s.put f v).get f = v % 2 ^ f.width := by
  simp [Hw.get, Fld.of_into_self hf]

/-- A field of another register reads as before. -/
theorem Hw.get_put_ne (s : Hw) {f g : Fld} (v : Nat) (h : g.addr ≠ f.addr) : (s.put f v).get g = s.get g := by
  simp [Hw.get, s.reg_put_ne f v h]

/-- A field of the same register that lies apart reads as before. -/
theorem Hw.get_put_apart (s : Hw) {f g : Fld} (hf : f.Ok) (hg : g.Ok) (h : g.hi < f.lo ∨ f.hi < g.lo) (v : Nat) :
    (s.put f v).get g = s.get g := by
  by_cases ha : g.addr = f.addr
  · simp [Hw.get, ha, Fld.of_into_apart hf hg h]
  · exact s.get_put_ne v ha

/-- A flag that has been set reads as set. -/
theorem Hw.flag_raise (s : Hw) {f : Fld} (hf : f.Ok) : (s.raise f).flag f = true := by
  simp only [Hw.flag, Hw.raise, s.get_put_self hf]
  have : 1 < 2 ^ f.width := Nat.one_lt_two_pow (by obtain ⟨h1, h2⟩ := hf; unfold Fld.width; omega)
  simp [Nat.mod_eq_of_lt this]

end Sys2Proof.Machine
end

