-- ==== Sys2Proof/Laws/Host.lean ====
section
/-! SUPPORT. Host commands: what acceptance, the log entries and the reply do around a command's own part. -/

namespace Sys2Proof.Machine

theorem served_refl (u : Hw) : Served u u := ⟨fun _ _ => rfl, rfl⟩

theorem served_trans {u t v : Hw} (h : Served u t) (k : Served t v) : Served u v := by
  refine ⟨fun a ha => (k.1 a ha).trans (h.1 a ha), ?_⟩
  have e := k.2
  have e' := h.2
  calc ({ v with regs := u.regs, cmd := u.cmd, log := u.log } : Hw)
      = { ({ v with regs := t.regs, cmd := t.cmd, log := t.log } : Hw) with regs := u.regs, cmd := u.cmd, log := u.log } := rfl
    _ = { t with regs := u.regs, cmd := u.cmd, log := u.log } := by rw [e]
    _ = u := e'

theorem served_put {u t : Hw} (h : Served u t) {f : Fld} (hf : f.addr ∈ servedRegs) (v : Nat) : Served u (t.put f v) := by
  refine served_trans h ⟨fun a ha => t.reg_put_ne f v (fun e => ha (e ▸ hf)), rfl⟩

theorem served_cmd {u t : Hw} (h : Served u t) (c : CmdSt) : Served u { t with cmd := c } := served_trans h ⟨fun _ _ => rfl, rfl⟩

theorem served_log {u t : Hw} (h : Served u t) (l : LogSt) : Served u { t with log := l } := served_trans h ⟨fun _ _ => rfl, rfl⟩

/-! ### The log -/

theorem served_logRegs {u t : Hw} (h : Served u t) : Served u t.logRegs := by
  unfold Hw.logRegs Hw.putb
  exact served_put (served_put (served_put (served_put (served_put h (by decide) _) (by decide) _) (by decide) _) (by decide) _) (by decide) _

theorem logRegs_cmd (t : Hw) : t.logRegs.cmd = t.cmd := by
  unfold Hw.logRegs Hw.putb
  rw [Hw.put_cmd, Hw.put_cmd, Hw.put_cmd, Hw.put_cmd, Hw.put_cmd]

/-- An entry changes the log and its registers alone. -/
theorem served_logOne {u t : Hw} (h : Served u t) (tick origin session : Nat) (c : Chg) : Served u (t.logOne tick origin session c) :=
  served_logRegs (served_log h _)

theorem logOne_cmd (t : Hw) (tick origin session : Nat) (c : Chg) : (t.logOne tick origin session c).cmd = t.cmd := by
  simp only [Hw.logOne, logRegs_cmd]

theorem served_logAll {u t : Hw} (h : Served u t) (tick : Chg → Nat) (origin session : Nat) (cs : List Chg) :
    Served u (t.logAll tick origin session cs) ∧ (t.logAll tick origin session cs).cmd = t.cmd := by
  induction cs generalizing t with
  | nil => exact ⟨h, rfl⟩
  | cons c cs ih =>
    obtain ⟨h1, h2⟩ := ih (served_logOne h (tick c) origin session c)
    exact ⟨h1, h2.trans (logOne_cmd t (tick c) origin session c)⟩

/-- Log entries and CFG_CHECK leave the rest as the command's own part left it (R406, R415). -/
theorem served_logged (d : Done) (h : Hdr) (s : Hw) : Served d.hw (d.logged h s) ∧ (d.logged h s).cmd = d.hw.cmd := by
  unfold Done.logged
  split
  · exact ⟨served_refl _, rfl⟩
  · obtain ⟨h1, h2⟩ := served_logAll (served_refl d.hw) s.effectOf (logOrigin h.transport (s.roleOf h) h.port) h.session d.log
    exact ⟨served_put h1 (by decide) _, by rw [Hw.raise, Hw.put_cmd, h2]⟩

/-! ### Replies -/

theorem served_deliver {u t : Hw} (h : Served u t) (r : Reply) : Served u (t.deliver r) := by
  unfold Hw.deliver
  split
  · exact served_put (served_put (served_cmd h _) (by decide) _) (by decide) _
  · exact served_cmd h _
  · exact served_cmd h _
  · exact h

theorem served_reply {u t : Hw} (h : Served u t) (hd : Hdr) (code : Nat) (st : Status) (data : List Byte) :
    Served u (t.reply hd code st data) := by
  unfold Hw.reply
  split
  · exact served_deliver h _
  · split
    · exact served_deliver (served_cmd h _) _
    · exact h

/-- A delivered reply stands at its port. -/
theorem replied_deliver (t : Hw) (h : Hdr) (code : Nat) (st : Status) (data : List Byte) (key : BitVec 256)
    (ht : h.transport ≠ .internal) : Replied (t.deliver ⟨h.transport, h.port, code, h.seq, h.session, st, data, key⟩) h code st data := by
  refine ⟨key, ?_⟩
  obtain ⟨tr, p, v, f, q, se, l, c⟩ := h
  cases tr with
  | pcie =>
    show smapGet none (Hw.deliver _ _).cmd.mbReplies p = some _
    simp only [Hw.deliver, Hw.raiseBit, Hw.clearBit, Hw.put_cmd, smapGet_set_self]
  | spi => rfl
  | udp => rfl
  | internal => exact absurd rfl ht

/-- A session found before a change that keeps identifiers and transports is found after it. -/
theorem session_onSession (s : Hw) (id : Nat) (f : Session → Session) (h : Hdr)
    (hf : ∀ x, (f x).id = x.id ∧ (f x).transport = x.transport) :
    ((s.onSession id f).session? h).isSome = (s.session? h).isSome := by
  unfold Hw.session?
  simp only [Hw.onSession_cmd]
  generalize s.cmd.sessions = l
  induction l with
  | nil => rfl
  | cons x xs ih =>
    simp only [List.map_cons, List.find?_cons]
    have hx : ((if x.id = id then f x else x).id == h.session &&
        decide ((if x.id = id then f x else x).transport = h.transport)) =
        (x.id == h.session && decide (x.transport = h.transport)) := by
      split
      · rw [(hf x).1, (hf x).2]
      · rfl
    rw [hx]
    cases (x.id == h.session && decide (x.transport = h.transport)) with
    | true => rfl
    | false => exact ih

/-- The session that a reply goes to is open, or none is needed. -/
def Answerable (s : Hw) (h : Hdr) (code : Nat) : Prop := h.session = 0 ∨ code = 1 ∨ (s.session? h).isSome = true

theorem replied_reply (t : Hw) (h : Hdr) (code : Nat) (st : Status) (data : List Byte) (ht : h.transport ≠ .internal)
    (hs : Answerable t h code) (hf : Fits h data) : Replied (t.reply h code st data) h code st data := by
  unfold Fits at hf
  have hr : ∃ key, mkReply t h code st data = ⟨h.transport, h.port, code, h.seq, h.session, st, data, key⟩ := by
    unfold mkReply
    simp only [hf, decide_true, if_true]
    exact ⟨_, rfl⟩
  obtain ⟨key, hk⟩ := hr
  unfold Hw.reply
  simp only [hk]
  split
  · exact replied_deliver _ _ _ _ _ _ ht
  · rename_i hn
    have : (t.session? h).isSome = true := by rcases hs with h1 | h1 | h1 <;> simp_all
    simp only [this, if_true]
    exact replied_deliver _ _ _ _ _ _ ht

/-! ### Acceptance -/

theorem accept_cmd (s : Hw) (h : Hdr) : { s.accept h with cmd := s.cmd } = s := rfl

theorem session_accept (s : Hw) (h k : Hdr) : ((s.accept h).session? k).isSome = (s.session? k).isSome :=
  session_onSession s h.session _ k fun _ => ⟨rfl, rfl⟩

theorem sessionBusy_accept (s : Hw) (h : Hdr) (id : Nat) : (s.accept h).sessionBusy id = s.sessionBusy id := rfl

theorem gate_transport {op : Op} {s : Hw} {h : Hdr} (hg : gate op s h = .accept) : h.transport ≠ .internal := by
  intro e
  unfold gate at hg
  rw [if_pos (by rw [e]; rfl)] at hg
  cases hg

theorem gate_session {op : Op} {s : Hw} {h : Hdr} (hg : gate op s h = .accept) : sessionOk op s h = true := by
  by_contra hc
  unfold gate at hg
  by_cases h1 : (!s.transportOn h.transport) = true
  · rw [if_pos h1] at hg; cases hg
  rw [if_neg h1] at hg
  by_cases h2 : h.version ≠ 1 ∨ h.flags ≠ 0
  · rw [if_pos h2] at hg; cases hg
  rw [if_neg h2] at hg
  by_cases h3 : (!h.checkOk) = true
  · rw [if_pos h3] at hg
    by_cases h4 : h.transport = .udp
    · rw [if_pos h4] at hg; cases hg
    · rw [if_neg h4] at hg; cases hg
  rw [if_neg h3] at hg
  by_cases h5 : cmdLimit h.transport < h.length
  · rw [if_pos h5] at hg; cases hg
  rw [if_neg h5, if_pos (by simpa using hc)] at hg
  cases hg

/-- An opcode whose commands name an open session. -/
def Op.Ordinary (op : Op) : Prop := op.noSession = false ∧ op.pendingId = false

theorem Op.plain_ordinary (code : Nat) (r : Role) : (Op.plain code r).Ordinary := ⟨rfl, rfl⟩
theorem Op.sized_ordinary (code : Nat) (r : Role) (n : Nat) : (Op.sized code r n).Ordinary := ⟨rfl, rfl⟩

/-- An accepted command of such an opcode has one. -/
theorem accepts_session {op : Op} {h : Hdr} {s : Hw} (ho : op.Ordinary) (ha : Accepts op h s) : (s.session? h).isSome = true := by
  have := gate_session ha.2.2.1
  by_cases h0 : h.session = 0
  · simp [sessionOk, h0, ho.1, ho.2] at this
  · simpa [sessionOk, h0, ho.1, ho.2] using this

/-- An accepted command runs its own part (R384, R385). -/
theorem hostCmd_accepted {op : Op} {h : Hdr} {s : Hw} (ha : Accepts op h s) (i : Instr) (body : Hw → Done) :
    hostCmd op i h body s = runBody op h body (s.accept h) := by
  obtain ⟨h1, h2, h3, h4, _⟩ := ha
  simp [hostCmd, h1, h2, h3, sessionBusy_accept, h4]

/-- Parameters of the right size leave the command's own part as it is. -/
theorem withSize_fits {op : Op} {h : Hdr} (hz : op.sizeBad h = false) (body : Hw → Done) (s : Hw) : withSize op h body s = body s := by
  simp [withSize, hz]

/-- The policy of R417 lets a command's changes in. -/
def Done.roomy (d : Done) (s : Hw) : Prop :=
  d.log = [] ∨ s.flag LOG_CFG_LOG_POLICY = false ∨ 256 + d.log.length ≤ logSlots - d.hw.log.unexported

theorem not_refused {d : Done} {s : Hw} (h : d.roomy s) : d.refused s = false := by
  unfold Done.refused
  rcases h with h | h | h
  · simp [h]
  · simp [h]
  · have : ¬ (logSlots - d.hw.log.unexported < 256 + d.log.length) := by omega
    simp [this]

/-- What an accepted command without a later reply leaves and answers. -/
theorem runBody_now {op : Op} {h : Hdr} {body : Hw → Done} {s : Hw} (hz : op.sizeBad h = false) (hw : (body s).wait = none) (hr : (body s).roomy s)
    (ht : h.transport ≠ .internal) (hs : Answerable (body s).hw h op.code) (hf : Fits h (body s).data) :
    Served (body s).hw (runBody op h body s) ∧ Replied (runBody op h body s) h op.code (body s).status (body s).data := by
  have e : runBody op h body s = ((body s).logged h s).reply h op.code (body s).status (body s).data := by
    simp [runBody, withSize_fits hz, not_refused hr, hw]
  obtain ⟨l1, l2⟩ := served_logged (body s) h s
  rw [e]
  refine ⟨served_reply l1 h _ _ _, replied_reply _ _ _ _ _ ht ?_ hf⟩
  unfold Answerable Hw.session? at *
  rw [l2]; exact hs

/-- What an accepted command with a later reply leaves: it waits. -/
theorem runBody_wait {op : Op} {h : Hdr} {body : Hw → Done} {s : Hw} {k : WaitKind} (hz : op.sizeBad h = false) (hw : (body s).wait = some k)
    (hr : (body s).roomy s) :
    Served (body s).hw (runBody op h body s) ∧ (runBody op h body s).cmd.waiting = (body s).hw.cmd.waiting ++ [⟨h, op.code, k⟩] := by
  obtain ⟨l1, l2⟩ := served_logged (body s) h s
  have e : runBody op h body s = { (body s).logged h s with
      cmd := { ((body s).logged h s).cmd with waiting := ((body s).logged h s).cmd.waiting ++ [⟨h, op.code, k⟩] } } := by
    simp [runBody, withSize_fits hz, not_refused hr, hw]
  rw [e]
  exact ⟨served_cmd l1 _, by rw [← l2]⟩

/-! ### What acceptance leaves as it was -/

@[simp] theorem accept_reg (s : Hw) (h : Hdr) (a : Nat) : (s.accept h).reg a = s.reg a := rfl
@[simp] theorem accept_view (s : Hw) (h : Hdr) (a : Nat) : (s.accept h).view a = s.view a := rfl
@[simp] theorem accept_get (s : Hw) (h : Hdr) (f : Fld) : (s.accept h).get f = s.get f := rfl
@[simp] theorem accept_geti (s : Hw) (h : Hdr) (f : Fld) : (s.accept h).geti f = s.geti f := rfl
@[simp] theorem accept_flag (s : Hw) (h : Hdr) (f : Fld) : (s.accept h).flag f = s.flag f := rfl
@[simp] theorem accept_liveReg (s : Hw) (h : Hdr) (a : Nat) : (s.accept h).liveReg a = s.liveReg a := rfl
@[simp] theorem accept_liveGet (s : Hw) (h : Hdr) (f : Fld) : (s.accept h).liveGet f = s.liveGet f := rfl
@[simp] theorem accept_liveInt (s : Hw) (h : Hdr) (f : Fld) : (s.accept h).liveInt f = s.liveInt f := rfl
@[simp] theorem accept_liveFlag (s : Hw) (h : Hdr) (f : Fld) : (s.accept h).liveFlag f = s.liveFlag f := rfl
@[simp] theorem accept_modeIn (s : Hw) (h : Hdr) (ms : List Nat) : (s.accept h).modeIn ms = s.modeIn ms := rfl
@[simp] theorem accept_wr (s : Hw) (h : Hdr) (a v : Nat) : (s.accept h).wr a v = s.wr a v := rfl
@[simp] theorem accept_unmet (s : Hw) (h : Hdr) (r : ModeReq) : (s.accept h).unmet r = s.unmet r := rfl
@[simp] theorem accept_pendOf (s : Hw) (h : Hdr) (k : Nat) : (s.accept h).pendOf k = s.pendOf k := rfl
@[simp] theorem accept_startWord (s : Hw) (h : Hdr) (r : ModeReq) : (s.accept h).startWord r = s.startWord r := rfl
@[simp] theorem accept_mode (s : Hw) (h : Hdr) : (s.accept h).mode = s.mode := rfl
@[simp] theorem accept_cfgMode (s : Hw) (h : Hdr) : (s.accept h).cfgMode = s.cfgMode := rfl
@[simp] theorem accept_switching (s : Hw) (h : Hdr) : (s.accept h).switching = s.switching := rfl
@[simp] theorem accept_active (s : Hw) (h : Hdr) : (s.accept h).active = s.active := rfl
@[simp] theorem accept_standby (s : Hw) (h : Hdr) : (s.accept h).standby = s.standby := rfl
@[simp] theorem accept_hasTwin (s : Hw) (h : Hdr) : (s.accept h).hasTwin = s.hasTwin := rfl
@[simp] theorem accept_blocking (s : Hw) (h : Hdr) : (s.accept h).blocking = s.blocking := rfl
@[simp] theorem accept_causes (s : Hw) (h : Hdr) : (s.accept h).causes = s.causes := rfl
@[simp] theorem accept_latched (s : Hw) (h : Hdr) : (s.accept h).latched = s.latched := rfl
@[simp] theorem accept_resetBars (s : Hw) (h : Hdr) : (s.accept h).resetBars = s.resetBars := rfl
@[simp] theorem accept_lanesInUse (s : Hw) (h : Hdr) : (s.accept h).lanesInUse = s.lanesInUse := rfl
@[simp] theorem accept_laneIdles (s : Hw) (h : Hdr) : (s.accept h).laneIdles = s.laneIdles := rfl
@[simp] theorem accept_log (s : Hw) (h : Hdr) : (s.accept h).log = s.log := rfl
@[simp] theorem accept_ticks (s : Hw) (h : Hdr) : (s.accept h).ticks = s.ticks := rfl
@[simp] theorem accept_nextTick (s : Hw) (h : Hdr) : (s.accept h).nextTick = s.nextTick := rfl
@[simp] theorem accept_leaveWord (s : Hw) (h : Hdr) : (s.accept h).leaveWord = s.leaveWord := rfl
@[simp] theorem accept_vdcMeas (s : Hw) (h : Hdr) : (s.accept h).vdcMeas = s.vdcMeas := rfl
@[simp] theorem accept_regBytes (s : Hw) (h : Hdr) (as : List Nat) : regBytes (s.accept h) as = regBytes s as := rfl

@[simp] theorem accept_twohandBars (s : Hw) (h k : Hdr) : (s.accept h).twohandBars k = s.twohandBars k := by
  unfold Hw.twohandBars Hw.session?
  rw [show (s.accept h).cmd.sessions = s.cmd.sessions.map (fun x => if x.id = h.session then
    { x with last := some h.seq, recent := (⟨h.seq, none⟩ :: x.recent).take 4, lastTick := s.ticks } else x) from rfl,
    show (s.accept h).ops = s.ops from rfl]
  generalize s.cmd.sessions = l
  induction l with
  | nil => rfl
  | cons x xs ih =>
    simp only [List.map_cons, List.find?_cons]
    by_cases hx : x.id = h.session
    · simp only [hx, if_true]
      cases (h.session == k.session && decide (x.transport = k.transport)) with
      | true => rfl
      | false => exact ih
    · simp only [hx, if_false]
      cases (x.id == k.session && decide (x.transport = k.transport)) with
      | true => rfl
      | false => exact ih

/-- A command whose own checks pass has its effect. -/
theorem checked_of {s : Hw} {cs : List (Bool × Status)} {e : Done} (h : firstFail cs = none) : checked s cs e = e := by
  simp [checked, h]

/-- The policy lets in the entries of a change that leaves the log alone. -/
theorem roomy_of {s u : Hw} {l : List Chg} {n : Nat} (h : Room s n) (hl : l.length ≤ n) (hu : u.log = s.log) (st : Status)
    (data : List Byte) (w : Option WaitKind) : ({ hw := u, status := st, data := data, log := l, wait := w } : Done).roomy s := by
  rcases h with h | h
  · exact Or.inr (Or.inl h)
  · exact Or.inr (Or.inr (by simp only [hu]; omega))

/-! ### Completion -/

/-- A command with a reply at once. -/
theorem performs_of {op : Op} {i : Instr} {h : Hdr} {body : Hw → Done} {s : State} {d : Done}
    (he : exec i s = .next (s.onHw (hostCmd op i h body))) (ha : Accepts op h s.hw) (hb : body (s.hw.accept h) = d)
    (hst : d.status = .ok) (hw : d.wait = none) (hr : d.roomy s.hw) (hs : Answerable d.hw h op.code) (hf : Fits h d.data) :
    Performs i h op.code s d.data d.hw := by
  subst hb
  obtain ⟨h1, h2⟩ := runBody_now (op := op) (s := s.hw.accept h) ha.2.2.2.2 hw hr (gate_transport ha.2.2.1) hs hf
  rw [hst] at h2
  refine ⟨_, he, rfl, rfl, ?_, ?_⟩
  · rw [State.onHw_hw, hostCmd_accepted ha]; exact h1
  · rw [State.onHw_hw, hostCmd_accepted ha]; exact h2

/-- A change of an opcode without exceptions, which leaves the sessions and the log alone. -/
theorem performs_change {op : Op} {i : Instr} {h : Hdr} {body : Hw → Done} {s : State} {u : Hw} {l : List Chg}
    {data : List Byte} {n : Nat} (ho : op.Ordinary)
    (he : exec i s = .next (s.onHw (hostCmd op i h body))) (ha : Accepts op h s.hw)
    (hb : body (s.hw.accept h) = { hw := u, data := data, log := l }) (hr : Room s.hw n) (hl : l.length ≤ n)
    (hc : u.cmd = (s.hw.accept h).cmd) (hlog : u.log = s.hw.log) (hf : Fits h data) : Performs i h op.code s data u := by
  refine performs_of (op := op) he ha hb rfl rfl (roomy_of hr hl hlog _ _ _) ?_ hf
  refine Or.inr (Or.inr ?_)
  have : (u.session? h).isSome = ((s.hw.accept h).session? h).isSome := by unfold Hw.session?; rw [hc]
  rw [this, session_accept]; exact accepts_session ho ha

/-- A command with a later reply. -/
theorem waits_of {op : Op} {i : Instr} {h : Hdr} {body : Hw → Done} {s : State} {u : Hw} {l : List Chg} {k : WaitKind} {n : Nat}
    (he : exec i s = .next (s.onHw (hostCmd op i h body))) (ha : Accepts op h s.hw)
    (hb : body (s.hw.accept h) = changeWait u l k) (hr : Room s.hw n) (hl : l.length ≤ n)
    (hlog : u.log = s.hw.log) (hq : u.cmd.waiting = s.hw.cmd.waiting) : Waits i h op.code s k u := by
  obtain ⟨h1, h2⟩ := runBody_wait (op := op) (h := h) (body := body) (s := s.hw.accept h) (k := k) ha.2.2.2.2 (by rw [hb]; rfl)
    (by rw [hb]; exact roomy_of (s := s.hw) hr hl hlog _ _ _)
  rw [hb] at h1 h2
  refine ⟨_, he, rfl, rfl, ?_, ?_⟩
  · rw [State.onHw_hw, hostCmd_accepted ha]; exact h1
  · rw [State.onHw_hw, hostCmd_accepted ha, h2]; rw [show (changeWait u l k).hw = u from rfl, hq]

theorem deliver_log (t : Hw) (r : Reply) : (t.deliver r).log = t.log := by
  unfold Hw.deliver
  cases r.transport <;> simp [Hw.raiseBit, Hw.clearBit]

theorem reply_log (t : Hw) (hd : Hdr) (code : Nat) (st : Status) (data : List Byte) : (t.reply hd code st data).log = t.log := by
  unfold Hw.reply
  split
  · exact deliver_log _ _
  · split
    · exact deliver_log _ _
    · rfl

/-- A command whose own part changes nothing answers with its status and results. -/
theorem unchanged_of {op : Op} {i : Instr} {h : Hdr} {body : Hw → Done} {s : State} {st : Status} {data : List Byte} (ho : op.Ordinary)
    (he : exec i s = .next (s.onHw (hostCmd op i h body))) (ha : Accepts op h s.hw)
    (hb : body (s.hw.accept h) = refuseWith (s.hw.accept h) st data) (hf : Fits h data) : Refuses i h op.code s st data := by
  have hs : Answerable (body (s.hw.accept h)).hw h op.code := by
    rw [hb]
    exact Or.inr (Or.inr (by rw [show (refuseWith (s.hw.accept h) st data).hw = s.hw.accept h from rfl, session_accept]
                             exact accepts_session ho ha))
  have hr : (body (s.hw.accept h)).roomy (s.hw.accept h) := by rw [hb]; exact Or.inl rfl
  obtain ⟨h1, h2⟩ := runBody_now (op := op) (s := s.hw.accept h) ha.2.2.2.2 (by rw [hb]; rfl) hr (gate_transport ha.2.2.1) hs
    (by rw [hb]; exact hf)
  rw [hb] at h1 h2
  refine ⟨_, he, rfl, rfl, ?_, ?_, ?_⟩
  · rw [State.onHw_hw, hostCmd_accepted ha]; exact h1
  · rw [State.onHw_hw, hostCmd_accepted ha]
    simp only [runBody, withSize_fits ha.2.2.2.2, not_refused hr]
    rw [hb]
    simp only [refuseWith, Done.logged, List.isEmpty_nil, if_true, if_false, Bool.false_eq_true]
    rw [reply_log]
    rfl
  · rw [State.onHw_hw, hostCmd_accepted ha]; exact h2

/-- A reading command: its own part changes nothing. -/
theorem answers_of {op : Op} {i : Instr} {h : Hdr} {body : Hw → Done} {s : State} {data : List Byte} (ho : op.Ordinary)
    (he : exec i s = .next (s.onHw (hostCmd op i h body))) (ha : Accepts op h s.hw)
    (hb : body (s.hw.accept h) = answer (s.hw.accept h) data) (hf : Fits h data) : Answers i h op.code s data :=
  unchanged_of ho he ha hb hf

/-- Results of registers and of a bounded length fit every transport. -/
theorem regBytes_length (s : Hw) (as : List Nat) : (regBytes s as).length = 4 * as.length := by
  have : ∀ a, (leBytes 4 (s.view a).toNat).length = 4 := fun a => by simp [leBytes]
  induction as with
  | nil => rfl
  | cons a as ih => simp only [regBytes, List.flatMap_cons, List.length_append, this, List.length_cons] at *; omega

theorem fits_small (h : Hdr) (data : List Byte) (hd : data.length ≤ 1398) : Fits h data := by
  unfold Fits replyLimit; split <;> omega

theorem leBytes_length (n v : Nat) : (leBytes n v).length = n := by
  induction n generalizing v with
  | zero => rfl
  | succ n ih => simp [leBytes, ih]

/-! ### How many entries a change makes -/

theorem regChgs_length (s t : Hw) (as : List Nat) : (regChgs s t as).length ≤ as.length := by
  induction as with
  | nil => exact Nat.le_refl _
  | cons a as ih =>
    have h1 : (regChg s t a).length ≤ 1 := by unfold regChg; split <;> simp
    simp only [regChgs, List.flatMap_cons, List.length_append, List.length_cons] at *
    omega

theorem cmdChg_length (code old new : Nat) : (cmdChg code old new).length ≤ 1 := Nat.le_refl _

theorem digestChg_length (code : Nat) (old new : List Byte) : (digestChg code old new).length ≤ 1 := Nat.le_refl _

end Sys2Proof.Machine
end

