-- ==== Sys2Proof/Laws/Flags.lean ====
section
/-! SUPPORT. Flags, causes and log entries: what each sets, and what it leaves alone. -/

namespace Sys2Proof.Machine

/-! ### Bits of a number -/

theorem bitOf_iff (n k : Nat) : bitOf n k = n.testBit k := by
  rw [bitOf, Nat.testBit_eq_decide_div_mod_eq]
  by_cases h : n / 2 ^ k % 2 = 1 <;> simp [h]

/-- Adding 2^k to a number whose bit k is 0 sets that bit alone. -/
theorem testBit_add_pow (n k : Nat) (h : n.testBit k = false) (j : Nat) : (n + 2^k).testBit j = (n.testBit j || decide (k = j)) := by
  obtain ⟨q, r, hr, hn⟩ : ∃ q r, r < 2^k ∧ n = 2^(k+1) * q + r := by
    refine ⟨n / 2^(k+1), n % 2^(k+1), ?_, (Nat.div_add_mod n (2^(k+1))).symm⟩
    have h1 : n % 2^(k+1) < 2^(k+1) := Nat.mod_lt _ (Nat.two_pow_pos _)
    rw [Nat.testBit_eq_decide_div_mod_eq] at h
    have h2 : n / 2^k % 2 = 0 := by have : ¬ n / 2^k % 2 = 1 := by simpa using h
                                    omega
    rw [pow_succ, Nat.mod_mul, h2]; simp; exact Nat.mod_lt _ (Nat.two_pow_pos _)
  subst hn
  have e1 : 2^(k+1) * q + r + 2^k = 2^(k+1) * q + (2^k * 1 + r) := by ring
  have hlt : 2^k * 1 + r < 2^(k+1) := by rw [pow_succ]; omega
  have hr' : r < 2^(k+1) := lt_trans hr (by rw [pow_succ]; have := Nat.two_pow_pos k; omega)
  rw [e1, Nat.testBit_two_pow_mul_add _ hlt, Nat.testBit_two_pow_mul_add _ hr', Nat.testBit_two_pow_mul_add _ hr]
  by_cases hj : j < k + 1
  · simp only [hj, if_true]
    by_cases hk : j < k
    · have : k ≠ j := by omega
      simp [hk, this]
    · have : k = j := by omega
      subst this; simp [Nat.testBit_lt_two_pow hr]
  · have : k ≠ j := by omega
    simp [hj, this]

theorem bitOf_bitSet (n k j : Nat) : bitOf (bitSet n k) j = (bitOf n j || decide (k = j)) := by
  unfold bitSet
  split
  · rename_i h
    by_cases hj : k = j
    · subst hj; simp [h]
    · simp [hj]
  · rename_i h
    rw [bitOf_iff, bitOf_iff]
    exact testBit_add_pow n k (by rw [← bitOf_iff]; simpa using h) j

theorem bitOf_bitClear (n k j : Nat) : bitOf (bitClear n k) j = (bitOf n j && !decide (k = j)) := by
  unfold bitClear
  split
  · rename_i h
    have h1 : n / 2 ^ k % 2 = 1 := by simpa [bitOf] using h
    have h2 : 2 ^ k ≤ n := by
      by_contra hc
      rw [Nat.div_eq_of_lt (by omega)] at h1
      cases h1
    obtain ⟨m, hm⟩ : ∃ m, n = m + 2 ^ k := ⟨n - 2 ^ k, by omega⟩
    subst hm
    rw [Nat.add_sub_cancel]
    rw [Nat.add_div_right _ (Nat.two_pow_pos k)] at h1
    have h3 : m.testBit k = false := by
      rw [← bitOf_iff, bitOf]
      have : m / 2 ^ k % 2 = 0 := by omega
      simp [this]
    rw [bitOf_iff, bitOf_iff, testBit_add_pow m k h3]
    by_cases hj : k = j
    · subst hj; simp [h3]
    · simp [hj]
  · rename_i h
    by_cases hj : k = j
    · subst hj; simpa using h
    · simp [hj]

theorem bitOf_mod {n w k : Nat} (h : k < w) : bitOf (n % 2 ^ w) k = bitOf n k := by
  rw [bitOf_iff, bitOf_iff, Nat.testBit_mod_two_pow]; simp [h]

/-! ### Parts that serving a command leaves alone -/

theorem served_strapReeve {u t : Hw} (h : Served u t) : t.strapReeve = u.strapReeve := by have e := congrArg Hw.strapReeve h.2; exact e
theorem served_strapTwinB {u t : Hw} (h : Served u t) : t.strapTwinB = u.strapTwinB := by have e := congrArg Hw.strapTwinB h.2; exact e
theorem served_strapRef {u t : Hw} (h : Served u t) : t.strapRef = u.strapRef := by have e := congrArg Hw.strapRef h.2; exact e
theorem served_time {u t : Hw} (h : Served u t) : t.time = u.time := by have e := congrArg Hw.time h.2; exact e
theorem served_nv {u t : Hw} (h : Served u t) : t.nv = u.nv := by have e := congrArg Hw.nv h.2; exact e
theorem served_sto {u t : Hw} (h : Served u t) : t.sto = u.sto := by have e := congrArg Hw.sto h.2; exact e
theorem served_ops {u t : Hw} (h : Served u t) : t.ops = u.ops := by have e := congrArg Hw.ops h.2; exact e
theorem served_twin {u t : Hw} (h : Served u t) : t.twin = u.twin := by have e := congrArg Hw.twin h.2; exact e
theorem served_reeve {u t : Hw} (h : Served u t) : t.reeve = u.reeve := by have e := congrArg Hw.reeve h.2; exact e
theorem served_xarr {u t : Hw} (h : Served u t) : t.xarr = u.xarr := by have e := congrArg Hw.xarr h.2; exact e
theorem served_xin {u t : Hw} (h : Served u t) : t.xin = u.xin := by have e := congrArg Hw.xin h.2; exact e
theorem served_live {u t : Hw} (h : Served u t) : t.live = u.live := by have e := congrArg Hw.live h.2; exact e
theorem served_staged {u t : Hw} (h : Served u t) : t.staged = u.staged := by have e := congrArg Hw.staged h.2; exact e
theorem served_xram {u t : Hw} (h : Served u t) : t.xram = u.xram := by have e := congrArg Hw.xram h.2; exact e
theorem served_trg {u t : Hw} (h : Served u t) : t.trg = u.trg := by have e := congrArg Hw.trg h.2; exact e
theorem served_int {u t : Hw} (h : Served u t) : t.int = u.int := by have e := congrArg Hw.int h.2; exact e
theorem served_fch {u t : Hw} (h : Served u t) : t.fch = u.fch := by have e := congrArg Hw.fch h.2; exact e
theorem served_hkc {u t : Hw} (h : Served u t) : t.hkc = u.hkc := by have e := congrArg Hw.hkc h.2; exact e
theorem served_sieve {u t : Hw} (h : Served u t) : t.sieve = u.sieve := by have e := congrArg Hw.sieve h.2; exact e
theorem served_le {u t : Hw} (h : Served u t) : t.le = u.le := by have e := congrArg Hw.le h.2; exact e
theorem served_ramp {u t : Hw} (h : Served u t) : t.ramp = u.ramp := by have e := congrArg Hw.ramp h.2; exact e
theorem served_vsq {u t : Hw} (h : Served u t) : t.vsq = u.vsq := by have e := congrArg Hw.vsq h.2; exact e
theorem served_shf {u t : Hw} (h : Served u t) : t.shf = u.shf := by have e := congrArg Hw.shf h.2; exact e
theorem served_lst {u t : Hw} (h : Served u t) : t.lst = u.lst := by have e := congrArg Hw.lst h.2; exact e
theorem served_ory {u t : Hw} (h : Served u t) : t.ory = u.ory := by have e := congrArg Hw.ory h.2; exact e
theorem served_chr {u t : Hw} (h : Served u t) : t.chr = u.chr := by have e := congrArg Hw.chr h.2; exact e
theorem served_saf {u t : Hw} (h : Served u t) : t.saf = u.saf := by have e := congrArg Hw.saf h.2; exact e
theorem served_net {u t : Hw} (h : Served u t) : t.net = u.net := by have e := congrArg Hw.net h.2; exact e
theorem served_pwr {u t : Hw} (h : Served u t) : t.pwr = u.pwr := by have e := congrArg Hw.pwr h.2; exact e
theorem served_inReset {u t : Hw} (h : Served u t) : t.inReset = u.inReset := by have e := congrArg Hw.inReset h.2; exact e
theorem served_free {u t : Hw} (h : Served u t) : t.free = u.free := by have e := congrArg Hw.free h.2; exact e

/-- An internal entry changes the log and its registers alone (R415). -/
theorem served_logInternal (s : Hw) (object old new : Nat) : Served s (s.logInternal object old new) :=
  served_logOne (served_refl s) _ _ _ _

theorem logInternal_cmd (s : Hw) (object old new : Nat) : (s.logInternal object old new).cmd = s.cmd := logOne_cmd _ _ _ _ _

theorem get_of_served {u t : Hw} (h : Served u t) {f : Fld} (hf : f.addr ∉ servedRegs) : t.get f = u.get f :=
  Hw.get_congr (h.1 _ hf)

/-! ### Trip causes -/

/-- What latching a cause does (R38, R39, R43): its bit of LATCHED is set, the others stay; of the registers only SYS_TRIPCAUSE and those
of the log change; what belongs to a tick stays. -/
theorem latchCause_spec (s : Hw) (k : Nat) :
    (∀ a, a ≠ SYS_TRIPCAUSE → a ∉ servedRegs → (s.latchCause k).reg a = s.reg a) ∧
    (k < 16 → ∀ j, j < 16 → bitOf ((s.latchCause k).get SYS_TRIPCAUSE_LATCHED) j =
      (bitOf (s.get SYS_TRIPCAUSE_LATCHED) j || decide (k = j))) ∧
    (s.latchCause k).ops.tripNext = s.ops.tripNext ∧ (s.latchCause k).ops.tripTick = s.ops.tripTick ∧
    (s.latchCause k).twin = s.twin ∧ (s.latchCause k).time = s.time ∧
    (∀ h, ((s.latchCause k).session? h) = s.session? h) := by
  have step : ∀ u : Hw, u.ops.tripNext = s.ops.tripNext → u.ops.tripTick = s.ops.tripTick → u.twin = s.twin → u.time = s.time →
      u.regs = s.regs → u.cmd = s.cmd →
      let v := if bitOf (s.get SYS_TRIPCAUSE_LATCHED) k then u
        else (((u.put SYS_TRIPCAUSE_LATCHED (bitSet (s.get SYS_TRIPCAUSE_LATCHED) k)).logInternal 0xF2000021
          (s.get SYS_TRIPCAUSE_LATCHED) (bitSet (s.get SYS_TRIPCAUSE_LATCHED) k)).trgEvent 4).msixRaise 3
      (∀ a, a ≠ SYS_TRIPCAUSE → a ∉ servedRegs → v.reg a = s.reg a) ∧
      (k < 16 → ∀ j, j < 16 → bitOf (v.get SYS_TRIPCAUSE_LATCHED) j =
        (bitOf (s.get SYS_TRIPCAUSE_LATCHED) j || decide (k = j))) ∧
      v.ops.tripNext = s.ops.tripNext ∧ v.ops.tripTick = s.ops.tripTick ∧ v.twin = s.twin ∧ v.time = s.time ∧
      (∀ h, v.session? h = s.session? h) := by
    intro u h1 h2 h3 h4 h5 h6
    have hr : ∀ a, u.reg a = s.reg a := Hw.reg_congr h5
    dsimp only
    split
    · rename_i hb
      refine ⟨fun a _ _ => hr a, ?_, h1, h2, h3, h4, fun h => by simp [Hw.session?, h6]⟩
      intro _ j _
      rw [Hw.get_congr (hr _)]
      by_cases hj : k = j
      · subst hj; simp [hb]
      · simp [hj]
    · have sv := served_logInternal (u.put SYS_TRIPCAUSE_LATCHED (bitSet (s.get SYS_TRIPCAUSE_LATCHED) k)) 0xF2000021
          (s.get SYS_TRIPCAUSE_LATCHED) (bitSet (s.get SYS_TRIPCAUSE_LATCHED) k)
      have sc := logInternal_cmd (u.put SYS_TRIPCAUSE_LATCHED (bitSet (s.get SYS_TRIPCAUSE_LATCHED) k)) 0xF2000021
          (s.get SYS_TRIPCAUSE_LATCHED) (bitSet (s.get SYS_TRIPCAUSE_LATCHED) k)
      generalize (u.put SYS_TRIPCAUSE_LATCHED (bitSet (s.get SYS_TRIPCAUSE_LATCHED) k)).logInternal 0xF2000021
          (s.get SYS_TRIPCAUSE_LATCHED) (bitSet (s.get SYS_TRIPCAUSE_LATCHED) k) = w at sv sc
      have hw : ∀ a, (((w.trgEvent 4).msixRaise 3) : Hw).reg a = w.reg a := Hw.reg_congr (by simp)
      refine ⟨fun a ha hs => ?_, ?_, ?_, ?_, ?_, ?_, ?_⟩
      · rw [hw, sv.1 a hs, Hw.reg_put_ne _ _ _ (by exact ha), hr]
      · intro hk j hj
        rw [Hw.get_congr (hw _), get_of_served sv (by decide), Hw.get_put_self _ (by decide)]
        rw [bitOf_mod (by exact hj), bitOf_bitSet]
      · simp only [Hw.msixRaise_ops, Hw.trgEvent_ops, served_ops sv, Hw.put_ops, h1]
      · simp only [Hw.msixRaise_ops, Hw.trgEvent_ops, served_ops sv, Hw.put_ops, h2]
      · simp only [Hw.msixRaise_twin, Hw.trgEvent_twin, served_twin sv, Hw.put_twin, h3]
      · simp only [Hw.msixRaise_time, Hw.trgEvent_time, served_time sv, Hw.put_time, h4]
      · intro h
        have e : ((w.trgEvent 4).msixRaise 3).cmd.sessions = s.cmd.sessions := by
          rw [Hw.msixRaise]
          show (w.trgEvent 4).cmd.sessions = _
          rw [Hw.trgEvent_cmd, sc, Hw.put_cmd, h6]
        unfold Hw.session?
        rw [e]
  unfold Hw.latchCause
  by_cases hk : k = cManual
  · simp only [hk, if_true] at *
    exact step s rfl rfl rfl rfl rfl rfl
  · simp only [hk, if_false]
    exact step { s with ops := { s.ops with ownLatched := bitSet s.ops.ownLatched k } } rfl rfl rfl rfl rfl rfl

end Sys2Proof.Machine
end

