-- ==== Sys2Proof/Laws/Frame.lean ====
section
/-! SUPPORT. Frames: which register bits an operation leaves as they were. -/

namespace Sys2Proof.Machine

/-- One bit of a word as a field of one bit. -/
theorem Fld.of_bit (a k : Nat) (w : Word) : (⟨a, k, k⟩ : Fld).of w = (w.getLsbD k).toNat := by
  have e : (⟨a, k, k⟩ : Fld).width = 1 := by simp [Fld.width]
  simp only [Fld.of, e, BitVec.getLsbD, Nat.testBit, Nat.shiftRight_eq_div_pow, pow_one, Nat.and_comm 1, Nat.and_one_is_mod]
  rcases Nat.mod_two_eq_zero_or_one (w.toNat / 2 ^ k) with h | h <;> simp [h]

/-- A write of a field leaves every other bit of its word. -/
theorem Fld.into_bit {f : Fld} (hf : f.Ok) {k : Nat} (hk : ¬ (f.lo ≤ k ∧ k ≤ f.hi)) (w : Word) (v : Nat) :
    (f.into w v).getLsbD k = w.getLsbD k := by
  by_cases h : k < 32
  · have e := Fld.of_into_apart (g := ⟨0, k, k⟩) hf ⟨le_refl _, h⟩ (by simp only; omega) w v
    rw [Fld.of_bit, Fld.of_bit] at e
    revert e
    cases (f.into w v).getLsbD k <;> cases w.getLsbD k <;> simp
  · rw [BitVec.getLsbD_of_ge _ _ (by omega), BitVec.getLsbD_of_ge _ _ (by omega)]

end Sys2Proof.Machine

namespace Sys2Proof

open Sys2Proof.Machine

theorem SameBut.refl (fs : List Fld) (s : Hw) : SameBut fs s s := fun _ _ _ => rfl

theorem SameBut.trans {fs : List Fld} {s t u : Hw} (h : SameBut fs s t) (g : SameBut fs t u) : SameBut fs s u :=
  fun a k n => (g a k n).trans (h a k n)

/-- A frame holds for every larger list of fields. -/
theorem SameBut.mono {fs gs : List Fld} {s t : Hw} (h : SameBut fs s t) (sub : ∀ f ∈ fs, f ∈ gs) : SameBut gs s t :=
  fun a k n => h a k fun f hf => n f (sub f hf)

/-- What changes no register keeps every register bit. -/
theorem SameBut.of_regs {fs : List Fld} {s t : Hw} (h : t.regs = s.regs) : SameBut fs s t :=
  fun a k _ => by rw [Hw.reg_congr h a]

/-- A write of a field of the list. -/
theorem SameBut.put {fs : List Fld} {s t : Hw} (h : SameBut fs s t) {f : Fld} (hf : f.Ok) (m : f ∈ fs) (v : Nat) :
    SameBut fs s (t.put f v) := fun a k n => by
  rw [Hw.reg_put]
  by_cases e : a = f.addr
  · subst e
    rw [if_pos rfl, Fld.into_bit hf (n f m rfl)]
    exact h _ k n
  · rw [if_neg e]
    exact h a k n

/-- A write of a field of a register whose whole word is in the list. -/
theorem SameBut.put_word {fs : List Fld} {s t : Hw} (h : SameBut fs s t) (f : Fld) (m : word f.addr ∈ fs) (v : Nat) :
    SameBut fs s (t.put f v) := fun a k n => by
  rw [Hw.reg_put]
  by_cases e : a = f.addr
  · subst e
    have : 31 < k := by have := n _ m rfl; simp only [word] at this; omega
    rw [BitVec.getLsbD_of_ge _ _ (by omega), BitVec.getLsbD_of_ge _ _ (by omega)]
  · rw [if_neg e]
    exact h a k n

/-- A write of a register whose whole word is in the list. -/
theorem SameBut.setReg {fs : List Fld} {s t : Hw} (h : SameBut fs s t) {b : Nat} (m : word b ∈ fs) (v : Word) :
    SameBut fs s (t.setReg b v) := fun a k n => by
  rw [Hw.reg_setReg]
  by_cases e : a = b
  · subst e
    have : 31 < k := by have := n _ m rfl; simp only [word] at this; omega
    rw [BitVec.getLsbD_of_ge _ _ (by omega), BitVec.getLsbD_of_ge _ _ (by omega)]
  · rw [if_neg e]
    exact h a k n

/-- A change of parts other than the registers. -/
theorem SameBut.parts {fs : List Fld} {s t u : Hw} (h : SameBut fs s t) (e : u.regs = t.regs) : SameBut fs s u :=
  h.trans (SameBut.of_regs e)

/-- A frame that each round of a loop keeps, the loop keeps. -/
theorem SameBut.foldl {α : Type} {fs : List Fld} {s t : Hw} (h : SameBut fs s t) (l : List α) (f : Hw → α → Hw)
    (step : ∀ u x, x ∈ l → SameBut fs s u → SameBut fs s (f u x)) : SameBut fs s (l.foldl f t) := by
  induction l generalizing t with
  | nil => exact h
  | cons x r ih => exact ih (step t x (by simp) h) fun u y hy => step u y (by simp [hy])

/-- The two frames are one for a field of a register that no field of the list touches. -/
theorem SameBut.get {fs : List Fld} {s t : Hw} (h : SameBut fs s t) {g : Fld} (n : ∀ f ∈ fs, f.addr ≠ g.addr) :
    t.get g = s.get g := by
  apply Hw.get_congr
  apply BitVec.eq_of_getLsbD_eq
  intro k _
  exact h g.addr k fun f hf e => absurd e (n f hf)

/-- What serving a command may change. -/
theorem Served.sameBut {u t : Hw} (h : Served u t) : SameBut servedFlds u t := fun a k n => by
  by_cases m : a ∈ servedRegs
  · have : 31 < k := by
      have := n (word a) (List.mem_map_of_mem m) rfl
      simp only [word] at this; omega
    rw [BitVec.getLsbD_of_ge _ _ (by omega), BitVec.getLsbD_of_ge _ _ (by omega)]
  · rw [h.1 a m]

/-- A command whose serving is exact keeps every bit outside what it is stated to write and what serving writes. -/
theorem Served.sameBut_trans {fs : List Fld} {s u t : Hw} (h : Served u t) (b : SameBut fs s u) (sub : ∀ f ∈ servedFlds, f ∈ fs) :
    SameBut fs s t := b.trans (h.sameBut.mono sub)

end Sys2Proof
end

