-- ==== Sys2Proof/Laws/Wire.lean ====
section
/-! SUPPORT. The coding of the lanes: what is sent is what is received. -/

namespace Sys2Proof.Machine

/-! ### Bits of a number -/

theorem natBits_length (w v : Nat) : (natBits w v).length = w := by simp [natBits]

theorem natBits_succ (w v : Nat) : natBits (w + 1) v = bitOf v w :: natBits w v := by
  simp [natBits, List.range_succ_eq_map, Function.comp_def, Nat.sub_sub, Nat.add_comm]

theorem foldl_bits (w v n : Nat) :
    (natBits w v).foldl (fun n b => 2 * n + if b then 1 else 0) n = n * 2 ^ w + v % 2 ^ w := by
  induction w generalizing n with
  | zero => simp [natBits, Nat.mod_one]
  | succ w ih =>
    have h : v % 2 ^ (w + 1) = v % 2 ^ w + 2 ^ w * (v / 2 ^ w % 2) := Nat.mod_mul
    have hb : (if bitOf v w then 1 else 0) = v / 2 ^ w % 2 := by
      rcases Nat.mod_two_eq_zero_or_one (v / 2 ^ w) with h | h <;> simp [bitOf, h]
    rw [natBits_succ, List.foldl_cons, ih, h, hb]
    ring

theorem bitsNat_natBits (w v : Nat) : bitsNat (natBits w v) = v % 2 ^ w := by simp [bitsNat, foldl_bits]

/-! ### Scrambling and stuffing (R210, R211) -/

theorem scramble_scramble (s : Nat) (bs : List Bool) : scramble s (scramble s bs) = bs := by
  induction bs generalizing s with
  | nil => rfl
  | cons b r ih => simp [scramble, ih]

theorem scramble_length (s : Nat) (bs : List Bool) : (scramble s bs).length = bs.length := by
  induction bs generalizing s with
  | nil => rfl
  | cons b r ih => simp [scramble, ih]

/-- Destuffing takes out what stuffing put in, whatever follows on the line. -/
theorem destuff_stuff (run : Nat) (last : Bool) (bs rest : List Bool) (h : run ≠ 24) :
    destuff run last bs.length (stuff run last bs ++ rest) = some bs := by
  induction bs generalizing run last with
  | nil => cases rest <;> simp [stuff, destuff, h]
  | cons b r ih =>
    by_cases hr : (if b = last then run + 1 else 1) = 24
    · have e := ih 1 (!b) (by decide)
      simp only [stuff, hr, if_true, List.length_cons, List.cons_append]
      simp [destuff, h, hr, e]
    · have e := ih _ b hr
      simp only [stuff, hr, if_false, List.length_cons, List.cons_append]
      simp only [destuff, h, if_false]
      rw [e, Option.map_some]

/-- The block is read back from the line bits that follow its marker (R210, R211), stuffing and fill and all. -/
theorem readBlock_line (bits : Nat) (m : Marker) (block : Nat) (rest : List Bool) (h : endRun bits ≠ 24) :
    readBlock bits m (stuff (endRun bits) (bitOf bits 0) (scramble (scrSeed m.dir m.lane m.tick) (natBits 11264 block)) ++ rest) =
      some (block % 2 ^ 11264) := by
  have e := destuff_stuff (endRun bits) (bitOf bits 0) (scramble (scrSeed m.dir m.lane m.tick) (natBits 11264 block)) rest h
  rw [scramble_length, natBits_length] at e
  rw [readBlock, e, Option.map_some, scramble_scramble, bitsNat_natBits]

/-! ### The block's check code (R226) -/

theorem crcStep_lt (poly c : Nat) (b : Bool) (h : poly < 2 ^ 32) : crcStep 32 poly c b < 2 ^ 32 := by
  simp only [crcStep]
  split
  · exact Nat.xor_lt_two_pow (Nat.mod_lt _ (by decide)) h
  · exact Nat.mod_lt _ (by decide)

theorem crc32_lt (bs : List Bool) : crc32 bs < 2 ^ 32 := by
  have h : ∀ (bs : List Bool) (c : Nat), c < 2 ^ 32 → bs.foldl (crcStep 32 0x04C11DB7) c < 2 ^ 32 := by
    intro bs
    induction bs with
    | nil => intro c h; exact h
    | cons b r ih => intro c h; exact ih _ (crcStep_lt _ _ _ (by decide))
  exact Nat.xor_lt_two_pow (h bs _ (by decide)) (by decide)

theorem blockOf_div (body : Nat) : blockOf body / 2 ^ 32 = body := by
  have h := crc32_lt (natBits 11232 body)
  unfold blockOf
  omega

/-- A block's CRC-32 checks. -/
theorem blockOk_blockOf (body : Nat) : blockOk (blockOf body) = true := by
  have h := crc32_lt (natBits 11232 body)
  have e : blockOf body % 2 ^ 32 = crc32 (natBits 11232 body) := by unfold blockOf; omega
  simp only [blockOk, blockOf_div, e, beq_self_eq_true]

theorem blockOf_lt (body : Nat) (h : body < 2 ^ 11232) : blockOf body < 2 ^ 11264 := by
  have hc := crc32_lt (natBits 11232 body)
  rw [blockOf, show 11264 = 11232 + 32 from rfl, pow_add]
  generalize 2 ^ 11232 = p at h ⊢
  omega

/-- A field outside the check code is that of the block's body. -/
theorem blockField_blockOf (body b w : Nat) (h : b + w ≤ 11232) :
    blockField (blockOf body) b w = body / 2 ^ (11232 - b - w) % 2 ^ w := by
  rw [blockField, show 11264 - b - w = 32 + (11232 - b - w) by omega, pow_add, ← Nat.div_div_eq_div_mul, blockOf_div]

end Sys2Proof.Machine
end

