-- ==== Sys2Proof/WellFormed.lean ====
section
/-! DEFINITION. Well-formed commands: every operand fits the width that the table of its opcode gives it, and every index that the outside
names exists in the part. -/

namespace Sys2Proof

/-- `v` fits `w` bits. -/
def fits (w v : Nat) : Bool := decide (v < 2 ^ w)

/-- `v` is an index below `n`. -/
def below (n v : Nat) : Bool := decide (v < n)

/-- `v` fits `w` bits as a signed number. -/
def fitsSigned (w : Nat) (v : Int) : Bool := decide (-(2 ^ (w - 1) : Int) ≤ v) && decide (v < (2 ^ (w - 1) : Int))

/-- Every member fits. -/
def allFit (w : Nat) (vs : List Nat) : Bool := vs.all (fits w)
def allSigned (w : Nat) (vs : List Int) : Bool := vs.all (fitsSigned w)

/-- `n` words of `w` bits, and the same where they are given at all. -/
def words (n w : Nat) (vs : List Nat) : Bool := decide (vs.length = n) && allFit w vs
def optWords (n w : Nat) : Option (List Nat) → Bool
  | some vs => words n w vs
  | none => true

/-- A header as a packet carries it (Table CMD-1): mailbox slots 0 to 7 on PCIe, port 0 on SPI. -/
def Hdr.wf (h : Hdr) : Bool :=
  decide (h.transport ≠ .internal) && fits 8 h.version && fits 16 h.flags && fits 16 h.seq && fits 32 h.session && fits 32 h.length &&
    (if h.transport = .pcie then below 8 h.port else if h.transport = .spi then below 1 h.port else true)

/-- A command that the outside can send. -/
def Instr.wf : Instr → Bool
  | .modeGet h => h.wf
  | .enterCommission h => h.wf
  | .leaveCommission h => h.wf
  | .energize h method => h.wf && fits 8 method
  | .deblockForm h => h.wf
  | .block h => h.wf
  | .trip h => h.wf
  | .tripReset h causes => h.wf && fits 16 causes
  | .enableCancel h cls => h.wf && fits 8 cls
  | .modecfgSet h modecfg blkcfg => h.wf && fits 32 modecfg && fits 32 blkcfg
  | .fchStatusGet h => h.wf
  | .fchCalibrate h => h.wf
  | .spareSubst h bank index => h.wf && fits 8 bank && fits 8 index
  | .spareRelease h bank => h.wf && fits 8 bank
  | .hkcConfig h conv cfg seqs injs injcfg => h.wf && fits 8 conv && fits 32 cfg && words 32 32 seqs && words 4 32 injs && fits 32 injcfg
  | .hkcInject h mask => h.wf && fits 8 mask
  | .hkcRead h conv => h.wf && fits 8 conv
  | .sieveStatusGet h engine setCode => h.wf && fits 8 engine && fits 8 setCode
  | .sieveSetSelect h engine mask ctlSet recSet => h.wf && fits 8 engine && fits 16 mask && fits 8 ctlSet && fits 8 recSet
  | .sieveCoefLoad h setNo taps coefs => h.wf && fits 8 setNo && fits 8 taps && allSigned 16 coefs
  | .sieveCoefCommit h => h.wf
  | .toneConfig h engine det cfg freq => h.wf && fits 8 engine && fits 8 det && fits 32 cfg && fits 32 freq
  | .toneRead h engine mask => h.wf && fits 8 engine && fits 16 mask
  | .leStatusGet h engine => h.wf && fits 8 engine
  | .leImageLoad h offset len _ _ => h.wf && fits 32 offset && fits 16 len
  | .leImageActivate h => h.wf
  | .leClcfgSet h k degTmo => h.wf && fits 8 k && fits 8 degTmo
  | .leMissClear h mask => h.wf && fits 32 mask
  | .leRotate h engine shadowM1 => h.wf && fits 8 engine && fits 8 shadowM1
  | .leRegionCfg h engine inputs maps force forceSet => h.wf && fits 8 engine && words 12 32 inputs && words 32 32 maps && fits 8 force && fits 8 forceSet
  | .leGainsetLoad h engine setNo gains => h.wf && fits 8 engine && fits 8 setNo && words 64 16 gains
  | .leInjStart h engine point gen _ lim mon => h.wf && fits 8 engine && fits 8 point && fits 8 gen && fits 16 lim && fits 16 mon
  | .leInjStop h engine mask => h.wf && fits 8 engine && fits 8 mask
  | .leVarRead h space engine addr count => h.wf && fits 8 space && fits 8 engine && fits 32 addr && fits 16 count
  | .gflParamSet h offset value => h.wf && fits 16 offset && fits 32 value
  | .gflParamGet h offset => h.wf && fits 16 offset
  | .gflStatusGet h => h.wf
  | .lftParamSet h offset value => h.wf && fits 16 offset && fits 32 value
  | .lftParamGet h offset => h.wf && fits 16 offset
  | .lftStatusGet h => h.wf
  | .engParamSet h offset value => h.wf && fits 16 offset && fits 32 value
  | .engParamGet h offset => h.wf && fits 16 offset
  | .engStatusGet h => h.wf
  | .rampStatusGet h ch => h.wf && fits 8 ch
  | .rampMove h ch target vcap => h.wf && fits 8 ch && fits 16 target && fits 32 vcap
  | .rampReplace h ch target vcap => h.wf && fits 8 ch && fits 16 target && fits 32 vcap
  | .rampStop h mask => h.wf && fits 8 mask
  | .rampCfgSet h ch cfg vmax amax dmax jmax range task initial => h.wf && fits 8 ch && fits 32 cfg && fits 32 vmax && fits 32 amax && fits 32 dmax && fits 32 jmax && fits 32 range && fits 32 task && fits 32 initial
  | .shapeLoad h first count entries => h.wf && fits 16 first && fits 16 count && allFit 16 entries
  | .shapeCommit h => h.wf
  | .shapeSelect h src => h.wf && fits 8 src
  | .vsqStatusGet h => h.wf
  | .vsqArmCfgSet h arm cfg cfg2 => h.wf && fits 8 arm && fits 32 cfg && fits 32 cfg2
  | .vsqSlotTypeSet h arm first count types => h.wf && fits 8 arm && fits 16 first && fits 16 count && allFit 32 types
  | .slotExclude h arm slot => h.wf && fits 8 arm && fits 16 slot
  | .slotRestore h arm slot => h.wf && fits 8 arm && fits 16 slot
  | .vsqSlotRead h arm first count => h.wf && fits 8 arm && fits 16 first && fits 16 count
  | .laneStatusGet h mask => h.wf && fits 64 mask
  | .laneCfgSet h lane cfg asym => h.wf && fits 8 lane && fits 32 cfg && fits 32 asym
  | .laneBringup h mask => h.wf && fits 64 mask
  | .laneIdleEnter h mask => h.wf && fits 64 mask
  | .laneIdleExit h mask => h.wf && fits 64 mask
  | .shlCfgSet h ctrl => h.wf && fits 32 ctrl
  | .shfStatusGet h mask => h.wf && fits 64 mask
  | .shfCfgSet h ctrl tol => h.wf && fits 32 ctrl && fits 32 tol
  | .hubDiscover h mask => h.wf && fits 64 mask
  | .hubFallbackSet h lane fb0 fb1 fb2 => h.wf && fits 8 lane && fits 32 fb0 && fits 32 fb1 && fits 32 fb2
  | .hubMsg h lane mtype tag _ => h.wf && fits 8 lane && fits 16 mtype && fits 16 tag
  | .lstStatusGet h => h.wf
  | .lstLegCfgSet h leg cfg per dt src => h.wf && fits 8 leg && fits 32 cfg && fits 32 per && fits 32 dt && fits 32 src
  | .lstLegEnable h mask => h.wf && fits 16 mask
  | .lstLegDisable h mask => h.wf && fits 16 mask
  | .lstUpdate h leg _ _ _ per cmp => h.wf && fits 8 leg && fits 32 per && fits 32 cmp
  | .lstGroupSet h group cfg pats => h.wf && fits 8 group && fits 32 cfg && words 8 32 pats
  | .legClearClk h => h.wf
  | .lstCtrlSet h ctrl evt0 evt1 => h.wf && fits 32 ctrl && fits 32 evt0 && fits 32 evt1
  | .swpStatusGet h => h.wf
  | .swpCfgSet h sw cfg uv => h.wf && fits 8 sw && fits 32 cfg && fits 32 uv
  | .swpClear h mask => h.wf && fits 24 mask
  | .swpTest h mask => h.wf && fits 24 mask
  | .swpCtrlSet h ctrl => h.wf && fits 32 ctrl
  | .twinStatusGet h => h.wf
  | .twinCfgSet h cfg => h.wf && fits 32 cfg
  | .twinHandover h => h.wf
  | .twinPathTest h mask durationMs => h.wf && fits 64 mask && fits 16 durationMs
  | .reeveStatusGet h => h.wf
  | .reeveCfgSet h cfg => h.wf && fits 32 cfg
  | .reeveForce h twin => h.wf && fits 8 twin
  | .almTimeGet h => h.wf
  | .almStep h kind sec ns => h.wf && fits 8 kind && fitsSigned 48 sec && fitsSigned 32 ns
  | .almIncSet h inc => h.wf && fits 64 inc
  | .almTxtsRead h port count => h.wf && fits 8 port && fits 8 count
  | .almCfgSet h ctrl utc lat0 lat1 => h.wf && fits 32 ctrl && fits 32 utc && fits 32 lat0 && fits 32 lat1
  | .oryStatusGet h => h.wf
  | .oryMdllSet h mdll cfg => h.wf && fits 8 mdll && fits 32 cfg
  | .orySscSet h cfg profile dutyTrim => h.wf && fits 32 cfg && optWords 8 32 profile && fits 8 dutyTrim
  | .oryClkoutSet h out cfg => h.wf && fits 8 out && fits 32 cfg
  | .cdcStatusGet h => h.wf
  | .chrStatusGet h => h.wf
  | .chrTrgCfg h trgUnit cfg thr => h.wf && fits 8 trgUnit && fits 32 cfg && fits 32 thr
  | .chrRecCfg h rec cfg trg src len nseg base levs => h.wf && fits 8 rec && fits 32 cfg && fits 32 trg && fits 32 src && fits 32 len && fits 32 nseg && fits 32 base && optWords 32 32 levs
  | .chrArm h mask => h.wf && fits 8 mask
  | .chrStop h mask => h.wf && fits 8 mask
  | .chrForce h mask => h.wf && fits 8 mask
  | .chrRead h offset len => h.wf && fits 64 offset && fits 32 len
  | .chrStatCfg h statUnit cfg lo freq => h.wf && fits 8 statUnit && fits 32 cfg && fits 32 lo && fits 32 freq
  | .chrXspStart h cfg sig blk avg leaddr bins => h.wf && fits 32 cfg && fits 32 sig && fits 32 blk && fits 32 avg && fits 32 leaddr && allFit 32 bins
  | .chrXspStop h => h.wf
  | .chrSyncArm h => h.wf
  | .chrSelftest h => h.wf
  | .safetyStatusGet h => h.wf
  | .safetyParamLoad h _ => h.wf
  | .safetyParamRead h copy => h.wf && fits 8 copy
  | .safetyConfirm h check => h.wf && fits 32 check
  | .safetyProofTest h => h.wf
  | .sysIdent h => h.wf
  | .sessionOpen h role options _ => h.wf && fits 8 role && fits 8 options
  | .sessionOpenProof h _ => h.wf
  | .sessionClose h => h.wf
  | .sysStatusGet h => h.wf
  | .sysReset h => h.wf
  | .netCfgSet h ctrl ip mask gw => h.wf && fits 32 ctrl && fits 32 ip && fits 32 mask && fits 32 gw
  | .svSubSet h stream cfg addr confrev sel => h.wf && fits 8 stream && fits 32 cfg && fits 32 addr && fits 32 confrev && fits 32 sel
  | .gooseSubSet h sub cfg addr confrev => h.wf && fits 8 sub && fits 32 cfg && fits 32 addr && fits 32 confrev
  | .netStatusGet h => h.wf
  | .netFrameSend h port request ingress _ => h.wf && fits 8 port && fits 8 request && fits 80 ingress
  | .netRxCfg h base count ethertypes => h.wf && fits 64 base && fits 16 count && words 4 16 ethertypes
  | .telemCfgSet h base count rate decim _ => h.wf && fits 64 base && fits 24 count && fits 8 rate && fits 16 decim
  | .regRead h addr count => h.wf && fits 32 addr && fits 16 count
  | .regWrite h addr mask value => h.wf && fits 32 addr && fits 32 mask && fits 32 value
  | .regWriteBlock h addr values => h.wf && fits 32 addr && allFit 32 values
  | .packetDiscard _ _ => true
  | .storeStatusGet h => h.wf
  | .store h => h.wf
  | .storeRevert h => h.wf
  | .storeErase h => h.wf
  | .secStatusGet h => h.wf
  | .fwLoad h slot offset len _ => h.wf && fits 8 slot && fits 32 offset && fits 16 len
  | .fwVerify h slot => h.wf && fits 8 slot
  | .fwSelect h slot => h.wf && fits 8 slot
  | .fwSvnCommit h => h.wf
  | .keyEnroll h _ => h.wf
  | .keyRevoke h => h.wf
  | .rolekeySet h role _ => h.wf && fits 8 role
  | .attestQuote h _ => h.wf
  | .attestRead h offset len => h.wf && fits 16 offset && fits 16 len
  | .identityGet h offset len => h.wf && fits 16 offset && fits 16 len
  | .secCfgSet h cfg => h.wf && fits 32 cfg
  | .logStatusGet h => h.wf
  | .logRead h first count => h.wf && fits 64 first && fits 16 count
  | .logAck h seq => h.wf && fits 64 seq
  | .logCfgSet h cfg => h.wf && fits 32 cfg
  | .intStatusGet h => h.wf
  | .intCfgSet h cfg => h.wf && fits 32 cfg
  | .intInject h boundary index => h.wf && fits 8 boundary && fits 16 index
  | .svUserctlCommit h => h.wf
  | .shapeCtrlCommit h => h.wf
  | .lstCommit h legs => h.wf && fits 32 legs
  | .sysTlmaxClr h => h.wf
  | .chrHistClr h statUnit => h.wf && below 17 statUnit
  | .almInclWrite h value => h.wf && fits 32 value
  | .almInchWrite h value => h.wf && fits 32 value
  | .almNsRead h => h.wf
  | .hkcnDataRead h conv => h.wf && below 2 conv
  | .tdMag2Read h engine det => h.wf && below 2 engine && below 16 det
  | .almTxtsIdRead h port => h.wf && below 2 port
  | .mbDb slot => fits 3 slot
  | .mbReadyRelease mask => fits 8 mask
  | .writePacket _ => true
  | .readStatus => true
  | .readReply count => fits 32 count
  | .powerUp _ => true
  | .powerDown down _ _ _ => fits 8 down
  | .brownOut rail => below 8 rail
  | .resetNLow _ _ => true
  | .thermalLimit _ => true
  | .resetRelease _ => true
  | .tbClockLoss => true
  | .tbClockReturn => true
  | .coreClockLoss => true
  | .laneClockLoss => true
  | .ddrClockLoss => true
  | .monitorWindow _ => true
  | .mdllLockLost mdll => below 4 mdll
  | .mdllLocked mdll band => below 4 mdll && below 16 band
  | .cdcTimeout xid => fits 16 xid
  | .tickBoundary unstable overflow => allFit 16 unstable && allFit 16 overflow
  | .adcStrobe => true
  | .conversionDone conv code _ => below 34 conv && fitsSigned 16 code
  | .conversionFault conv _ => below 34 conv
  | .sieveControlBurst _ bad => fits 2 bad
  | .sieveRecorderEval strobe bad => below 16 strobe && fits 2 bad
  | .coefEccError setNo => below 2 setNo
  | .toneBlockDone engine det => below 2 engine && below 16 det
  | .inputRelease => true
  | .taskStart engine task _ => below 24 engine && below 8 task
  | .taskEnd engine task _ => below 24 engine && below 8 task
  | .taskDeadline engine task _ => below 24 engine && below 8 task
  | .degTmoExpiry => true
  | .sequencerLatch bad _ => allFit 13 bad
  | .frameRelease bad _ => allFit 7 bad
  | .launch => true
  | .granaryLaunch => true
  | .uplinkFrameReceive lane _ _ _ _ _ _ => below 48 lane
  | .bulkMessageReceive lane => below 48 lane
  | .lossOfLock lane => below 50 lane
  | .losAssert lane _ => below 50 lane
  | .uplinkLossTol lane => below 48 lane
  | .idleEntryComplete lane => below 48 lane
  | .exitBurst lane => below 48 lane
  | .bringupTmoExpiry => true
  | .bulkResend lane => below 48 lane
  | .hubReplyTimeout => true
  | .granaryFrameReceive lane _ _ _ _ _ _ _ => below 50 lane
  | .activeInEdge _ => true
  | .activeInTimeout => true
  | .healthWordReceive twin _ word => below 2 twin && fits 48 word
  | .heartbeatLoss twin => below 2 twin
  | .reeveFirstGrant => true
  | .handoverTmo => true
  | .pathTestEnd => true
  | .restTimeEnd cls => below 6 cls
  | .rtMaxExpiry => true
  | .blockingRampEnd => true
  | .detectorCount det => below 8 det
  | .acRecovery => true
  | .dcStageTimer => true
  | .dcfNoclr => true
  | .energizeFail => true
  | .rampStepTimer ch => below 8 ch
  | .shapeCopyDone => true
  | .cfgCheckDone => true
  | .hkcEntryComplete conv code => below 2 conv && fits 24 code
  | .hkcInjTrigger conv src sel => below 2 conv && below 4 src && below 16 sel
  | .foregroundCalDone _ => true
  | .calDwellEnd bank => below 2 bank
  | .refselSettleEnd => true
  | .rotationCopyDone => true
  | .rotationShadowEnd => true
  | .leBistDone _ => true
  | .debugHalt blk => below 25 blk
  | .debugHaltEnd blk => below 25 blk
  | .haltHoldExpiry => true
  | .legReload leg => below 12 leg
  | .softTurnoffEnd leg => below 12 leg
  | .legRestEnd leg => below 12 leg
  | .evtPinChange pin _ _ => below 8 pin
  | .desatDetect sw _ _ => below 24 sw
  | .uvAccept sw _ _ => below 24 sw
  | .safetyEvaluation levels moved readback _ _ => fits 32 levels && fits 32 moved && fits 8 readback
  | .discrepancyTimeout input => below 16 input
  | .stop1DelayEnd fn => below 8 fn
  | .outputTestPulse out chan _ => below 4 out && below 2 chan
  | .edmTimeout out => below 4 out
  | .stepApply => true
  | .holdoverTimeout => true
  | .stationFrameReceive port _ _ _ _ _ => below 2 port
  | .txEgressStamp port _ _ => below 2 port
  | .svFrameReceive port _ _ _ => below 2 port
  | .svStale stream => below 16 stream
  | .gooseMessageReceive _ => true
  | .gooseTtlExpiry sub => below 32 sub
  | .trigPinEdge pin _ _ => below 4 pin
  | .segmentClose rec => below 4 rec
  | .autoRearm rec => below 4 rec
  | .syncLineFall _ => true
  | .bufferOverflow => true
  | .bufferDrained => true
  | .xspBlockEnd => true
  | .telemetryRecord rd => fits 24 rd
  | .sessionIdleExpiry _ => true
  | .pendingIdExpiry _ => true
  | .authLockEnd role => below 5 role
  | .storeComplete _ => true
  | .proofTestComplete _ => true
  | .selftestComplete _ => true
  | .softReset => true
  | .uvRelease sw _ => below 24 sw
  | .heartbeatReturn twin => below 2 twin
  | .tpTestPulse source high => below 4 source && fits 32 high
  | .syncLineRise _ => true
  | .proofDue => true

/-- The same as a proposition. -/
abbrev Instr.WellFormed (i : Instr) : Prop := i.wf = true

end Sys2Proof
end

