-- ==== Sys2Proof/Tests/Slice0.lean ====
section
/-! SUPPORT. Tests: ill-formed commands are refused; hand-computed results; for each statement with hypotheses, states and operands that meet them. -/

namespace Sys2Proof

open Sys2Proof.Machine

set_option Elab.async false

/-! ### States -/

/-- A header on a free mailbox slot, for session `k`; session `k` of role `r`. -/
def wHdr (k : Nat) : Hdr := ⟨.pcie, 0, 1, 0, 1, k, 16, true⟩
def wSes (k : Nat) (r : Role) : Session := ⟨k, r, .pcie, false, 0#256, none, [], 0⟩
/-- The same with the parameters' length of an opcode. -/
def wFor (code k : Nat) : Hdr := { wHdr k with length := (opSize code).getD 16 }
/-- A part out of reset, ACTIVE, with a session of each role (1 VIEWER to 5 SAFETY_OFFICER), changed by `f`. -/
def wRun (f : Hw → Hw) : State :=
  let s := State.reset
  let c : CmdSt := { sessions := [wSes 1 .viewer, wSes 2 .operator, wSes 3 .engineer, wSes 4 .service, wSes 5 .safetyOfficer] }
  { s with hw := f (({ s.hw with inReset := false, cmd := c } : Hw).put SYS_MODE_ACTIVE 1) }
/-- The same in mode `m`. -/
def wMode (m : Nat) (f : Hw → Hw) : State := wRun fun s => f (s.put SYS_MODE_MODE m)
/-- Criteria 0 to 4 of ENG_CRIT hold: charged arms, the grid tracked and in band. -/
def hot (s : Hw) : Hw :=
  let x := (List.range 6).foldl (fun x a => smapSet 0 x (outArea (8 + a / 3) + 4 * (a % 3)) 0x4000) s.xram
  ({ s with xram := x }.put GFL_STAT_TRACK_LOCK 1).setK kVmf 16000
/-- A parameter block: inputs 0 to 2, an ESTOP function that input 1 resets, output 0 with input 2 as its feedback; in six parts, with
its CRC-32. -/
def wSpbPart (k : Nat) : List Byte :=
  let fields : List (Nat × Nat) := [(0, 1), (4, 100), (6, 10), (8, 100), (0x0A, 10), (0x0C, 100), (0x10, 1), (0x11, 0x10), (0x12, 1),
    (0x14, 10), (0x18, 1), (0x19, 0x10), (0x1A, 1), (0x1C, 10), (0x20, 1), (0x21, 0x10), (0x22, 1), (0x24, 10), (0x90, 1), (0x94, 1),
    (0x95, 1), (0x98, 10), (0xF0, 2), (0xF1, 0xFF), (0xF2, 0xFF), (0xF3, 0xFF)]
  (List.range 42).map fun o => BitVec.ofNat 8 (smapGet 0 fields (42 * k + o))
def wSpb : List Byte :=
  wSpbPart 0 ++ wSpbPart 1 ++ wSpbPart 2 ++ wSpbPart 3 ++ wSpbPart 4 ++ wSpbPart 5 ++ [0xC9, 0x11, 0x91, 0x96]
/-- A running part whose block is confirmed. -/
def wSafe (f : Hw → Hw) : State := wRun fun s => f ((s.onSaf fun c => { c with spb := some wSpb, ready := true }).put SAF_STAT_CONFIRMED 1)
/-- A Granary frame on lane 49: its marker, its block and the bits that follow the marker on the line. -/
def wMarker : Marker := ⟨0, 49, 5, false, true, true, true, 3, 2⟩
def wBlock : Nat := blockOf (3 * 2 ^ 11228)
def wLine : List Bool :=
  stuff (endRun wMarker.bits) (bitOf wMarker.bits 0) (scramble (scrSeed wMarker.dir wMarker.lane wMarker.tick) (natBits 11264 wBlock))

/-! ### Well-formedness: one ill-formed command for each check -/

theorem test_wf_header : (wHdr 1).wf = true ∧
    ([{ wHdr 1 with transport := .internal },
      { wHdr 1 with version := 256 },
      { wHdr 1 with flags := 65536 },
      { wHdr 1 with seq := 65536 },
      { wHdr 1 with session := 2 ^ 32 },
      { wHdr 1 with length := 2 ^ 32 },
      { wHdr 1 with port := 8 },
      { wHdr 1 with transport := .spi, port := 1 }].all fun h : Hdr => !h.wf) = true := by
  decide +kernel

theorem test_wf_refuses_1 : ([.energize (wHdr 1) (2 ^ 8), .tripReset (wHdr 1) (2 ^ 16), .enableCancel (wHdr 1) (2 ^ 8),
      .modecfgSet (wHdr 1) (2 ^ 32) 0, .modecfgSet (wHdr 1) 0 (2 ^ 32), .spareSubst (wHdr 1) (2 ^ 8) 0,
      .spareSubst (wHdr 1) 0 (2 ^ 8), .spareRelease (wHdr 1) (2 ^ 8),
      .hkcConfig (wHdr 1) (2 ^ 8) 0 (List.replicate 32 0) (List.replicate 4 0) 0,
      .hkcConfig (wHdr 1) 0 (2 ^ 32) (List.replicate 32 0) (List.replicate 4 0) 0,
      .hkcConfig (wHdr 1) 0 0 (List.replicate 31 0) (List.replicate 4 0) 0,
      .hkcConfig (wHdr 1) 0 0 (List.replicate 32 (2 ^ 32)) (List.replicate 4 0) 0,
      .hkcConfig (wHdr 1) 0 0 (List.replicate 32 0) (List.replicate 3 0) 0,
      .hkcConfig (wHdr 1) 0 0 (List.replicate 32 0) (List.replicate 4 (2 ^ 32)) 0,
      .hkcConfig (wHdr 1) 0 0 (List.replicate 32 0) (List.replicate 4 0) (2 ^ 32), .hkcInject (wHdr 1) (2 ^ 8),
      .hkcRead (wHdr 1) (2 ^ 8), .sieveStatusGet (wHdr 1) (2 ^ 8) 0, .sieveStatusGet (wHdr 1) 0 (2 ^ 8),
      .sieveSetSelect (wHdr 1) (2 ^ 8) 0 0 0, .sieveSetSelect (wHdr 1) 0 (2 ^ 16) 0 0, .sieveSetSelect (wHdr 1) 0 0 (2 ^ 8) 0,
      .sieveSetSelect (wHdr 1) 0 0 0 (2 ^ 8), .sieveCoefLoad (wHdr 1) (2 ^ 8) 0 [], .sieveCoefLoad (wHdr 1) 0 (2 ^ 8) [],
      .sieveCoefLoad (wHdr 1) 0 0 [-2 ^ 15 - 1], .toneConfig (wHdr 1) (2 ^ 8) 0 0 0, .toneConfig (wHdr 1) 0 (2 ^ 8) 0 0,
      .toneConfig (wHdr 1) 0 0 (2 ^ 32) 0, .toneConfig (wHdr 1) 0 0 0 (2 ^ 32), .toneRead (wHdr 1) (2 ^ 8) 0,
      .toneRead (wHdr 1) 0 (2 ^ 16), .leStatusGet (wHdr 1) (2 ^ 8), .leImageLoad (wHdr 1) (2 ^ 32) 0 [] false,
      .leImageLoad (wHdr 1) 0 (2 ^ 16) [] false, .leClcfgSet (wHdr 1) (2 ^ 8) 0, .leClcfgSet (wHdr 1) 0 (2 ^ 8),
      .leMissClear (wHdr 1) (2 ^ 32), .leRotate (wHdr 1) (2 ^ 8) 0, .leRotate (wHdr 1) 0 (2 ^ 8)] : List Instr).all (fun i => !i.wf) = true := by
  decide +kernel

theorem test_wf_refuses_2 : ([.leRegionCfg (wHdr 1) (2 ^ 8) (List.replicate 12 0) (List.replicate 32 0) 0 0,
      .leRegionCfg (wHdr 1) 0 (List.replicate 11 0) (List.replicate 32 0) 0 0,
      .leRegionCfg (wHdr 1) 0 (List.replicate 12 (2 ^ 32)) (List.replicate 32 0) 0 0,
      .leRegionCfg (wHdr 1) 0 (List.replicate 12 0) (List.replicate 31 0) 0 0,
      .leRegionCfg (wHdr 1) 0 (List.replicate 12 0) (List.replicate 32 (2 ^ 32)) 0 0,
      .leRegionCfg (wHdr 1) 0 (List.replicate 12 0) (List.replicate 32 0) (2 ^ 8) 0,
      .leRegionCfg (wHdr 1) 0 (List.replicate 12 0) (List.replicate 32 0) 0 (2 ^ 8),
      .leGainsetLoad (wHdr 1) (2 ^ 8) 0 (List.replicate 64 0), .leGainsetLoad (wHdr 1) 0 (2 ^ 8) (List.replicate 64 0),
      .leGainsetLoad (wHdr 1) 0 0 (List.replicate 63 0), .leGainsetLoad (wHdr 1) 0 0 (List.replicate 64 (2 ^ 16)),
      .leInjStart (wHdr 1) (2 ^ 8) 0 0 (.prbs 7 1 1) 0 0, .leInjStart (wHdr 1) 0 (2 ^ 8) 0 (.prbs 7 1 1) 0 0,
      .leInjStart (wHdr 1) 0 0 (2 ^ 8) (.prbs 7 1 1) 0 0, .leInjStart (wHdr 1) 0 0 0 (.prbs 7 1 1) (2 ^ 16) 0,
      .leInjStart (wHdr 1) 0 0 0 (.prbs 7 1 1) 0 (2 ^ 16), .leInjStop (wHdr 1) (2 ^ 8) 0, .leInjStop (wHdr 1) 0 (2 ^ 8),
      .leVarRead (wHdr 1) (2 ^ 8) 0 0 0, .leVarRead (wHdr 1) 0 (2 ^ 8) 0 0, .leVarRead (wHdr 1) 0 0 (2 ^ 32) 0,
      .leVarRead (wHdr 1) 0 0 0 (2 ^ 16), .gflParamSet (wHdr 1) (2 ^ 16) 0, .gflParamSet (wHdr 1) 0 (2 ^ 32),
      .gflParamGet (wHdr 1) (2 ^ 16), .lftParamSet (wHdr 1) (2 ^ 16) 0, .lftParamSet (wHdr 1) 0 (2 ^ 32),
      .lftParamGet (wHdr 1) (2 ^ 16), .engParamSet (wHdr 1) (2 ^ 16) 0, .engParamSet (wHdr 1) 0 (2 ^ 32),
      .engParamGet (wHdr 1) (2 ^ 16), .rampStatusGet (wHdr 1) (2 ^ 8), .rampMove (wHdr 1) (2 ^ 8) 0 0,
      .rampMove (wHdr 1) 0 (2 ^ 16) 0, .rampMove (wHdr 1) 0 0 (2 ^ 32), .rampReplace (wHdr 1) (2 ^ 8) 0 0,
      .rampReplace (wHdr 1) 0 (2 ^ 16) 0, .rampReplace (wHdr 1) 0 0 (2 ^ 32), .rampStop (wHdr 1) (2 ^ 8),
      .rampCfgSet (wHdr 1) (2 ^ 8) 0 0 0 0 0 0 0 0] : List Instr).all (fun i => !i.wf) = true := by
  decide +kernel

theorem test_wf_refuses_3 : ([.rampCfgSet (wHdr 1) 0 (2 ^ 32) 0 0 0 0 0 0 0, .rampCfgSet (wHdr 1) 0 0 (2 ^ 32) 0 0 0 0 0 0,
      .rampCfgSet (wHdr 1) 0 0 0 (2 ^ 32) 0 0 0 0 0, .rampCfgSet (wHdr 1) 0 0 0 0 (2 ^ 32) 0 0 0 0,
      .rampCfgSet (wHdr 1) 0 0 0 0 0 (2 ^ 32) 0 0 0, .rampCfgSet (wHdr 1) 0 0 0 0 0 0 (2 ^ 32) 0 0,
      .rampCfgSet (wHdr 1) 0 0 0 0 0 0 0 (2 ^ 32) 0, .rampCfgSet (wHdr 1) 0 0 0 0 0 0 0 0 (2 ^ 32),
      .shapeLoad (wHdr 1) (2 ^ 16) 0 [], .shapeLoad (wHdr 1) 0 (2 ^ 16) [], .shapeLoad (wHdr 1) 0 0 [2 ^ 16],
      .shapeSelect (wHdr 1) (2 ^ 8), .vsqArmCfgSet (wHdr 1) (2 ^ 8) 0 0, .vsqArmCfgSet (wHdr 1) 0 (2 ^ 32) 0,
      .vsqArmCfgSet (wHdr 1) 0 0 (2 ^ 32), .vsqSlotTypeSet (wHdr 1) (2 ^ 8) 0 0 [], .vsqSlotTypeSet (wHdr 1) 0 (2 ^ 16) 0 [],
      .vsqSlotTypeSet (wHdr 1) 0 0 (2 ^ 16) [], .vsqSlotTypeSet (wHdr 1) 0 0 0 [2 ^ 32], .slotExclude (wHdr 1) (2 ^ 8) 0,
      .slotExclude (wHdr 1) 0 (2 ^ 16), .slotRestore (wHdr 1) (2 ^ 8) 0, .slotRestore (wHdr 1) 0 (2 ^ 16),
      .vsqSlotRead (wHdr 1) (2 ^ 8) 0 0, .vsqSlotRead (wHdr 1) 0 (2 ^ 16) 0, .vsqSlotRead (wHdr 1) 0 0 (2 ^ 16),
      .laneStatusGet (wHdr 1) (2 ^ 64), .laneCfgSet (wHdr 1) (2 ^ 8) 0 0, .laneCfgSet (wHdr 1) 0 (2 ^ 32) 0,
      .laneCfgSet (wHdr 1) 0 0 (2 ^ 32), .laneBringup (wHdr 1) (2 ^ 64), .laneIdleEnter (wHdr 1) (2 ^ 64),
      .laneIdleExit (wHdr 1) (2 ^ 64), .shlCfgSet (wHdr 1) (2 ^ 32), .shfStatusGet (wHdr 1) (2 ^ 64),
      .shfCfgSet (wHdr 1) (2 ^ 32) 0, .shfCfgSet (wHdr 1) 0 (2 ^ 32), .hubDiscover (wHdr 1) (2 ^ 64),
      .hubFallbackSet (wHdr 1) (2 ^ 8) 0 0 0, .hubFallbackSet (wHdr 1) 0 (2 ^ 32) 0 0] : List Instr).all (fun i => !i.wf) = true := by
  decide +kernel

theorem test_wf_refuses_4 : ([.hubFallbackSet (wHdr 1) 0 0 (2 ^ 32) 0, .hubFallbackSet (wHdr 1) 0 0 0 (2 ^ 32), .hubMsg (wHdr 1) (2 ^ 8) 0 0 [],
      .hubMsg (wHdr 1) 0 (2 ^ 16) 0 [], .hubMsg (wHdr 1) 0 0 (2 ^ 16) [], .lstLegCfgSet (wHdr 1) (2 ^ 8) 0 0 0 0,
      .lstLegCfgSet (wHdr 1) 0 (2 ^ 32) 0 0 0, .lstLegCfgSet (wHdr 1) 0 0 (2 ^ 32) 0 0,
      .lstLegCfgSet (wHdr 1) 0 0 0 (2 ^ 32) 0, .lstLegCfgSet (wHdr 1) 0 0 0 0 (2 ^ 32), .lstLegEnable (wHdr 1) (2 ^ 16),
      .lstLegDisable (wHdr 1) (2 ^ 16), .lstUpdate (wHdr 1) (2 ^ 8) false false false 0 0,
      .lstUpdate (wHdr 1) 0 false false false (2 ^ 32) 0, .lstUpdate (wHdr 1) 0 false false false 0 (2 ^ 32),
      .lstGroupSet (wHdr 1) (2 ^ 8) 0 (List.replicate 8 0), .lstGroupSet (wHdr 1) 0 (2 ^ 32) (List.replicate 8 0),
      .lstGroupSet (wHdr 1) 0 0 (List.replicate 7 0), .lstGroupSet (wHdr 1) 0 0 (List.replicate 8 (2 ^ 32)),
      .lstCtrlSet (wHdr 1) (2 ^ 32) 0 0, .lstCtrlSet (wHdr 1) 0 (2 ^ 32) 0, .lstCtrlSet (wHdr 1) 0 0 (2 ^ 32),
      .swpCfgSet (wHdr 1) (2 ^ 8) 0 0, .swpCfgSet (wHdr 1) 0 (2 ^ 32) 0, .swpCfgSet (wHdr 1) 0 0 (2 ^ 32),
      .swpClear (wHdr 1) (2 ^ 24), .swpTest (wHdr 1) (2 ^ 24), .swpCtrlSet (wHdr 1) (2 ^ 32), .twinCfgSet (wHdr 1) (2 ^ 32),
      .twinPathTest (wHdr 1) (2 ^ 64) 0, .twinPathTest (wHdr 1) 0 (2 ^ 16), .reeveCfgSet (wHdr 1) (2 ^ 32),
      .reeveForce (wHdr 1) (2 ^ 8), .almStep (wHdr 1) (2 ^ 8) 0 0, .almStep (wHdr 1) 0 (2 ^ 47) 0,
      .almStep (wHdr 1) 0 0 (2 ^ 31), .almIncSet (wHdr 1) (2 ^ 64), .almTxtsRead (wHdr 1) (2 ^ 8) 0,
      .almTxtsRead (wHdr 1) 0 (2 ^ 8), .almCfgSet (wHdr 1) (2 ^ 32) 0 0 0] : List Instr).all (fun i => !i.wf) = true := by
  decide +kernel

theorem test_wf_refuses_5 : ([.almCfgSet (wHdr 1) 0 (2 ^ 32) 0 0, .almCfgSet (wHdr 1) 0 0 (2 ^ 32) 0, .almCfgSet (wHdr 1) 0 0 0 (2 ^ 32),
      .oryMdllSet (wHdr 1) (2 ^ 8) 0, .oryMdllSet (wHdr 1) 0 (2 ^ 32), .orySscSet (wHdr 1) (2 ^ 32) none 0,
      .orySscSet (wHdr 1) 0 (some [0]) 0, .orySscSet (wHdr 1) 0 none (2 ^ 8), .oryClkoutSet (wHdr 1) (2 ^ 8) 0,
      .oryClkoutSet (wHdr 1) 0 (2 ^ 32), .chrTrgCfg (wHdr 1) (2 ^ 8) 0 0, .chrTrgCfg (wHdr 1) 0 (2 ^ 32) 0,
      .chrTrgCfg (wHdr 1) 0 0 (2 ^ 32), .chrRecCfg (wHdr 1) (2 ^ 8) 0 0 0 0 0 0 none,
      .chrRecCfg (wHdr 1) 0 (2 ^ 32) 0 0 0 0 0 none, .chrRecCfg (wHdr 1) 0 0 (2 ^ 32) 0 0 0 0 none,
      .chrRecCfg (wHdr 1) 0 0 0 (2 ^ 32) 0 0 0 none, .chrRecCfg (wHdr 1) 0 0 0 0 (2 ^ 32) 0 0 none,
      .chrRecCfg (wHdr 1) 0 0 0 0 0 (2 ^ 32) 0 none, .chrRecCfg (wHdr 1) 0 0 0 0 0 0 (2 ^ 32) none,
      .chrRecCfg (wHdr 1) 0 0 0 0 0 0 0 (some [0]), .chrArm (wHdr 1) (2 ^ 8), .chrStop (wHdr 1) (2 ^ 8),
      .chrForce (wHdr 1) (2 ^ 8), .chrRead (wHdr 1) (2 ^ 64) 0, .chrRead (wHdr 1) 0 (2 ^ 32),
      .chrStatCfg (wHdr 1) (2 ^ 8) 0 0 0, .chrStatCfg (wHdr 1) 0 (2 ^ 32) 0 0, .chrStatCfg (wHdr 1) 0 0 (2 ^ 32) 0,
      .chrStatCfg (wHdr 1) 0 0 0 (2 ^ 32), .chrXspStart (wHdr 1) (2 ^ 32) 0 0 0 0 [],
      .chrXspStart (wHdr 1) 0 (2 ^ 32) 0 0 0 [], .chrXspStart (wHdr 1) 0 0 (2 ^ 32) 0 0 [],
      .chrXspStart (wHdr 1) 0 0 0 (2 ^ 32) 0 [], .chrXspStart (wHdr 1) 0 0 0 0 (2 ^ 32) [],
      .chrXspStart (wHdr 1) 0 0 0 0 0 [2 ^ 32], .safetyParamRead (wHdr 1) (2 ^ 8), .safetyConfirm (wHdr 1) (2 ^ 32),
      .sessionOpen (wHdr 1) (2 ^ 8) 0 [], .sessionOpen (wHdr 1) 0 (2 ^ 8) []] : List Instr).all (fun i => !i.wf) = true := by
  decide +kernel

theorem test_wf_refuses_6 : ([.netCfgSet (wHdr 1) (2 ^ 32) 0 0 0, .netCfgSet (wHdr 1) 0 (2 ^ 32) 0 0, .netCfgSet (wHdr 1) 0 0 (2 ^ 32) 0,
      .netCfgSet (wHdr 1) 0 0 0 (2 ^ 32), .svSubSet (wHdr 1) (2 ^ 8) 0 0 0 0, .svSubSet (wHdr 1) 0 (2 ^ 32) 0 0 0,
      .svSubSet (wHdr 1) 0 0 (2 ^ 32) 0 0, .svSubSet (wHdr 1) 0 0 0 (2 ^ 32) 0, .svSubSet (wHdr 1) 0 0 0 0 (2 ^ 32),
      .gooseSubSet (wHdr 1) (2 ^ 8) 0 0 0, .gooseSubSet (wHdr 1) 0 (2 ^ 32) 0 0, .gooseSubSet (wHdr 1) 0 0 (2 ^ 32) 0,
      .gooseSubSet (wHdr 1) 0 0 0 (2 ^ 32), .netFrameSend (wHdr 1) (2 ^ 8) 0 0 [], .netFrameSend (wHdr 1) 0 (2 ^ 8) 0 [],
      .netFrameSend (wHdr 1) 0 0 (2 ^ 80) [], .netRxCfg (wHdr 1) (2 ^ 64) 0 (List.replicate 4 0),
      .netRxCfg (wHdr 1) 0 (2 ^ 16) (List.replicate 4 0), .netRxCfg (wHdr 1) 0 0 (List.replicate 3 0),
      .netRxCfg (wHdr 1) 0 0 (List.replicate 4 (2 ^ 16)), .telemCfgSet (wHdr 1) (2 ^ 64) 0 0 0 [],
      .telemCfgSet (wHdr 1) 0 (2 ^ 24) 0 0 [], .telemCfgSet (wHdr 1) 0 0 (2 ^ 8) 0 [], .telemCfgSet (wHdr 1) 0 0 0 (2 ^ 16) [],
      .regRead (wHdr 1) (2 ^ 32) 0, .regRead (wHdr 1) 0 (2 ^ 16), .regWrite (wHdr 1) (2 ^ 32) 0 0,
      .regWrite (wHdr 1) 0 (2 ^ 32) 0, .regWrite (wHdr 1) 0 0 (2 ^ 32), .regWriteBlock (wHdr 1) (2 ^ 32) [],
      .regWriteBlock (wHdr 1) 0 [2 ^ 32], .fwLoad (wHdr 1) (2 ^ 8) 0 0 [], .fwLoad (wHdr 1) 0 (2 ^ 32) 0 [],
      .fwLoad (wHdr 1) 0 0 (2 ^ 16) [], .fwVerify (wHdr 1) (2 ^ 8), .fwSelect (wHdr 1) (2 ^ 8), .rolekeySet (wHdr 1) (2 ^ 8) 0,
      .attestRead (wHdr 1) (2 ^ 16) 0, .attestRead (wHdr 1) 0 (2 ^ 16), .identityGet (wHdr 1) (2 ^ 16) 0] : List Instr).all (fun i => !i.wf) = true := by
  decide +kernel

theorem test_wf_refuses_7 : ([.identityGet (wHdr 1) 0 (2 ^ 16), .secCfgSet (wHdr 1) (2 ^ 32), .logRead (wHdr 1) (2 ^ 64) 0,
      .logRead (wHdr 1) 0 (2 ^ 16), .logAck (wHdr 1) (2 ^ 64), .logCfgSet (wHdr 1) (2 ^ 32), .intCfgSet (wHdr 1) (2 ^ 32),
      .intInject (wHdr 1) (2 ^ 8) 0, .intInject (wHdr 1) 0 (2 ^ 16), .lstCommit (wHdr 1) (2 ^ 32), .chrHistClr (wHdr 1) 17,
      .almInclWrite (wHdr 1) (2 ^ 32), .almInchWrite (wHdr 1) (2 ^ 32), .hkcnDataRead (wHdr 1) 2, .tdMag2Read (wHdr 1) 2 0,
      .tdMag2Read (wHdr 1) 0 16, .almTxtsIdRead (wHdr 1) 2, .mbDb (2 ^ 3), .mbReadyRelease (2 ^ 8), .readReply (2 ^ 32),
      .powerDown (2 ^ 8) 0 0 0, .brownOut 8, .mdllLockLost 4, .mdllLocked 4 0, .mdllLocked 0 16, .cdcTimeout (2 ^ 16),
      .tickBoundary [2 ^ 16] [], .tickBoundary [] [2 ^ 16], .conversionDone 34 0 false, .conversionDone 0 (2 ^ 15) false,
      .conversionFault 34 false, .sieveControlBurst 0 (2 ^ 2), .sieveRecorderEval 16 0, .sieveRecorderEval 0 (2 ^ 2),
      .coefEccError 2, .toneBlockDone 2 0, .toneBlockDone 0 16, .taskStart 24 0 ⟨[], false, false⟩,
      .taskStart 0 8 ⟨[], false, false⟩, .taskEnd 24 0 false] : List Instr).all (fun i => !i.wf) = true := by
  decide +kernel

theorem test_wf_refuses_8 : ([.taskEnd 0 8 false, .taskDeadline 24 0 false, .taskDeadline 0 8 false, .sequencerLatch [2 ^ 13] false,
      .frameRelease [2 ^ 7] 0, .uplinkFrameReceive 48 false 0 0 [] 0 [], .bulkMessageReceive 48, .lossOfLock 50,
      .losAssert 50 false, .uplinkLossTol 48, .idleEntryComplete 48, .exitBurst 48, .bulkResend 48,
      .granaryFrameReceive 50 false 0 0 [] 0 [] ⟨0, 0, []⟩, .healthWordReceive 2 false 0, .healthWordReceive 0 false (2 ^ 48),
      .heartbeatLoss 2, .restTimeEnd 6, .detectorCount 8, .rampStepTimer 8, .hkcEntryComplete 2 0,
      .hkcEntryComplete 0 (2 ^ 24), .hkcInjTrigger 2 0 0, .hkcInjTrigger 0 4 0, .hkcInjTrigger 0 0 16, .calDwellEnd 2,
      .debugHalt 25, .debugHaltEnd 25, .legReload 12, .softTurnoffEnd 12, .legRestEnd 12, .evtPinChange 8 0 false,
      .desatDetect 24 0 false, .uvAccept 24 0 false, .safetyEvaluation (2 ^ 32) 0 0 false false,
      .safetyEvaluation 0 (2 ^ 32) 0 false false, .safetyEvaluation 0 0 (2 ^ 8) false false, .discrepancyTimeout 16,
      .stop1DelayEnd 8, .outputTestPulse 4 0 false] : List Instr).all (fun i => !i.wf) = true := by
  decide +kernel

theorem test_wf_refuses_9 : ([.outputTestPulse 0 2 false, .edmTimeout 4, .stationFrameReceive 2 0 0 [] false .ignore, .txEgressStamp 2 0 0,
      .svFrameReceive 2 0 0 ⟨0, 0, false, []⟩, .svStale 16, .gooseTtlExpiry 32, .trigPinEdge 4 0 false, .segmentClose 4,
      .autoRearm 4, .telemetryRecord (2 ^ 24), .authLockEnd 5, .uvRelease 24 false, .heartbeatReturn 2, .tpTestPulse 4 0,
      .tpTestPulse 0 (2 ^ 32)] : List Instr).all (fun i => !i.wf) = true := by
  decide +kernel

theorem test_wf_accepts_1 : ([.modeGet (wHdr 1), .enterCommission (wHdr 1), .leaveCommission (wHdr 1), .energize (wHdr 1) 0, .deblockForm (wHdr 1),
      .block (wHdr 1), .trip (wHdr 1), .tripReset (wHdr 1) 0, .enableCancel (wHdr 1) 0, .modecfgSet (wHdr 1) 0 0,
      .fchStatusGet (wHdr 1), .fchCalibrate (wHdr 1), .spareSubst (wHdr 1) 0 0, .spareRelease (wHdr 1) 0,
      .hkcConfig (wHdr 1) 0 0 (List.replicate 32 0) (List.replicate 4 0) 0, .hkcInject (wHdr 1) 0, .hkcRead (wHdr 1) 0,
      .sieveStatusGet (wHdr 1) 0 0, .sieveSetSelect (wHdr 1) 0 0 0 0, .sieveCoefLoad (wHdr 1) 0 0 [],
      .sieveCoefCommit (wHdr 1), .toneConfig (wHdr 1) 0 0 0 0, .toneRead (wHdr 1) 0 0, .leStatusGet (wHdr 1) 0,
      .leImageLoad (wHdr 1) 0 0 [] false, .leImageActivate (wHdr 1), .leClcfgSet (wHdr 1) 0 0, .leMissClear (wHdr 1) 0,
      .leRotate (wHdr 1) 0 0, .leRegionCfg (wHdr 1) 0 (List.replicate 12 0) (List.replicate 32 0) 0 0,
      .leGainsetLoad (wHdr 1) 0 0 (List.replicate 64 0), .leInjStart (wHdr 1) 0 0 0 (.prbs 7 1 1) 0 0, .leInjStop (wHdr 1) 0 0,
      .leVarRead (wHdr 1) 0 0 0 0, .gflParamSet (wHdr 1) 0 0, .gflParamGet (wHdr 1) 0, .gflStatusGet (wHdr 1),
      .lftParamSet (wHdr 1) 0 0, .lftParamGet (wHdr 1) 0, .lftStatusGet (wHdr 1), .engParamSet (wHdr 1) 0 0,
      .engParamGet (wHdr 1) 0, .engStatusGet (wHdr 1), .rampStatusGet (wHdr 1) 0, .rampMove (wHdr 1) 0 0 0,
      .rampReplace (wHdr 1) 0 0 0, .rampStop (wHdr 1) 0, .rampCfgSet (wHdr 1) 0 0 0 0 0 0 0 0 0, .shapeLoad (wHdr 1) 0 0 [],
      .shapeCommit (wHdr 1), .shapeSelect (wHdr 1) 0, .vsqStatusGet (wHdr 1), .vsqArmCfgSet (wHdr 1) 0 0 0,
      .vsqSlotTypeSet (wHdr 1) 0 0 0 [], .slotExclude (wHdr 1) 0 0, .slotRestore (wHdr 1) 0 0, .vsqSlotRead (wHdr 1) 0 0 0,
      .laneStatusGet (wHdr 1) 0, .laneCfgSet (wHdr 1) 0 0 0, .laneBringup (wHdr 1) 0] : List Instr).all Instr.wf = true := by
  decide +kernel

theorem test_wf_accepts_2 : ([.laneIdleEnter (wHdr 1) 0, .laneIdleExit (wHdr 1) 0, .shlCfgSet (wHdr 1) 0, .shfStatusGet (wHdr 1) 0,
      .shfCfgSet (wHdr 1) 0 0, .hubDiscover (wHdr 1) 0, .hubFallbackSet (wHdr 1) 0 0 0 0, .hubMsg (wHdr 1) 0 0 0 [],
      .lstStatusGet (wHdr 1), .lstLegCfgSet (wHdr 1) 0 0 0 0 0, .lstLegEnable (wHdr 1) 0, .lstLegDisable (wHdr 1) 0,
      .lstUpdate (wHdr 1) 0 false false false 0 0, .lstGroupSet (wHdr 1) 0 0 (List.replicate 8 0), .legClearClk (wHdr 1),
      .lstCtrlSet (wHdr 1) 0 0 0, .swpStatusGet (wHdr 1), .swpCfgSet (wHdr 1) 0 0 0, .swpClear (wHdr 1) 0, .swpTest (wHdr 1) 0,
      .swpCtrlSet (wHdr 1) 0, .twinStatusGet (wHdr 1), .twinCfgSet (wHdr 1) 0, .twinHandover (wHdr 1),
      .twinPathTest (wHdr 1) 0 0, .reeveStatusGet (wHdr 1), .reeveCfgSet (wHdr 1) 0, .reeveForce (wHdr 1) 0,
      .almTimeGet (wHdr 1), .almStep (wHdr 1) 0 0 0, .almIncSet (wHdr 1) 0, .almTxtsRead (wHdr 1) 0 0,
      .almCfgSet (wHdr 1) 0 0 0 0, .oryStatusGet (wHdr 1), .oryMdllSet (wHdr 1) 0 0, .orySscSet (wHdr 1) 0 none 0,
      .oryClkoutSet (wHdr 1) 0 0, .cdcStatusGet (wHdr 1), .chrStatusGet (wHdr 1), .chrTrgCfg (wHdr 1) 0 0 0,
      .chrRecCfg (wHdr 1) 0 0 0 0 0 0 0 none, .chrArm (wHdr 1) 0, .chrStop (wHdr 1) 0, .chrForce (wHdr 1) 0,
      .chrRead (wHdr 1) 0 0, .chrStatCfg (wHdr 1) 0 0 0 0, .chrXspStart (wHdr 1) 0 0 0 0 0 [], .chrXspStop (wHdr 1),
      .chrSyncArm (wHdr 1), .chrSelftest (wHdr 1), .safetyStatusGet (wHdr 1), .safetyParamLoad (wHdr 1) [],
      .safetyParamRead (wHdr 1) 0, .safetyConfirm (wHdr 1) 0, .safetyProofTest (wHdr 1), .sysIdent (wHdr 1),
      .sessionOpen (wHdr 1) 0 0 [], .sessionOpenProof (wHdr 1) [], .sessionClose (wHdr 1), .sysStatusGet (wHdr 1)] : List Instr).all Instr.wf = true := by
  decide +kernel

theorem test_wf_accepts_3 : ([.sysReset (wHdr 1), .netCfgSet (wHdr 1) 0 0 0 0, .svSubSet (wHdr 1) 0 0 0 0 0, .gooseSubSet (wHdr 1) 0 0 0 0,
      .netStatusGet (wHdr 1), .netFrameSend (wHdr 1) 0 0 0 [], .netRxCfg (wHdr 1) 0 0 (List.replicate 4 0),
      .telemCfgSet (wHdr 1) 0 0 0 0 [], .regRead (wHdr 1) 0 0, .regWrite (wHdr 1) 0 0 0, .regWriteBlock (wHdr 1) 0 [],
      .storeStatusGet (wHdr 1), .store (wHdr 1), .storeRevert (wHdr 1), .storeErase (wHdr 1), .secStatusGet (wHdr 1),
      .fwLoad (wHdr 1) 0 0 0 [], .fwVerify (wHdr 1) 0, .fwSelect (wHdr 1) 0, .fwSvnCommit (wHdr 1), .keyEnroll (wHdr 1) [],
      .keyRevoke (wHdr 1), .rolekeySet (wHdr 1) 0 0, .attestQuote (wHdr 1) [], .attestRead (wHdr 1) 0 0,
      .identityGet (wHdr 1) 0 0, .secCfgSet (wHdr 1) 0, .logStatusGet (wHdr 1), .logRead (wHdr 1) 0 0, .logAck (wHdr 1) 0,
      .logCfgSet (wHdr 1) 0, .intStatusGet (wHdr 1), .intCfgSet (wHdr 1) 0, .intInject (wHdr 1) 0 0, .svUserctlCommit (wHdr 1),
      .shapeCtrlCommit (wHdr 1), .lstCommit (wHdr 1) 0, .sysTlmaxClr (wHdr 1), .chrHistClr (wHdr 1) 0,
      .almInclWrite (wHdr 1) 0, .almInchWrite (wHdr 1) 0, .almNsRead (wHdr 1), .hkcnDataRead (wHdr 1) 0,
      .tdMag2Read (wHdr 1) 0 0, .almTxtsIdRead (wHdr 1) 0, .mbDb 0, .mbReadyRelease 0, .readReply 0, .powerDown 0 0 0 0,
      .brownOut 0, .mdllLockLost 0, .mdllLocked 0 0, .cdcTimeout 0, .tickBoundary [] [], .conversionDone 0 0 false,
      .conversionFault 0 false, .sieveControlBurst 0 0, .sieveRecorderEval 0 0, .coefEccError 0, .toneBlockDone 0 0] : List Instr).all Instr.wf = true := by
  decide +kernel

theorem test_wf_accepts_4 : ([.taskStart 0 0 ⟨[], false, false⟩, .taskEnd 0 0 false, .taskDeadline 0 0 false, .sequencerLatch [] false,
      .frameRelease [] 0, .uplinkFrameReceive 0 false 0 0 [] 0 [], .bulkMessageReceive 0, .lossOfLock 0, .losAssert 0 false,
      .uplinkLossTol 0, .idleEntryComplete 0, .exitBurst 0, .bulkResend 0, .granaryFrameReceive 0 false 0 0 [] 0 [] ⟨0, 0, []⟩,
      .healthWordReceive 0 false 0, .heartbeatLoss 0, .restTimeEnd 0, .detectorCount 0, .rampStepTimer 0,
      .hkcEntryComplete 0 0, .hkcInjTrigger 0 0 0, .calDwellEnd 0, .debugHalt 0, .debugHaltEnd 0, .legReload 0,
      .softTurnoffEnd 0, .legRestEnd 0, .evtPinChange 0 0 false, .desatDetect 0 0 false, .uvAccept 0 0 false,
      .safetyEvaluation 0 0 0 false false, .discrepancyTimeout 0, .stop1DelayEnd 0, .outputTestPulse 0 0 false, .edmTimeout 0,
      .stationFrameReceive 0 0 0 [] false .ignore, .txEgressStamp 0 0 0, .svFrameReceive 0 0 0 ⟨0, 0, false, []⟩, .svStale 0,
      .gooseTtlExpiry 0, .trigPinEdge 0 0 false, .segmentClose 0, .autoRearm 0, .telemetryRecord 0, .authLockEnd 0,
      .uvRelease 0 false, .heartbeatReturn 0, .tpTestPulse 0 0] : List Instr).all Instr.wf = true := by
  decide +kernel

/-! ### Worked examples of the manual: every number is the manual's -/

/-- 01_tick_and_data_flow.md, locating a tick. -/
theorem test_tick_number : tickNumber 86400 123457000 = 0x0EECA120 ∧ 0x0EECA120 % 16 = 0 ∧ 123457000 % 1000000 / 2000 = 228 := by
  decide +kernel
/-- 01_tick_and_data_flow.md, addressing a lane and an engine. -/
theorem test_windows_of_lane_37_and_engine_14 : LNn_CFG 37 / 4096 * 4096 = 0x22025000 ∧ LEn_STAT 14 / 65536 * 65536 = 0x210E0000 := by
  decide +kernel
/-- 03_fast_channels.md, correcting one sample. -/
theorem test_sample_correction : correctSample 16400 12 0x4010 = (16404, false) := by decide +kernel
/-- 05_loop_engines.md, admission: 155 core cycles fit the first window, 156 do not. -/
theorem test_task_admission :
    budgetOk [⟨1, 110, 150, false, 150⟩, ⟨1, 150, 184, true, 120⟩, ⟨2, 0, 0, false, 10000⟩] = true ∧
    budgetOk [⟨1, 110, 150, false, 155⟩, ⟨1, 150, 184, true, 131⟩, ⟨3, 0, 0, false, 863500⟩] = true ∧
    budgetOk [⟨1, 110, 150, false, 156⟩] = false ∧ budgetOk [⟨1, 150, 184, true, 132⟩] = false ∧
    budgetOk [⟨1, 110, 150, false, 150⟩, ⟨1, 150, 184, true, 120⟩, ⟨3, 0, 0, false, 863501⟩] = false := by
  decide +kernel
/-- 05_loop_engines.md, bumpless change of a proportional gain: the integrator goes from 6,554 to 9,830. -/
theorem test_bumpless_rescaling :
    let part : EngineDecl := ⟨12, [], [], [], [⟨false, 0x4000, 0x4002, 0, 0⟩], [4], []⟩
    let s := ({} : Hw).onEng 12 fun e => { e with part := some part, dmem := [(0x2000, 6554), (0x2001, 3276)] }
    let t := rescale 12 (fun _ => 10240) (fun _ => 6144) ⟨false, 0x4000, 0x4002, 0, 0⟩ s
    smapGet 0 (t.engOf 12).dmem 0x2000 = 9830 := by
  decide +kernel
/-- 06_forming_law.md, one mapping. -/
theorem test_quantity_mapping :
    let s : Hw := { live := [(GFL_MAPq 0, BitVec.ofNat 32 2996)] }
    kQty s [(0x20, 22400)] 0 = 16384 := by
  decide +kernel
/-- 06_forming_law.md, the swing step: GH for H = 5 s (500 in units of 0.01 s). -/
theorem test_swing_constant :
    (kConst (fun a => if a = GFL_VSM then GFL_VSM_H.into 0 500 else regReset a) (fun _ => 4096)).gh = 219902 := by
  decide +kernel
/-- 07_limits_and_faults.md, the limiter in the first ride-through tick. -/
theorem test_current_limit :
    let x : SMap Nat := [(outArea 11, 0x8000), (outArea 11 + 1, 9830), (outArea 11 + 8, 18022)]
    let s : Hw := { live := [(LFT_IMAX, LFT_IMAX_IVI.into (LFT_IMAX_IMAX.into 0 18022) 17203),
      (LFT_PRIO, LFT_PRIO_RC_MODE.into (LFT_PRIO_PRIO_RT.into 0 1) 1)] }
    let r := currentLimit s x 20000 (-6000) 11469 0
    r.id = 15105 ∧ r.iq = -9830 ∧ r.lim = true ∧ r.gz = 16384 := by
  decide +kernel
/-- 08_energizing.md, DC pre-charge: 200 slots an arm. -/
theorem test_charge_targets :
    let s : Hw := { live := [(GFL_BASE1, GFL_BASE1_V_DC_BASE.into 0 6400), (GFL_SM, GFL_SM_V_SM_NOM.into 0 16000),
      (GFL_MAPq 6, GFL_MAPq_SCALE 6 |>.into 0 4096)], le := { frameX := [(0x20, 16384)] } }
    chgTargets ({ s with live := smapSet 0 s.live (GFL_MAPq 7) ((GFL_MAPq_CH 7).into 0 1) } : Hw) = (200, 200) := by
  decide +kernel
/-- 09_setpoint_ramps.md, a slow staircase. -/
theorem test_ramp_interval : stepInterval (5498 * 2 ^ 16) = 1562374 := by decide +kernel
/-- 10_valve_sequencer.md, a count with its fraction. -/
theorem test_slot_count : slotCount 5000 6400 420 420 6720000 true = (122, 36, false) := by decide +kernel
/-- 11_sheaf_lanes.md, delay and compensation on SL19. -/
theorem test_lane_delay :
    let s := (({} : Hw).put (SHL_CTRL_AVG_LOG2) 0).onLane 19 fun l => { l with comp := some 0, launched := [(0, 4 * 5530)] }
    let t := compFrame 19 (delaySample 19 0 76677 (4 * 5530 + 570469) s)
    s.launchGrid = 5530 ∧ t.get (LNn_RTT_RTT 19) = 570469 ∧ t.get (LNn_DLY_D 19) = 246896 ∧ t.laneComp 19 = 269016 := by
  decide +kernel
/-- 12_sheaf_frames.md, encoding the fractional slot: the header, and the transitions of slot 412 of A0 on SL4. -/
theorem test_downlink_header :
    let s := ((((({} : Hw).put SYS_MODE_MODE mForm).put SYS_MODE_ACTIVE 1).put SHF_CTRL_CFG_SEQ 5).put SHF_CTRL_APPLY_OFS 2560).latch [SHF_CTRL]
    s.downHeader = 0x17000A0005000000 := by
  decide +kernel
theorem test_downlink_transitions :
    let s := (({} : Hw).put (LNn_CFG_EN 4) 1).put (VSQ_SLOTa_j_TYPE 0 412) 1
    let s : Hw := { s with vsq := { s.vsq with arms := [(0, { timed := some (412, 238, 1, 274) })] } }
    smapGet [] (releaseFrames [] s).shf.trans 4 = [0x9C7708, 0x9C8900, 0, 0] := by
  decide +kernel
/-- 12_sheaf_frames.md, the lower bound of the apply offset. -/
theorem test_apply_min : applyMin 900 246896 500 = 3427 := by decide +kernel
/-- 13_local_stage.md, full duty with refresh. -/
theorem test_refresh_clamp : bootClamp false 12799 1 256 128 12800 = 12416 ∧ (32767 * 12800 + 16384) / 2 ^ 15 = 12800 := by decide +kernel
/-- 16_almanac.md, a fast oscillator: accepted in every mode; -250 ppm only where the part is not switching. -/
theorem test_increment_limits : incNear limRun 0x3E7FF5C29 = true ∧ incNear limRun (nomInc - 4194304) = false ∧
    incNear limAny (nomInc - 4194304) = true := by
  decide +kernel
/-- 18_chronograph.md: bytes of a UPL instant of all six arms. -/
theorem test_upl_segment :
    let s := ((({} : Hw).put (CHR_RECk_CFG_KIND 0) 4).put (CHR_RECk_SRC_MASK 0) 63).put (CHR_RECk_LEN_PRE 0) 500 |>.put (CHR_RECk_LEN_POST_M1 0) 1499
    s.recBytes 0 = 13872 ∧ s.segBytes 0 = 27744064 ∧ (16 * 2 ^ 30 - 2 ^ 20) / s.segBytes 0 = 619 := by
  decide +kernel
/-- 18_chronograph.md, scanning the network: the sums of 8 blocks. -/
theorem test_cross_spectrum :
    (List.range 8).foldl (fun g _ => xspAdd g [(6552000, 0), (656000, 1136225)]) [0, 0, 0, 0] =
      [343429632000000, 34384896000000, 59556369600000, 13770746005000] := by
  decide +kernel
/-- 20_command_interface.md, reading SYS_DEVID over PCIe: the 22 bytes of the reply before its CRC. -/
theorem test_reply_bytes :
    let h : Hdr := ⟨.pcie, 0, 1, 0, 5, 3, 8, true⟩
    let s := wRun fun s => { s with cmd := { s.cmd with sessions := [⟨3, .viewer, .pcie, false, 0#256, some 4, [], 0⟩] } }
    (nextOf (exec (.regRead h 0x20000000 1) s)).bind (fun t => (smapGet none t.hw.cmd.mbReplies 0).map fun r => r.packet.take 22) =
      some [0xEC, 0x01, 0x00, 0x10, 0x05, 0x00, 0x00, 0x80, 0x03, 0x00, 0x00, 0x00, 0x06, 0x00, 0x00, 0x00, 0x00, 0x00, 0x01, 0x11, 0x08, 0x46] := by
  decide +kernel

/-- 16_almanac.md: an absolute step to 1,900,000,000.500400300 s leaves a gap of 1,700 ns before the next boundary. -/
theorem test_step_gap : (setTime (1900000000 * nsPerSec + 500400300) 0 {}).time.gapTo = some ((1900000000 * nsPerSec + 500402000) * 2 ^ 32) := by
  rfl

/-! ### One step each -/

/-- R44, Table MOD-8: TRIP makes MANUAL (bit 0) a latched cause. -/
theorem test_trip_latches_manual :
    (nextOf (exec (.trip (wFor 0x0106 2)) (wRun id))).any (fun t => bitOf t.hw.latched 0) = true := by
  decide +kernel
/-- R379: a viewer's TRIP is refused, and nothing is latched. -/
theorem test_trip_needs_operator :
    (nextOf (exec (.trip (wFor 0x0106 1)) (wRun id))).any (fun t => t.hw.latched == 0 &&
      (smapGet none t.hw.cmd.mbReplies 0).any fun r => decide (r.status = .roleDenied)) = true := by
  decide +kernel
/-- R28: a write to the safety island's window is refused. -/
theorem test_island_is_read_only :
    (nextOf (exec (.regWrite (wFor 0x1001 3) SAF_STAT 1 1) (wRun id))).any (fun t => t.hw.reg SAF_STAT == (wRun id).hw.reg SAF_STAT) = true := by
  decide +kernel
/-- 22_integrity_and_online_test.md: the CRC-16 of the bytes of "123456789" is 0x29B1. -/
theorem test_crc16 : crc16Bits 72 0x313233343536373839 0xFFFF = 0x29B1 := by decide +kernel
/-- No row of the table gives bits. -/
theorem test_no_row_has_bits : decodeTableWord 32 0 = none := rfl

/-! ### A safety block that SAFETY_PARAM_LOAD takes: its CRC-32 by parts -/

theorem wspb_part_0 : (wSpbPart 0).foldl (fun c b => crc32Bit 8 (c ^^^ b.toNat)) 0xFFFFFFFF = 0xF4C0D849 := by decide +kernel
theorem wspb_part_1 : (wSpbPart 1).foldl (fun c b => crc32Bit 8 (c ^^^ b.toNat)) 0xF4C0D849 = 0x0B4F832F := by decide +kernel
theorem wspb_part_2 : (wSpbPart 2).foldl (fun c b => crc32Bit 8 (c ^^^ b.toNat)) 0x0B4F832F = 0x889A3360 := by decide +kernel
theorem wspb_part_3 : (wSpbPart 3).foldl (fun c b => crc32Bit 8 (c ^^^ b.toNat)) 0x889A3360 = 0x3F7363BB := by decide +kernel
theorem wspb_part_4 : (wSpbPart 4).foldl (fun c b => crc32Bit 8 (c ^^^ b.toNat)) 0x3F7363BB = 0x8D034DAB := by decide +kernel
theorem wspb_part_5 : (wSpbPart 5).foldl (fun c b => crc32Bit 8 (c ^^^ b.toNat)) 0x8D034DAB = 0x696EEE36 := by decide +kernel
theorem wspb_check : spbCheck wSpb = 0x969111C9 := by
  have h : wSpb.take 0xFC = wSpbPart 0 ++ wSpbPart 1 ++ wSpbPart 2 ++ wSpbPart 3 ++ wSpbPart 4 ++ wSpbPart 5 := by decide +kernel
  rw [spbCheck, crc32Bytes, h]
  simp only [List.foldl_append, wspb_part_0, wspb_part_1, wspb_part_2, wspb_part_3, wspb_part_4, wspb_part_5]
  decide +kernel
theorem test_block_is_taken : spbOk wSpb = true := by
  rw [spbOk, wspb_check]
  decide +kernel

/-! ### A Granary frame as it stands on the line -/

theorem wmarker_reads : readMarker (wMarker.bits % 2 ^ 128) = some wMarker := by decide +kernel
theorem wline_reads : readBlock (wMarker.bits % 2 ^ 128) wMarker wLine = some wBlock := by
  have e : wMarker.bits % 2 ^ 128 = wMarker.bits := by decide +kernel
  have h := readBlock_line wMarker.bits wMarker wBlock [] (by decide +kernel)
  have b : wBlock % 2 ^ 11264 = wBlock := Nat.mod_eq_of_lt (blockOf_lt _ (by decide +kernel))
  rw [List.append_nil, b] at h
  rw [e]
  exact h
theorem wblock_head : blockField wBlock 0 4 = 3 := by
  rw [wBlock, blockField_blockOf _ _ _ (by decide)]
  decide +kernel

/-! ### The hypotheses of each statement are met -/

theorem test_met_mode_commands_enter_their_request :
    (let s : State := wRun id; let h : Hdr := wFor 0x0100 1
     Accepts (Op.plain 0x0100 .viewer) h s.hw ∧
     s.hw.twohandBars h = false) ∧
    (let s : State := wMode mBlocked fun s => s; let h : Hdr := wFor 0x0101 3
     Accepts (Op.plain 0x0101 .engineer) h s.hw ∧
     s.hw.twohandBars h = false ∧
     Room s.hw 1 ∧
     s.hw.mode = mBlocked) ∧
    (let s : State := wRun id; let h : Hdr := wFor 0x0102 3
     Accepts (Op.plain 0x0102 .engineer) h s.hw ∧
     s.hw.twohandBars h = false ∧
     Room s.hw 1 ∧
     s.hw.mode = mCommission ∧
     s.hw.unmet .leaveCommission = none) ∧
    (let s : State := wMode mBlocked fun s => ((({ s with ops := { s.ops with safPerm := true } } : Hw).put ALM_STAT_SET 1)).setK kVdc 0x3333
     let h : Hdr := wFor 0x0103 2; let m : Nat := 0
     Accepts (Op.plain 0x0103 .operator) h s.hw ∧
     s.hw.twohandBars h = false ∧
     Room s.hw 1 ∧
     s.hw.standby = false ∧
     s.hw.blocking = false ∧
     s.hw.mode = mBlocked ∧
     m ≤ 1 ∧
     s.hw.unmet (.energize m) = none ∧
     s.hw.lanesInUse.filter s.hw.laneIdles = []) ∧
    (let s : State := wMode mBlocked fun s => hot (((({ s with ops := { s.ops with safPerm := true } } : Hw).put ALM_STAT_SET 1)))
     let h : Hdr := wFor 0x0104 2
     Accepts (Op.plain 0x0104 .operator) h s.hw ∧
     s.hw.twohandBars h = false ∧
     Room s.hw 1 ∧
     s.hw.standby = false ∧
     s.hw.blocking = false ∧
     (s.hw.mode = mBlocked ∨ s.hw.mode = mEnergize) ∧
     s.hw.unmet .deblock = none ∧
     s.hw.lanesInUse.filter s.hw.laneIdles = []) ∧
    (let s : State := wMode mForm fun s => s; let h : Hdr := wFor 0x0105 2
     Accepts (Op.plain 0x0105 .operator) h s.hw ∧
     s.hw.twohandBars h = false ∧
     Room s.hw 1 ∧
     s.hw.standby = false ∧
     s.hw.blocking = false ∧
     s.hw.switching = true) ∧
    (let s : State := wMode mTripped fun s => s; let h : Hdr := wFor 0x0107 2
     Accepts (Op.plain 0x0107 .operator) h s.hw ∧
     s.hw.twohandBars h = false ∧
     Room s.hw 1 ∧
     (s.hw.standby = true → s.hw.ops.ownLatched ≠ 0) ∧
     s.hw.mode = mTripped ∧
     s.hw.resetBars = 0) := by
  refine ⟨?_, ?_, ?_, ?_, ?_, ?_, ?_⟩ <;> decide +kernel

theorem test_met_trip_and_mode_timers_act :
    (let s : State := wRun id; let h : Hdr := wFor 0x0106 2
     Accepts (Op.plain 0x0106 .operator) h s.hw ∧
     s.hw.twohandBars h = false ∧
     Room s.hw 2) ∧
    (let s : State := wRun id; let h : Hdr := wFor 0x0109 3; let m : Nat := 0x0bb80080; let b : Nat := 0x0a140333
     Accepts (Op.plain 0x0109 .engineer) h s.hw ∧
     s.hw.twohandBars h = false ∧
     Room s.hw 2 ∧
     s.hw.cfgMode = true ∧
     let t := ((s.hw.accept h).setWord SYS_MODECFG m).setWord SYS_BLKCFG b
     modecfgRangeBad t = false ∧
     holdRefused s.hw (t.get SYS_MODECFG_HOLD_STYLE) (t.geti SYS_BLKCFG_BYPASS_VDC_MAX) = false) ∧
    (let s : State := wRun fun s => s.put SYS_PEND_PENDING 2; let h : Hdr := wFor 0x0108 2
     Accepts (Op.plain 0x0108 .operator) h s.hw ∧
     s.hw.twohandBars h = false ∧
     Room s.hw 1 ∧
     bitOf (s.hw.get SYS_PEND_PENDING) 1 = true) ∧
    (let s : State := wMode mRide fun s => { s with ops := { s.ops with rtTicks := 1499999 } }
     Runs s.hw ∧
     s.hw.mode = mRide ∧
     s.hw.liveGet SYS_MODECFG_RT_MAX * ticksPerMs ≤ s.hw.ops.rtTicks + 1) ∧
    (let s : State := wRun fun s => { s with ops := { s.ops with blk := .ramp 4 5 } }; let k : Nat := 4; let n : Nat := 5
     Runs s.hw ∧
     s.hw.ops.blk = .ramp k n ∧
     n ≤ k + 1) ∧
    (let s : State := wRun fun s => ({ s with ops := { s.ops with blk := .rest 0 } } : Hw).put SYS_MODE_BLK_SEQ 2
     Runs s.hw ∧
     s.hw.ops.blk = .rest 0 ∧
     s.hw.pendOf 1 = none) := by
  refine ⟨?_, ?_, ?_, ?_, ?_, ?_⟩ <;> decide +kernel

theorem test_met_fast_channel_commands :
    (let s : State := wRun id; let h : Hdr := wFor 0x0400 1
     Accepts (Op.plain 0x0400 .viewer) h s.hw) ∧
    (let s : State := wRun id; let h : Hdr := wFor 0x0401 3
     Accepts (Op.plain 0x0401 .engineer) h s.hw ∧
     Room s.hw 1 ∧
     s.hw.mode = mCommission) ∧
    (let s : State := wRun id; let h : Hdr := wFor 0x0402 2; let n : Nat := 1; let k : Nat := 15
     Accepts (Op.plain 0x0402 .operator) h s.hw ∧
     Room s.hw 1 ∧
     n < 2 ∧
     k < 16 ∧
     (s.hw.spareOf n).job ≠ 3 ∧
     (s.hw.spareOf n).req = none ∧
     s.hw.flag (FCH_SPAREn_SPARE_FLT n) = false) ∧
    (let s : State := wRun fun s => ({ s with time := { s.time with ticks := 500 } } : Hw).put (FCH_SPAREn_SUBST_ACTIVE 0) 1
     let h : Hdr := wFor 0x0403 2; let n : Nat := 0
     Accepts (Op.plain 0x0403 .operator) h s.hw ∧
     Room s.hw 1 ∧
     n < 2 ∧
     s.hw.flag (FCH_SPAREn_SUBST_ACTIVE n) = true ∧
     (s.hw.spareOf n).good + 500 ≤ s.hw.ticks) ∧
    (let s : State := wRun fun s => s.put (HKCn_CFG_EN 1) 1; let h : Hdr := wFor 0x0405 2; let n : Nat := 1
     Accepts (Op.plain 0x0405 .operator) h s.hw ∧
     Room s.hw 1 ∧
     n < 2 ∧
     s.hw.flag (HKCn_CFG_EN n) = true ∧
     s.hw.flag (HKCn_STAT_INJ_RUN n) = false) ∧
    (let s : State := wRun id; let h : Hdr := wFor 0x0406 1; let n : Nat := 1
     Accepts (Op.plain 0x0406 .viewer) h s.hw ∧
     n < 2) ∧
    (let s : State := wRun id; let h : Hdr := wFor 0x0404 3; let n : Nat := 1; let c : Nat := 0x03000200
     let sq : List Nat := [1, 31]; let ij : List Nat := [0]; let ic : Nat := 0
     Accepts (Op.plain 0x0404 .engineer) h s.hw ∧
     Room s.hw 38 ∧
     n < 2 ∧
     hkcCfgBad c = false ∧
     hkcInjBad ic = false ∧
     (sq ++ ij).any (fun v => decide (32 ≤ v)) = false ∧
     s.hw.flag (HKCn_CFG_EN n) = false) := by
  refine ⟨?_, ?_, ?_, ?_, ?_, ?_, ?_⟩ <;> decide +kernel

theorem test_met_fast_channel_events :
    (let s : State := wRun fun s => { s with fch := { s.fch with strobes := 1 } }; let c : Nat := 31
     Runs s.hw ∧
     c < 32 ∧
     s.hw.fch.strobes ≠ 0 ∧
     bitOf s.hw.fch.ready c = false) ∧
    (let s : State := wRun fun s => { s with fch := { s.fch with strobes := 1 } }; let c : Nat := 0
     Runs s.hw ∧
     c < 32 ∧
     s.hw.fch.strobes ≠ 0 ∧
     bitOf s.hw.fch.ready c = false) ∧
    (let s : State := wRun fun s => ({ s with fch := { s.fch with strobes := 1 } } : Hw).onSpare 1 fun p => { p with job := 3, conv := 3 }
     let n : Nat := 1
     Runs s.hw ∧
     n < 2 ∧
     s.hw.fch.strobes ≠ 0 ∧
     bitOf s.hw.fch.ready (32 + n) = false) ∧
    (let s : State := wRun fun s => { s with fch := { s.fch with strobes := 1 } }; let n : Nat := 1
     Runs s.hw ∧
     n < 2 ∧
     s.hw.fch.strobes ≠ 0 ∧
     bitOf s.hw.fch.ready (32 + n) = false) ∧
    (let s : State := wRun fun s => ({ s with fch := { s.fch with settle := some 10 } } : Hw).setReg 0 0 |> fun s => { s with time := { s.time with ticks := 2510 } }
     let t0 : Nat := 10
     Runs s.hw ∧
     s.hw.fch.settle = some t0 ∧
     t0 + 5 * ticksPerMs ≤ s.hw.ticks) ∧
    (let s : State := wRun fun s => s.put FCH_CTRL_CAL_BUSY 1
     Runs s.hw ∧
     s.hw.flag FCH_CTRL_CAL_BUSY = true) ∧
    (let s : State := wRun fun s => s.onSpare 1 fun p => { p with seg := 18, frames := 64 }; let n : Nat := 1
     Runs s.hw ∧
     n < 2 ∧
     (s.hw.spareOf n).job = 2 ∧
     3 ≤ (s.hw.spareOf n).seg ∧
     s.hw.get (FCH_SPAREn_CAL_DWELL n) ≤ (s.hw.spareOf n).frames) ∧
    (let s : State := wRun fun s => { s with hkc := smapSet {} s.hkc 1 { cur := some (true, 3) }, time := { s.time with base := 1000000 }, shf := { s.shf with clock := true } }
     let n : Nat := 1; let k : Nat := 3; let code : Nat := 0xFFFFFF; let inj : Bool := true
     Runs s.hw ∧
     n < 2 ∧
     (s.hw.hkcOf n).cur = some (inj, k) ∧
     code < 2 ^ 24 ∧
     s.hw.shf.clock = true ∧
     s.hw.hkcDue n ≤ 2 * (s.hw.time.base + s.hw.tickLen)) ∧
    (let s : State := wRun fun s => s.put (HKCn_INJCFG_SRC 0) 3; let n : Nat := 0; let src : Nat := 3; let sel : Nat := 0
     Runs s.hw ∧
     n < 2 ∧
     1 ≤ src ∧
     src = s.hw.get (HKCn_INJCFG_SRC n) ∧
     (src = 2 ∨ sel = s.hw.get (HKCn_INJCFG_SEL n))) ∧
    (let s : Hw := State.reset.hw.put (HKCn_CFG_EN 1) 1
     State.reset.hw.flag (HKCn_CFG_EN 1) = false ∧ s.flag (HKCn_CFG_EN 1) = true ∧ s.flag (HKCn_STAT_INJ_RUN 1) = false ∧
     (s.put (HKCn_STAT_INJ_RUN 1) 1).flag (HKCn_STAT_INJ_RUN 1) = true) := by
  refine ⟨?_, ?_, ?_, ?_, ?_, ?_, ?_, ?_, ?_, ?_⟩ <;> decide +kernel

theorem test_met_sieve_commands :
    (let s : State := wRun id; let h : Hdr := wFor 0x0420 1; let n : Nat := 1; let c : Nat := 3
     Accepts (Op.plain 0x0420 .viewer) h s.hw ∧
     n < 2 ∧
     (c < 6 ∨ c = 0xFF) ∧
     let data := regBytes s.hw ((List.range 16).map (SVn_CHk n) ++ [SVn_STAT n, SV_USERCTL]) ++ setReadOut s.hw c
     Fits h data) ∧
    (let s : State := wRun id; let h : Hdr := wFor 0x0421 3; let n : Nat := 1; let mask : Nat := 0x8001; let c : Nat := 4
     let r : Nat := 5
     Accepts (Op.plain 0x0421 .engineer) h s.hw ∧
     Room s.hw 16 ∧
     n < 2 ∧
     mask < 65536 ∧
     c < 5 ∧
     r < 6 ∧
     (∀ k ∈ bitsOf 16 mask, ctlModeBad s.hw n k c = false) ∧
     s.hw.selectsEmpty c = false ∧
     s.hw.selectsEmpty r = false) ∧
    (let s : State := wRun id; let m : Nat := 1; let taps : Nat := 2; let cs : List Int := [3, -3]
     let h : Hdr := { wHdr 3 with length := (2 + 2 * taps) }
     Accepts (Op.sized 0x0422 .engineer (2 + 2 * taps)) h s.hw ∧
     Room s.hw 65 ∧
     m < 2 ∧
     taps ≤ 128 ∧
     cs.length = taps ∧
     s.hw.coefPending = false) ∧
    (let s : State := wRun id; let h : Hdr := wFor 0x0423 3
     Accepts (Op.plain 0x0423 .engineer) h s.hw ∧
     Room s.hw 1 ∧
     firstFail (commitChecks s.hw) = none) ∧
    (let s : State := wRun id; let h : Hdr := wFor 0x0424 2; let n : Nat := 1; let m : Nat := 15; let cfg : Nat := 0x0000000F
     let freq : Nat := 16000000
     Accepts (Op.plain 0x0424 .operator) h s.hw ∧
     Room s.hw 2 ∧
     n < 2 ∧
     m < 16 ∧
     15 ≤ (SVn_TDm_CFG_LEN_M1 0 0).ofNat cfg ∧
     freq < 2 ^ 24 ∧
     (bitOf cfg 30 = true ∨ freq ≤ 16000000)) ∧
    (let s : State := wRun id; let h : Hdr := wFor 0x0425 1; let n : Nat := 1; let mask : Nat := 0x8001
     Accepts (Op.plain 0x0425 .viewer) h s.hw ∧
     n < 2 ∧
     mask < 65536) := by
  refine ⟨?_, ?_, ?_, ?_, ?_, ?_⟩ <;> decide +kernel

theorem test_met_sieve_events :
    (let s : State := wRun id
     Ticking s.hw) ∧
    (let s : State := wRun fun s => { s with sieve := { s.sieve with taken := [(0, 13), (1, 13)] } }; let k : Nat := 12
     Ticking s.hw ∧
     k % 4 = 0 ∧
     k < 16 ∧
     k < smapGet 0 s.hw.sieve.taken 0 ∧
     k < smapGet 0 s.hw.sieve.taken 1) ∧
    (let s : State := wRun id; let m : Nat := 1
     Runs s.hw ∧
     m < 2) ∧
    (let s : State := wRun fun s => ({ s with time := { s.time with ticks := 1, cyc := 110 } } : Hw).onTone 1 15 fun t => { t with done := some ⟨0x12345678, 7, false, 0⟩ }
     let n : Nat := 1; let m : Nat := 15; let r : ToneRep := ⟨0x12345678, 7, false, 0⟩
     Runs s.hw ∧
     n < 2 ∧
     m < 16 ∧
     (s.hw.toneOf n m).done = some r ∧
     r.tick < s.hw.ticks) := by
  refine ⟨?_, ?_, ?_, ?_⟩ <;> decide +kernel

theorem test_met_loop_engine_commands :
    (let s : State := wRun id; let h : Hdr := wFor 0x0500 1; let n : Nat := 23
     Accepts (Op.plain 0x0500 .viewer) h s.hw ∧
     n < 24) ∧
    (let s : State := wMode mCommission fun s => s.onNv fun v => v.onKey fun r => { r with custKey := some [1] }
     let h : Hdr := wFor 0x0501 3
     Accepts (Op.plain 0x0501 .engineer) h s.hw ∧
     Room s.hw 1 ∧
     s.hw.cfgMode = true ∧
     s.hw.nv.custKey.isSome = true) ∧
    (let s : State := wMode mCommission fun s => s.onLe fun c => { c with imgReady := some ⟨[⟨21, [], [], [], [], [], []⟩], 5, [7#8]⟩ }
     let h : Hdr := wFor 0x0502 3; let i : Image := ⟨[⟨21, [], [], [], [], [], []⟩], 5, [7#8]⟩
     Accepts (Op.plain 0x0502 .engineer) h s.hw ∧
     Room s.hw 1 ∧
     s.hw.cfgMode = true ∧
     s.hw.le.imgReady = some i ∧
     i.parts ≠ [] ∧
     (∀ p ∈ i.parts, s.hw.underRotation p.engine = false)) ∧
    (let s : State := wRun id; let h : Hdr := wFor 0x0503 3; let k : Nat := 16; let d : Nat := 4
     Accepts (Op.plain 0x0503 .engineer) h s.hw ∧
     Room s.hw 1 ∧
     1 ≤ k ∧
     k ≤ 16 ∧
     4 ≤ d ∧
     d ≤ 64) ∧
    (let s : State := wRun id; let h : Hdr := wFor 0x0504 2
     Accepts (Op.plain 0x0504 .operator) h s.hw ∧
     Room s.hw 192) ∧
    (let s : State := wRun id; let h : Hdr := wFor 0x0505 3; let n : Nat := 19; let k : Nat := 15; let p : Nat := 0
     Accepts (Op.plain 0x0505 .engineer) h s.hw ∧
     Room s.hw 1 ∧
     n < 20 ∧
     k < 16 ∧
     s.hw.freeSpare = some p ∧
     s.hw.underRotation n = false ∧
     smapGet none s.hw.le.place n = none) ∧
    (let s : State := wRun id; let h : Hdr := wFor 0x050A 1; let sp : Nat := 1; let n : Nat := 23; let a : Nat := 0x7FFFE
     let c : Nat := 1
     Accepts (Op.plain 0x050A .viewer) h s.hw ∧
     sp < 2 ∧
     n < 24 ∧
     c ≤ 512 ∧
     a % 2 = 0 ∧
     a + 2 * c ≤ (if sp = 0 then 0x8000 else 0x80000)) := by
  refine ⟨?_, ?_, ?_, ?_, ?_, ?_, ?_⟩ <;> decide +kernel

theorem test_met_gain_and_injection_commands :
    (let s : State := wRun id; let h : Hdr := wFor 0x0506 3; let n : Nat := 23; let xs : List Nat := List.replicate 12 0
     let ms : List Nat := List.replicate 32 5; let f : Nat := 0; let fs : Nat := 0
     Accepts (Op.plain 0x0506 .engineer) h s.hw ∧
     Room s.hw 45 ∧
     n < 24 ∧
     regionBad xs f fs = false ∧
     xs.length = 12 ∧
     ms.length = 32) ∧
    (let s : State := wRun id; let h : Hdr := wFor 0x0507 3; let n : Nat := 23; let k : Nat := 15
     let gs : List Nat := List.replicate 64 70000
     Accepts (Op.plain 0x0507 .engineer) h s.hw ∧
     Room s.hw 1 ∧
     n < 24 ∧
     k < 16 ∧
     gs.length = 64) ∧
    (let s : State := wMode mForm fun s => s; let h : Hdr := wFor 0x0508 3; let n : Nat := 23; let p : Nat := 7; let g : Nat := 23
     let x : InjGen := .prbs 15 1 100; let lim : Nat := 0xFFFF; let mon : Nat := 0xFFFF
     Accepts (Op.plain 0x0508 .engineer) h s.hw ∧
     Room s.hw 2 ∧
     s.hw.standby = false ∧
     (s.hw.mode = mBlocked ∨ s.hw.mode = mForm) ∧
     n < 24 ∧
     p < 8 ∧
     (g = 22 ∨ g = 23) ∧
     lim < 65536 ∧
     mon < 65536 ∧
     injGenOk x = true ∧
     injPeak x ≤ lim) ∧
    (let s : State := wRun id; let h : Hdr := wFor 0x0509 2; let n : Nat := 23
     Accepts (Op.plain 0x0509 .operator) h s.hw ∧
     Room s.hw 1 ∧
     n < 24) := by
  refine ⟨?_, ?_, ?_, ?_⟩ <;> decide +kernel

theorem test_met_tasks_and_rotation :
    (let s : State := wRun fun s => (s.onLe fun c => { c with tasks := smapSet {} c.tasks (8 * 23 + 7) { decl := some ⟨1, 0, 400, false, 100⟩, due := true } }) |>.put (LEn_STAT_LOADED 23) 1
     let e : Nat := 23; let n : Nat := 23; let m : Nat := 7; let d : TaskDecl := ⟨1, 0, 400, false, 100⟩
     Ticking s.hw ∧
     e < 24 ∧
     m < 8 ∧
     s.hw.runsOf e = some n ∧
     (s.hw.taskOf n m).decl = some d ∧
     s.hw.mayStart e n m = true) ∧
    (let s : State := wRun fun s => s.onLe fun c => { c with tasks := smapSet {} c.tasks (8 * 23 + 7) { decl := some ⟨1, 0, 400, false, 100⟩, due := true, started := true, stateW := [(3, 5)] } }
     let e : Nat := 23; let n : Nat := 23; let m : Nat := 7
     CoreRuns s.hw ∧
     e < 24 ∧
     m < 8 ∧
     s.hw.runsOf e = some n ∧
     (s.hw.taskOf n m).started = true ∧
     (s.hw.taskOf n m).ended = false ∧
     (s.hw.taskOf n m).lost = false ∧
     s.hw.flag (LEn_STAT_HALTED e) = false ∧
     s.hw.hasEngine n m = true) ∧
    (let s : State := wRun fun s => s.onLe fun c => { c with tasks := smapSet {} c.tasks (8 * 23 + 7) { decl := some ⟨1, 0, 400, false, 100⟩, due := true, started := true, ended := true, out := [(outArea 23, 9)] } }
     let e : Nat := 23; let n : Nat := 23; let m : Nat := 7; let d : TaskDecl := ⟨1, 0, 400, false, 100⟩
     Ticking s.hw ∧
     e < 24 ∧
     m < 8 ∧
     s.hw.runsOf e = some n ∧
     (s.hw.taskOf n m).decl = some d ∧
     (if d.rate = 1 then (s.hw.taskOf n m).due else (s.hw.taskOf n m).isOver) = true ∧
     (s.hw.taskOf n m).ended = true) ∧
    (let s : State := wRun fun s => s.onLe fun c => { c with tasks := smapSet {} c.tasks (8 * 23 + 7) { decl := some ⟨1, 0, 400, false, 100⟩, due := true, started := true } }
     let e : Nat := 23; let n : Nat := 23; let m : Nat := 7; let d : TaskDecl := ⟨1, 0, 400, false, 100⟩
     Ticking s.hw ∧
     e < 24 ∧
     m < 8 ∧
     s.hw.runsOf e = some n ∧
     (s.hw.taskOf n m).decl = some d ∧
     (if d.rate = 1 then (s.hw.taskOf n m).due else (s.hw.taskOf n m).isOver) = true ∧
     (s.hw.taskOf n m).ended = false) ∧
    (let s : State := { wRun (fun s => ((s.put LE_CLSTAT_DEGRADED 1).put SYS_MODE_ACTIVE 1).put TW_CFG_TWIN_EN 1 |> fun s => { s with time := { s.time with ticks := 16 } }) with capture := [] }
     Runs s.hw ∧
     s.hw.hasTwin = true ∧
     s.hw.active = true ∧
     s.hw.flag LE_CLSTAT_DEGRADED = true ∧
     s.hw.le.degTick + s.hw.liveGet LE_CLCFG_DEG_TMO ≤ s.hw.ticks ∧
     bitOf (s.hw.get SYS_TRIPCAUSE_LATCHED) cDlmissK = false) ∧
    (let s : State := wRun fun s => s.onRot 1 fun _ => { src := 19, phase := 1 }
     let u : State := wRun fun s => s.onRot 1 fun _ => { src := 19, phase := 4 }
     (Runs s.hw ∧ s.hw.rotating 0 = false ∧ (s.hw.rotOf 1).copied = false ∧ (s.hw.rotOf 1).phase = 1) ∧
     Runs u.hw ∧ u.hw.rotating 0 = false ∧ (u.hw.rotOf 1).copied = false ∧ (u.hw.rotOf 1).phase = 4 ∧ (u.hw.rotOf 1).test = false ∧ (u.hw.rotOf 1).src < 20) ∧
    (let s : State := wRun fun s => s.onRot 1 fun _ => { src := 19, phase := 2, left := 1 }; let p : Nat := 1
     Runs s.hw ∧
     p < 2 ∧
     (∀ q < p, (s.hw.rotOf q).left ≠ 1) ∧
     (s.hw.rotOf p).left = 1 ∧
     (s.hw.rotOf p).shadowed = false) ∧
    (let s : State := wRun fun s => s.onRot 1 fun _ => { src := 19, phase := 3 }; let p : Nat := 1
     Runs s.hw ∧
     p < 2 ∧
     (∀ q < p, (s.hw.rotOf q).phase ≠ 3 ∧ (s.hw.rotOf q).test = false) ∧
     (s.hw.rotOf p).phase = 3 ∧
     (s.hw.rotOf p).src < 20) ∧
    (let s : State := wRun fun s => s.onRot 1 fun _ => { src := 19, phase := 4, test := true }; let p : Nat := 1
     Runs s.hw ∧
     p < 2 ∧
     (∀ q < p, (s.hw.rotOf q).phase ≠ 3 ∧ (s.hw.rotOf q).test = false) ∧
     (s.hw.rotOf p).phase = 4 ∧
     (s.hw.rotOf p).test = true ∧
     (s.hw.rotOf p).src < 20) := by
  refine ⟨?_, ?_, ?_, ?_, ?_, ?_, ?_, ?_, ?_⟩ <;> decide +kernel

theorem test_met_kernel_parameter_commands :
    (let s : State := wMode mCommission fun s => s; let h : Hdr := wFor 0x0520 3; let o : Nat := 0x1074
     let v : Nat := (State.reset.hw.reg (GFL_MAPq 13)).toNat; let a : Nat := GFL_MAPq 13; let t : Hw := (s.hw.accept h).setWord a v
     Accepts (Op.plain 0x0520 .engineer) h s.hw ∧
     Room s.hw 1 ∧
     paramAddr GFL_BASE0 (GFL_MAPq 13) o = some a ∧
     (gflWrite (s.hw.accept h) ((s.hw.accept h).wr a v)).toOption = some t) ∧
    (let s : State := wMode mCommission fun s => s; let h : Hdr := wFor 0x0530 3; let o : Nat := 0x1100
     let v : Nat := (State.reset.hw.reg (LFT_IMAX)).toNat; let a : Nat := LFT_IMAX; let t : Hw := (s.hw.accept h).setWord a v
     Accepts (Op.plain 0x0530 .engineer) h s.hw ∧
     Room s.hw 1 ∧
     paramAddr LFT_IMAX LFT_CHOP2 o = some a ∧
     (lftWrite (s.hw.accept h) ((s.hw.accept h).wr a v)).toOption = some t) ∧
    (let s : State := wMode mCommission fun s => s; let h : Hdr := wFor 0x0540 3; let o : Nat := 0x1200
     let v : Nat := (State.reset.hw.reg (ENG_PRE)).toNat; let a : Nat := ENG_PRE; let t : Hw := (s.hw.accept h).setWord a v
     Accepts (Op.plain 0x0540 .engineer) h s.hw ∧
     Room s.hw 1 ∧
     paramAddr ENG_PRE ENG_BS o = some a ∧
     (engWrite (s.hw.accept h) ((s.hw.accept h).wr a v)).toOption = some t) ∧
    (let s : State := wRun id; let h : Hdr := wFor 0x0521 1; let o : Nat := 0x1000; let a : Nat := GFL_BASE0
     Accepts (Op.plain 0x0521 .viewer) h s.hw ∧
     paramAddr GFL_BASE0 (GFL_MAPq 13) o = some a) ∧
    (let s : State := wRun id; let h : Hdr := wFor 0x0531 1; let o : Nat := 0x1100; let a : Nat := LFT_IMAX
     Accepts (Op.plain 0x0531 .viewer) h s.hw ∧
     paramAddr LFT_IMAX LFT_CHOP2 o = some a) ∧
    (let s : State := wRun id; let h : Hdr := wFor 0x0541 1; let o : Nat := 0x1200; let a : Nat := ENG_PRE
     Accepts (Op.plain 0x0541 .viewer) h s.hw ∧
     paramAddr ENG_PRE ENG_BS o = some a) ∧
    (let s : State := wRun id; let h : Hdr := wFor 0x0522 1
     Accepts (Op.plain 0x0522 .viewer) h s.hw) ∧
    (let s : State := wRun id; let h : Hdr := wFor 0x0532 1
     Accepts (Op.plain 0x0532 .viewer) h s.hw ∧
     s.hw.le.words.length ≤ 256) ∧
    (let s : State := wRun id; let h : Hdr := wFor 0x0542 1
     Accepts (Op.plain 0x0542 .viewer) h s.hw) ∧
    (let s : Hw := (wRun fun s => { s with cmd := { s.cmd with waiting := [⟨wHdr 3, 0x530, .param⟩] }, time := { s.time with tickNo := 2 ^ 32 - 16 } }).hw
     let w : Waiting := ⟨wHdr 3, 0x530, .param⟩; let x : Session := wSes 3 .engineer
     s.cmd.waiting = [w] ∧
     w.kind = .param ∧
     s.session? w.hdr = some x ∧
     w.hdr.session ≠ 0 ∧
     w.hdr.transport ≠ .internal) := by
  refine ⟨?_, ?_, ?_, ?_, ?_, ?_, ?_, ?_, ?_, ?_⟩ <;> decide +kernel

theorem test_met_kernel_events :
    (let s : State := wMode mForm fun s => s.setK kFired 0x20; let d : Nat := 5
     Runs s.hw ∧
     d < 6 ∧
     bitOf (s.hw.k kFired).toNat d = true) ∧
    (let s : State := wMode mForm fun s => s.setK kFired 0x80; let d : Nat := 7
     Runs s.hw ∧
     (d = 6 ∨ d = 7) ∧
     bitOf (s.hw.k kFired).toNat d = true) ∧
    (let s : State := wMode mRide fun s => (s.put LFT_STAT_ACF 1).setK kRecT 127500
     Runs s.hw ∧
     s.hw.flag LFT_STAT_ACF = true ∧
     (s.hw.liveGet LFT_ACTIME_REC_T : Int) * 500 ≤ s.hw.k kRecT) ∧
    (let s : State := wRun fun s => ((s.put LFT_STAT_DCF_STAGE 1).setK kStageNext 0).setK kIdc 0
     Runs s.hw ∧
     s.hw.k kStageNext = 0 ∧
     s.hw.get LFT_STAT_DCF_STAGE = 1 ∧
     (s.hw.k kIdc).natAbs ≤ s.hw.liveGet LFT_DCF2_DCF_ICLR) ∧
    (let s : State := wRun fun s => ((s.put LFT_STAT_DCF_STAGE 2).setK kStageNext 0).setK kStageAge 127500000
     Runs s.hw ∧
     s.hw.k kStageNext = 0 ∧
     s.hw.get LFT_STAT_DCF_STAGE = 2 ∧
     (s.hw.liveGet LFT_DCF2_DCF_DEION : Int) * 5000 ≤ s.hw.k kStageAge) ∧
    (let s : State := wRun fun s => ((s.put LFT_STAT_DCF_STAGE 3).setK kStageNext 0).setK kDcRec 127500
     Runs s.hw ∧
     s.hw.k kStageNext = 0 ∧
     s.hw.get LFT_STAT_DCF_STAGE = 3 ∧
     (s.hw.liveGet LFT_DCREC_DCREC_T : Int) * 500 ≤ s.hw.k kDcRec) ∧
    (let s : State := wRun fun s => ((s.put LFT_STAT_DCF_STAGE 1).setK kStageNext 0).setK kDcfAge 127500000
     Runs s.hw ∧
     s.hw.get LFT_STAT_DCF_STAGE = 1 ∧
     s.hw.k kStageNext = 0 ∧
     (s.hw.liveGet LFT_DCF_DCF_TCLR : Int) * 500 ≤ s.hw.k kDcfAge) ∧
    (let s : State := wMode mEnergize fun s => ((s.put ENG_STAT_STAGE 2).put ENG_STAT_METHOD 0).setK kStageF 100000000
     Runs s.hw ∧
     engFailReason s.hw ≠ 0) := by
  refine ⟨?_, ?_, ?_, ?_, ?_, ?_, ?_, ?_⟩ <;> decide +kernel

theorem test_met_ramp_commands :
    (let s : State := wRun id; let h : Hdr := wFor 0x0600 1; let c : Nat := 7
     Accepts (Op.plain 0x0600 .viewer) h s.hw ∧
     c < 8 ∧
     let data := regBytes s.hw [RMPc_VALUE c, RMPc_STAT c, RMPc_TURN c] ++
           (s.hw.rampOf c).queue.flatMap fun m => leBytes 2 (unsigned 16 m.target) ++ leBytes 4 m.vcap
     Fits h data) ∧
    (let s : State := wRun id; let h : Hdr := wFor 0x0601 2; let c : Nat := 7; let x : Nat := 0
     Accepts (Op.plain 0x0601 .operator) h s.hw ∧
     Room s.hw 1 ∧
     s.hw.standby = false ∧
     rampModeBad s.hw c = false ∧
     rampTargetBad s.hw c x = false ∧
     (rampCmds (s.hw.rampOf c)).queue.length < 16 ∧
     s.hw.get (RMPc_CFG_SRC c) ≠ 1) ∧
    (let s : State := wRun id; let h : Hdr := wFor 0x0602 2; let c : Nat := 6; let x : Nat := 0
     Accepts (Op.plain 0x0602 .operator) h s.hw ∧
     Room s.hw 1 ∧
     s.hw.standby = false ∧
     rampModeBad s.hw c = false ∧
     rampTargetBad s.hw c x = false ∧
     s.hw.get (RMPc_CFG_SRC c) ≠ 1) ∧
    (let s : State := wRun id; let h : Hdr := wFor 0x0603 2
     Accepts (Op.plain 0x0603 .operator) h s.hw ∧
     Room s.hw 1 ∧
     s.hw.standby = false) ∧
    (let s : State := wRun id; let h : Hdr := wFor 0x0604 3; let c : Nat := 7; let cfg : Nat := 0; let vm : Nat := 1
     let am : Nat := 1; let dm : Nat := 1; let jm : Nat := 1; let rg : Nat := 0x7FFF8000; let tk : Nat := 0; let ini : Nat := 0
     Accepts (Op.plain 0x0604 .engineer) h s.hw ∧
     Room s.hw 8 ∧
     c < 8 ∧
     let t := ([RMPc_CFG c, RMPc_VMAX c, RMPc_AMAX c, RMPc_DMAX c, RMPc_JMAX c, RMPc_RANGE c, RMPc_TASK c, RMPc_INIT c].zip
           [cfg, vm, am, dm, jm, rg, tk, ini]).foldl (fun s p => s.setWord p.1 p.2) (s.hw.accept h)
     rampCfgBad c t = false) := by
  refine ⟨?_, ?_, ?_, ?_, ?_⟩ <;> decide +kernel

theorem test_met_shape_table_and_ramp_steps :
    (let s : State := wRun id; let f : Nat := 1535; let es : List Nat := [0xFFFF]
     let h : Hdr := { wHdr 3 with length := (4 + 2 * es.length) }
     Accepts (Op.sized 0x0605 .engineer (4 + 2 * es.length)) h s.hw ∧
     Room s.hw 768 ∧
     f + es.length ≤ 1536 ∧
     shapeBusy s.hw = false) ∧
    (let s : State := wRun id; let h : Hdr := wFor 0x0606 3
     Accepts (Op.plain 0x0606 .engineer) h s.hw ∧
     Room s.hw 1 ∧
     commitBarred s.hw = false) ∧
    (let s : State := wRun id; let h : Hdr := wFor 0x0607 3; let x : Nat := 1
     Accepts (Op.plain 0x0607 .engineer) h s.hw ∧
     Room s.hw 1 ∧
     x < 3 ∧
     (x ≠ 2 ∨ s.hw.get SHAPE_CTRL_SHAPE_SRC = 2 ∨ s.hw.switching = false ∨ fundOk (shapeFund s.hw) = true)) ∧
    (let s : State := wRun fun s => (s.put SHAPE_CTRL_COPYING 1).setReg (SHAPE_Aj 767) 7#32
     Runs s.hw ∧
     s.hw.flag SHAPE_CTRL_COPYING = true) ∧
    (let s : State := wRun fun s => s.onRamp 7 fun r => { r with due := some (s.time.base + s.tickLen), v := 1, p := 4 }
     let c : Nat := 7; let a : Nat := s.hw.time.base + s.hw.tickLen
     Runs s.hw ∧
     c < 8 ∧
     (s.hw.rampOf c).due = some a ∧
     a ≤ s.hw.time.base + s.hw.tickLen ∧
     s.hw.time.clockLost = false ∧
     (s.hw.rampOf c).v ≠ 0) := by
  refine ⟨?_, ?_, ?_, ?_, ?_⟩ <;> decide +kernel

theorem test_met_sequencer_commands :
    (let s : State := wRun id; let h : Hdr := wFor 0x0700 1
     Accepts (Op.plain 0x0700 .viewer) h s.hw) ∧
    (let s : State := wMode mCommission fun s => s; let h : Hdr := wFor 0x0701 3; let a : Nat := 5
     let c : Nat := (State.reset.hw.reg (VSQ_ARMa_CFG 5)).toNat; let c2 : Nat := (State.reset.hw.reg (VSQ_ARMa_CFG2 5)).toNat
     Accepts (Op.plain 0x0701 .engineer) h s.hw ∧
     Room s.hw 2 ∧
     a < 6 ∧
     let t := ((s.hw.accept h).setWord (VSQ_ARMa_CFG a) c).setWord (VSQ_ARMa_CFG2 a) c2
     redModeBad s.hw t a = false ∧
     armCfgBad a t = false ∧
     armBreaks s.hw t = false) ∧
    (let s : State := wMode mCommission fun s => s; let a : Nat := 5; let f : Nat := 766; let n : Nat := 2; let ts : List Nat := [9]
     let h : Hdr := { wHdr 3 with length := (5 + 4 * ((n + 15) / 16)) }
     Accepts (Op.sized 0x0702 .engineer (5 + 4 * ((n + 15) / 16))) h s.hw ∧
     Room s.hw 768 ∧
     a < 6 ∧
     f + n ≤ 768 ∧
     ts.length = (n + 15) / 16 ∧
     s.hw.cfgMode = true ∧
     (∀ i, i < n → ts.getD (i / 16) 0 / 4 ^ (i % 16) % 4 ≠ 3) ∧
     let t := (s.hw.accept h).each (List.range n) fun i s => setType a (f + i) (ts.getD (i / 16) 0 / 4 ^ (i % 16) % 4) s
     armBreaks s.hw t = false) ∧
    (let s : State := wRun fun s => s.put (VSQ_SLOTa_j_TYPE 5 767) 1; let h : Hdr := wFor 0x0703 2; let a : Nat := 5
     let j : Nat := 767
     Accepts (Op.plain 0x0703 .operator) h s.hw ∧
     Room s.hw 1 ∧
     a < 6 ∧
     j < 768 ∧
     s.hw.get (VSQ_SLOTa_j_TYPE a j) ≠ 0 ∧
     s.hw.flag (VSQ_SLOTa_j_EXCL a j) = false ∧
     s.hw.vsq.excl.contains (a, j) = false ∧
     s.hw.switching = false) ∧
    (let s : State := wMode mCommission fun s => (s.put (VSQ_SLOTa_j_TYPE 5 767) 1).put (VSQ_SLOTa_j_EXCL 5 767) 1
     let h : Hdr := wFor 0x0704 3; let a : Nat := 5; let j : Nat := 767
     Accepts (Op.plain 0x0704 .engineer) h s.hw ∧
     Room s.hw 1 ∧
     a < 6 ∧
     j < 768 ∧
     s.hw.cfgMode = true ∧
     s.hw.get (VSQ_SLOTa_j_TYPE a j) ≠ 0 ∧
     s.hw.flag (VSQ_SLOTa_j_EXCL a j) = true ∧
     repFcode (smapGet 0 (s.hw.armOf a).set j) = 0 ∧
     smapGet 0 (s.hw.armOf a).stall j ≠ 7) ∧
    (let s : State := wRun id; let h : Hdr := wFor 0x0705 1; let a : Nat := 5; let f : Nat := 672; let n : Nat := 96
     Accepts (Op.plain 0x0705 .viewer) h s.hw ∧
     a < 6 ∧
     n ≤ 96 ∧
     f + n ≤ 768) := by
  refine ⟨?_, ?_, ?_, ?_, ?_, ?_⟩ <;> decide +kernel

theorem test_met_tripped_arms_block :
    (let s : State := wMode mTripped fun s => s
     Ticking s.hw ∧
     (s.hw.mode = mCommission ∨ s.hw.mode = mTripped)) := by
  decide +kernel

theorem test_met_lane_commands :
    (let s : State := wRun id; let h : Hdr := wFor 0x0720 1; let m : Nat := 2 ^ 47
     Accepts (Op.plain 0x0720 .viewer) h s.hw ∧
     m < 2 ^ 48) ∧
    (let s : State := wMode mCommission fun s => s; let h : Hdr := wFor 0x0721 3; let n : Nat := 47
     let c : Nat := (State.reset.hw.reg (LNn_CFG 47)).toNat ||| 1; let a : Nat := 0
     Accepts (Op.plain 0x0721 .engineer) h s.hw ∧
     Room s.hw 2 ∧
     n < 48 ∧
     let t := ((s.hw.accept h).setWord (LNn_CFG n) c).setWord (LNn_ASYM n) a
     laneModeBad s.hw t n = false ∧
     laneCfgBad n t = false ∧
     (s.hw.flag (LNn_CFG_EN n) = true → t.flag (LNn_CFG_EN n) = true)) ∧
    (let s : State := wMode mCommission fun s => s.put (LNn_CFG_EN 47) 1; let h : Hdr := wFor 0x0722 3; let m : Nat := 2 ^ 47
     Accepts (Op.plain 0x0722 .engineer) h s.hw ∧
     Room s.hw 1 ∧
     0 < m ∧
     m < 2 ^ 48 ∧
     ¬ (s.hw.active = true ∧ s.hw.switching = true) ∧
     (∀ n ∈ lanesOf m, s.hw.flag (LNn_CFG_EN n) = true)) ∧
    (let s : State := wMode mCommission fun s => s.put (LNn_STAT_STATE 47) lnRun; let h : Hdr := wFor 0x0723 2; let n : Nat := 47
     Accepts (Op.plain 0x0723 .operator) h s.hw ∧
     Room s.hw 1 ∧
     n < 48 ∧
     s.hw.cfgMode = true ∧
     s.hw.laneState n = lnRun) ∧
    (let s : State := wRun fun s => (({ s with time := { s.time with ticks := 2 } } : Hw).put (LNn_STAT_STATE 47) lnIdle).onLane 47 fun l => { l with idleSince := some 0 }
     let h : Hdr := wFor 0x0724 2; let m : Nat := 2 ^ 47
     Accepts (Op.plain 0x0724 .operator) h s.hw ∧
     Room s.hw 1 ∧
     m < 2 ^ 48 ∧
     (∀ n ∈ lanesOf m, s.hw.laneState n = lnIdle ∧ s.hw.laneRested n = true)) ∧
    (let s : State := wRun id; let h : Hdr := wFor 0x0725 3; let c : Nat := 0x00080010
     Accepts (Op.plain 0x0725 .engineer) h s.hw ∧
     Room s.hw 1 ∧
     let t := (s.hw.accept h).setWord SHL_CTRL c
     t.get SHL_CTRL_BRINGUP_TMO ≠ 0 ∧
     t.get SHL_CTRL_AVG_LOG2 ≤ 8) := by
  refine ⟨?_, ?_, ?_, ?_, ?_, ?_⟩ <;> decide +kernel

theorem test_met_lane_events :
    (let s : State := wRun fun s => ({ s with shf := { s.shf with clock := true } } : Hw).put (LNn_STAT_STATE 47) lnRun |>.put (LNn_STAT_STATE 3) lnTrain |>.onLane 3 fun l => { l with burst := true }
     Ticking s.hw ∧
     s.hw.shf.clock = true) ∧
    (let s : State := wRun fun s => (s.put (LNn_STAT_STATE 47) lnRun).put (LNn_STAT_RX_LOCK 47) 1; let n : Nat := 47
     Runs s.hw ∧
     n < 48 ∧
     s.hw.flag (LNn_STAT_RX_LOCK n) = true) ∧
    (let s : State := wRun id; let n : Nat := 49
     Runs s.hw ∧
     (n = 48 ∨ n = 49)) ∧
    (let s : State := wRun fun s => s.put SYS_IOCFG_LOS_FLT 5
     let u : State := wRun fun s => s.put SYS_IOCFG_LOS_FLT 0
     (Runs s.hw ∧ (s.hw.laneOf 49).los = !true ∧ (s.hw.laneOf 49).losRaw = !true ∧ s.hw.get SYS_IOCFG_LOS_FLT ≠ 0) ∧
     Runs u.hw ∧ (u.hw.laneOf 0).los = !true ∧ (u.hw.laneOf 0).losRaw = !true ∧ u.hw.get SYS_IOCFG_LOS_FLT = 0) ∧
    (let s : Hw := (wRun fun s => (s.onLane 47 fun l => { l with losRaw := true }).put SYS_IOCFG_LOS_FLT 0).hw; let n : Nat := 47
     n < 48 ∧
     (s.laneOf n).losRaw = !(s.laneOf n).los ∧
     (s.laneOf n).losAt + 4 * s.get SYS_IOCFG_LOS_FLT ≤ s.cycles) ∧
    (let s : State := wRun fun s => ({ s with time := { s.time with ticks := 10000000 } } : Hw).onLane 47 fun l => { l with since := some 0 }
     let n : Nat := 47; let t0 : Nat := 0
     Runs s.hw ∧
     n < 48 ∧
     (s.hw.laneOf n).since = some t0 ∧
     t0 + s.hw.bringupTmo ≤ s.hw.ticks) ∧
    (let s : State := wRun fun s => (({ s with time := { s.time with ticks := 3 } } : Hw).put (LNn_STAT_STATE 47) lnIdleEntry).onLane 47 fun l => { l with entryAt := some 0 }
     let n : Nat := 47; let t0 : Nat := 0
     Runs s.hw ∧
     n < 48 ∧
     (s.hw.laneOf n).entryAt = some t0 ∧
     s.hw.laneState n = lnIdleEntry ∧
     t0 + 3 ≤ s.hw.ticks ∧
     (s.hw.laneOf n).toOff = false) ∧
    (let s : State := wRun fun s => (({ s with time := { s.time with ticks := 3 } } : Hw).put (LNn_STAT_STATE 47) lnIdleEntry).onLane 47 fun l => { l with entryAt := some 0, toOff := true }
     let n : Nat := 47; let t0 : Nat := 0
     Runs s.hw ∧
     n < 48 ∧
     (s.hw.laneOf n).entryAt = some t0 ∧
     s.hw.laneState n = lnIdleEntry ∧
     t0 + 3 ≤ s.hw.ticks ∧
     (s.hw.laneOf n).toOff = true) ∧
    (let s : State := wRun fun s => (({ s with time := { s.time with ticks := 300 } } : Hw).put (LNn_STAT_STATE 47) lnExit).onLane 47 fun l => { l with txAt := some 0 }
     let n : Nat := 47; let t0 : Nat := 0
     Runs s.hw ∧
     n < 48 ∧
     (s.hw.laneOf n).txAt = some t0 ∧
     s.hw.laneState n = lnExit ∧
     t0 + s.hw.get (LNn_CFG_TXEN_LEAD n) ≤ s.hw.ticks ∧
     (s.hw.laneOf n).burstAt = none) := by
  refine ⟨?_, ?_, ?_, ?_, ?_, ?_, ?_, ?_, ?_⟩ <;> decide +kernel

theorem test_met_hub_commands :
    (let s : State := wRun id; let h : Hdr := wFor 0x0740 1; let m : Nat := 2 ^ 47
     Accepts (Op.plain 0x0740 .viewer) h s.hw ∧
     m < 2 ^ 48) ∧
    (let s : State := wMode mCommission fun s => s; let h : Hdr := wFor 0x0741 3; let c : Nat := (State.reset.hw.reg SHF_CTRL).toNat
     let x : Nat := (State.reset.hw.reg SHF_TOL).toNat
     Accepts (Op.plain 0x0741 .engineer) h s.hw ∧
     Room s.hw 2 ∧
     let r := shfSet true (s.hw.accept h) (((s.hw.accept h).setWord SHF_CTRL c).setWord SHF_TOL x)
     firstFail r.1 = none) ∧
    (let s : State := wMode mCommission fun s => s.put (LNn_STAT_STATE 47) lnRun; let h : Hdr := wFor 0x0742 3
     let m : Nat := 2 ^ 47
     Accepts (Op.plain 0x0742 .engineer) h s.hw ∧
     Room s.hw 1 ∧
     0 < m ∧
     m < 2 ^ 48 ∧
     s.hw.mode = mCommission ∧
     (∀ n ∈ lanesOf m, s.hw.laneState n = lnRun)) ∧
    (let s : State := wMode mCommission fun s => s; let h : Hdr := wFor 0x0743 3; let n : Nat := 47
     Accepts (Op.plain 0x0743 .engineer) h s.hw ∧
     Room s.hw 4 ∧
     n < 48 ∧
     s.hw.cfgMode = true) ∧
    (let s : State := wRun fun s => s.put (LNn_STAT_STATE 47) lnRun; let h : Hdr := wFor 0x0744 4; let n : Nat := 47
     let ty : Nat := 0x7F; let body : List Byte := [1, 2]
     Accepts (Op.plain 0x0744 .service) h s.hw ∧
     Room s.hw 1 ∧
     n < 48 ∧
     0x10 ≤ ty ∧
     ty ≤ 0x7F ∧
     body.length ≤ 4092 ∧
     s.hw.laneState n = lnRun ∧
     s.hw.hubMsgWaits n = false) := by
  refine ⟨?_, ?_, ?_, ?_, ?_⟩ <;> decide +kernel

theorem test_met_uplink_events :
    (let s : State := wRun fun s => s.put (LNn_STAT_STATE 47) lnTrain; let n : Nat := 47
     let mk : Nat := (Marker.mk 0 47 5 false true true false 3 2).bits; let m : Marker := ⟨0, 47, 5, false, true, true, false, 3, 2⟩
     Runs s.hw ∧
     n < 48 ∧
     s.hw.strapReeve = false ∧
     (losNow n s.hw).flag (LNn_STAT_LOS n) = false ∧
     readMarker (if s.hw.flag (LNn_CFG_POL_RX n) then 2 ^ 128 - 1 - mk % 2 ^ 128 else mk % 2 ^ 128) = some m ∧
     m.lane = n ∧
     m.path = s.hw.strapTwinB) ∧
    (let s : State := wMode mForm fun s => (s.put (VSQ_SLOTa_j_TYPE 5 767) 1).put (LNn_CFG_EN 47) 1 |>.put (LNn_HUBSTAT_HUB_FALLBACK 47) 1
     let n : Nat := 47
     Runs s.hw ∧
     n < 48 ∧
     s.hw.laneLost n = true ∧
     s.hw.active = true ∧
     s.hw.switching = true) ∧
    (let s : State := wRun fun s => s.onBulk 47 fun b => { b with stuck := 64 }; let n : Nat := 47
     Runs s.hw ∧
     n < 48 ∧
     64 ≤ (s.hw.laneOf n).bulk.stuck) ∧
    (let s : State := wRun fun s => s.onBulk 47 fun b => { b with msgs := [[1], [2]] }; let n : Nat := 47; let m : List Byte := [1]
     let ms : List (List Byte) := [[2]]
     Runs s.hw ∧
     n < 48 ∧
     (s.hw.laneOf n).bulk.msgs = m :: ms) ∧
    (let s : State := wRun id
     Runs s.hw) := by
  refine ⟨?_, ?_, ?_, ?_, ?_⟩ <;> decide +kernel

theorem test_met_local_stage_commands :
    (let s : State := wRun id; let h : Hdr := wFor 0x0800 1
     Accepts (Op.plain 0x0800 .viewer) h s.hw) ∧
    (let s : State := wRun id; let h : Hdr := wFor 0x0801 3; let n : Nat := 11
     let c : Nat := (State.reset.hw.reg (LEGn_CFG 11)).toNat; let p : Nat := (State.reset.hw.reg (LEGn_PER 11)).toNat
     let d : Nat := (State.reset.hw.reg (LEGn_DT 11)).toNat; let x : Nat := (State.reset.hw.reg (LEGn_SRC 11)).toNat
     Accepts (Op.plain 0x0801 .engineer) h s.hw ∧
     Room s.hw 4 ∧
     n < 12 ∧
     let t := ([LEGn_CFG n, LEGn_PER n, LEGn_DT n, LEGn_SRC n].zip [c, p, d, x]).foldl (fun s p => s.setWord p.1 p.2)
           (legsNow (s.hw.accept h))
     legRangeBad n t = false ∧
     legRunningBad (legsNow (s.hw.accept h)) t n = false) ∧
    (let s : State := wMode mForm fun s => { (s.put (LEGn_STAT_STATE 11) lgOff) with ops := { s.ops with cfgValid := true } }
     let h : Hdr := wFor 0x0802 2; let m : Nat := 2 ^ 11
     Accepts (Op.plain 0x0802 .operator) h s.hw ∧
     Room s.hw 1 ∧
     s.hw.standby = false ∧
     s.hw.mode ≠ mTripped ∧
     s.hw.ops.cfgValid = true ∧
     (∀ n ∈ legsOf m, (legsNow s.hw).legFound n ≠ lgFault)) ∧
    (let s : State := wRun fun s => s.put (LEGn_STAT_STATE 11) lgRun; let h : Hdr := wFor 0x0803 2
     Accepts (Op.plain 0x0803 .operator) h s.hw ∧
     Room s.hw 1) ∧
    (let s : State := wRun id; let h : Hdr := wFor 0x0804 2; let n : Nat := 11; let p : Nat := 5; let c : Nat := 6
     let vp : Bool := true; let vc : Bool := true
     Accepts (Op.plain 0x0804 .operator) h s.hw ∧
     Room s.hw 3 ∧
     n < 12 ∧
     (vc = true → s.hw.get (LEGn_CFG_DSRC n) = 0) ∧
     let t := legsNow (s.hw.accept h)
         let t := if vp then t.setWord (LEGn_PER n) p else t
         let t := if vc then t.setWord (LEGn_CMP n) c else t
         let u := legWritten n vp vc t
     t.get (LEGn_PER_PER n) ≠ 0) ∧
    (let s : State := wRun id; let h : Hdr := wFor 0x0805 3; let g : Nat := 3; let c : Nat := 0
     let ps : List Nat := List.replicate 8 0x111
     Accepts (Op.plain 0x0805 .engineer) h s.hw ∧
     Room s.hw 9 ∧
     g < 4 ∧
     ps.length = 8 ∧
     ps.all patOk = true ∧
     let t := groupSet g (((LST_GRPg_CFG g :: (List.range 8).map (LST_GRPg_PATk g)).zip (c :: ps)).foldl
           (fun s p => s.setWord p.1 p.2) (legsNow (s.hw.accept h)))
     groupOk t g = true) ∧
    (let s : State := wRun id; let h : Hdr := wFor 0x0807 3; let c : Nat := (State.reset.hw.reg (LST_CTRL)).toNat; let a : Nat := 64
     let b : Nat := 64
     Accepts (Op.plain 0x0807 .engineer) h s.hw ∧
     Room s.hw 3 ∧
     let t := (((s.hw.accept h).setWord LST_CTRL c).setWord (LST_EVTFLTj 0) a).setWord (LST_EVTFLTj 1) b
     lstCtrlBad t = false) ∧
    (let s : State := wRun fun s => s.put (ORY_MDLLm_STAT_STATE 1) mdLocked; let h : Hdr := wFor 0x0806 3
     Accepts (Op.plain 0x0806 .engineer) h s.hw ∧
     Room s.hw 1 ∧
     s.hw.time.clockLost = false ∧
     s.hw.mdllState 1 = mdLocked) := by
  refine ⟨?_, ?_, ?_, ?_, ?_, ?_, ?_, ?_⟩ <;> decide +kernel

theorem test_met_leg_events :
    (let s : State := wRun id; let n : Nat := 11
     Runs s.hw ∧
     n < 12) ∧
    (let s : State := wRun fun s => (s.put (LEGn_STAT_STATE 11) lgSoft).onLeg 11 fun l => { l with due := some 100 }
     let n : Nat := 11; let t0 : Nat := 100
     Runs s.hw ∧
     n < 12 ∧
     (s.hw.legOf n).due = some t0 ∧
     s.hw.legState n = lgSoft ∧
     s.hw.fallsDue t0 = true ∧
     (s.hw.legOf n).held = false ∧
     s.hw.legLatched n = false) ∧
    (let s : State := wRun fun s => ((s.put (SWP_SWn_STAT_LATCHED 23) 1).put (LEGn_STAT_STATE 11) lgSoft).onLeg 11 fun l => { l with due := some 100 }
     let n : Nat := 11; let t0 : Nat := 100
     Runs s.hw ∧
     n < 12 ∧
     (s.hw.legOf n).due = some t0 ∧
     s.hw.legState n = lgSoft ∧
     s.hw.fallsDue t0 = true ∧
     (s.hw.legOf n).held = false ∧
     s.hw.legLatched n = true) ∧
    (let s : State := wRun fun s => (s.put (LEGn_STAT_STATE 11) lgRest).onLeg 11 fun l => { l with due := some 100 }
     let n : Nat := 11; let t0 : Nat := 100
     Runs s.hw ∧
     n < 12 ∧
     (s.hw.legOf n).due = some t0 ∧
     s.hw.legState n = lgRest ∧
     s.hw.fallsDue t0 = true ∧
     (s.hw.legOf n).held = false ∧
     s.hw.flag (LEGn_STAT_PEND n) = false) ∧
    (let s : State := wRun fun s => (((s.put (LEGn_STAT_PEND 11) 1).put SYS_MODE_MODE mBlocked).put (LEGn_STAT_STATE 11) lgRest).onLeg 11 fun l => { l with due := some 100 }
     let n : Nat := 11; let t0 : Nat := 100
     Runs s.hw ∧
     n < 12 ∧
     (s.hw.legOf n).due = some t0 ∧
     s.hw.legState n = lgRest ∧
     s.hw.fallsDue t0 = true ∧
     (s.hw.legOf n).held = false ∧
     s.hw.flag (LEGn_STAT_PEND n) = true ∧
     s.hw.lst.halt = none ∧
     s.hw.mode ≠ mTripped ∧
     s.hw.standby = false ∧
     s.hw.uvPresent (2 * n) = false ∧
     s.hw.uvPresent (2 * n + 1) = false) ∧
    (let s : State := wRun id; let p : Nat := 7
     Runs s.hw ∧
     p < 8) ∧
    (let s : State := wRun fun s => { (s.put (LEGn_STAT_STATE 11) lgRun) with lst := { s.lst with halt := some 0 }, time := { s.time with base := 1000000 } }
     let n : Nat := 11; let t0 : Nat := 0
     Runs s.hw ∧
     n < 12 ∧
     s.hw.lst.halt = some t0 ∧
     s.hw.fallsDue (t0 + s.hw.get LST_CTRL_HALT_HOLD) = true ∧
     s.hw.legState n = lgRun ∧
     (s.hw.legOf n).softNext = false) := by
  refine ⟨?_, ?_, ?_, ?_, ?_, ?_, ?_⟩ <;> decide +kernel

theorem test_met_legs_never_shoot_through :
    (let n : Nat := 1
     0 < n) := by
  decide +kernel

theorem test_met_protection_commands :
    (let s : State := wRun id; let h : Hdr := wFor 0x0820 1
     Accepts (Op.plain 0x0820 .viewer) h s.hw) ∧
    (let s : State := wRun id; let h : Hdr := wFor 0x0821 3; let n : Nat := 23
     let c : Nat := ((SWP_SWn_CFG_BLANK 23).into 0 256).toNat; let u : Nat := 0
     Accepts (Op.plain 0x0821 .engineer) h s.hw ∧
     Room s.hw 2 ∧
     n < 24 ∧
     let v := legsNow (s.hw.accept h)
         let t := (v.setWord (SWP_SWn_CFG n) c).setWord (SWP_SWn_UV n) u
     8 ≤ t.get (SWP_SWn_CFG_BLANK n) ∧
     t.get (SWP_SWn_CFG_BLANK n) ≤ 256 ∧
     v.legAtRest (n / 2) = true) ∧
    (let s : State := wRun fun s => s.put (SWP_SWn_STAT_LATCHED 23) 1; let h : Hdr := wFor 0x0822 2; let m : Nat := 2 ^ 23
     Accepts (Op.plain 0x0822 .operator) h s.hw ∧
     Room s.hw 1 ∧
     let v := legsNow (s.hw.accept h)
     (∀ n ∈ switchesOf m, s.hw.uvPresent n = false ∧ s.hw.flag (SWP_SWn_STAT_LATCHED n) = true ∧ v.legFound (n / 2) ≠ lgSoft)) ∧
    (let s : State := wMode mCommission fun s => s; let h : Hdr := wFor 0x0823 3; let m : Nat := 2 ^ 23
     Accepts (Op.plain 0x0823 .engineer) h s.hw ∧
     Room s.hw 1 ∧
     s.hw.cfgMode = true ∧
     let v := legsNow (s.hw.accept h)
     (∀ n ∈ switchesOf m, v.legFound (n / 2) = lgOff)) ∧
    (let s : State := wRun id; let h : Hdr := wFor 0x0824 3; let c : Nat := (SWP_CTRL_UV_FLT.into 0 64).toNat
     Accepts (Op.plain 0x0824 .engineer) h s.hw ∧
     Room s.hw 1 ∧
     let t := (s.hw.accept h).setWord SWP_CTRL c
     t.get SWP_CTRL_UV_FLT ≤ 64) := by
  refine ⟨?_, ?_, ?_, ?_, ?_⟩ <;> decide +kernel

theorem test_met_protection_events :
    (let s : State := wRun fun s => ((({ s with time := { s.time with base := 4000 } } : Hw).put (SWP_SWn_CFG_DSAT_EN 22) 1).put (LEGn_STAT_STATE 11) lgRun).put SYS_MODE_ACTIVE 1 |>.onLeg 11 fun l => { l with at_ := 4000, out := { gu := true } }
     let n : Nat := 22; let c : Nat := 0
     Runs s.hw ∧
     n < 24 ∧
     let u := legsNow (s.hw.atEvent c)
         let l := u.legOf (n / 2)
         let held := u.legState (n / 2) == lgRun && !l.lock && u.lst.halt.any fun t => decide (t < u.cycles)
         let was := if held then l.out else l.out1
     (if n % 2 = 0 then l.out.gu || was.gu else l.out.gl || was.gl) = true ∧
     (if n % 2 = 0 then l.riseU else l.riseL) + 8 * u.get (SWP_SWn_CFG_BLANK n) + 2 ≤ u.cycles ∧
     u.flag (SWP_SWn_CFG_DSAT_EN n) = true ∧
     u.standby = false ∧
     u.time.clockLost = false) ∧
    (let s : State := wRun fun s => ((s.put (SWP_SWn_CFG_UV_EN 23) 1).put (LEGn_STAT_STATE 11) lgRun); let n : Nat := 23
     let c : Nat := 50
     Runs s.hw ∧
     n < 24 ∧
     s.hw.flag (SWP_SWn_CFG_UV_EN n) = true ∧
     s.hw.legState (n / 2) = lgRun ∧
     (s.hw.legOf (n / 2)).softNext = false ∧
     s.hw.standby = false ∧
     (∀ p ∈ s.hw.lst.cleared, p.1 = n → p.2.1 ≠ (s.hw.atEvent c).cycles)) ∧
    (let s : Hw := (wRun fun s => s.onLeg 11 fun l => { l with softNext := true, at_ := 9 }).hw; let n : Nat := 11
     let c : Nat := 10
     (s.legOf n).softNext = true ∧
     (s.legOf n).at_ < c) ∧
    (let s : State := wRun id; let n : Nat := 23
     Runs s.hw ∧
     n < 24) := by
  refine ⟨?_, ?_, ?_, ?_⟩ <;> decide +kernel

theorem test_met_twin_and_reeve_commands :
    (let s : State := wRun id; let h : Hdr := wFor 0x0900 1
     Accepts (Op.plain 0x0900 .viewer) h s.hw) ∧
    (let s : State := wMode mCommission fun s => s; let h : Hdr := wFor 0x0901 3; let c : Nat := (State.reset.hw.reg (TW_CFG)).toNat
     Accepts (Op.plain 0x0901 .engineer) h s.hw ∧
     Room s.hw 1 ∧
     s.hw.mode = mCommission ∧
     let t := (s.hw.accept h).setWord TW_CFG c
     twCfgBad t = false) ∧
    (let s : State := wRun fun s => s.put SYS_MODE_ACTIVE 1; let h : Hdr := wFor 0x0902 2
     Accepts (Op.plain 0x0902 .operator) h s.hw ∧
     Room s.hw 1 ∧
     s.hw.active = true) ∧
    (let s : State := wRun fun s => (((s.put TW_CFG_TWIN_EN 1)).put SYS_MODE_ACTIVE 0).put (LNn_STAT_STATE 47) lnRun
     let h : Hdr := wFor 0x0903 3; let m : Nat := 2 ^ 47; let d : Nat := 10000
     Accepts (Op.plain 0x0903 .engineer) h s.hw ∧
     Room s.hw 1 ∧
     s.hw.hasTwin = true ∧
     s.hw.standby = true ∧
     1 ≤ d ∧
     d ≤ 10000 ∧
     m < 2 ^ 48 ∧
     (∀ n ∈ lanesOf m, s.hw.laneState n = lnRun)) ∧
    (let s : State := wRun fun s => { (s) with strapReeve := true }; let h : Hdr := wFor 0x0904 1
     Accepts (Op.plain 0x0904 .viewer) h s.hw ∧
     s.hw.strapReeve = true) ∧
    (let s : State := wRun fun s => { (s) with strapReeve := true }; let h : Hdr := wFor 0x0905 3
     let c : Nat := (State.reset.hw.reg (REEVE_CFG)).toNat
     Accepts (Op.plain 0x0905 .engineer) h s.hw ∧
     Room s.hw 1 ∧
     s.hw.strapReeve = true ∧
     let t := (s.hw.accept h).setWord REEVE_CFG c
     reeveCfgBad t = false) ∧
    (let s : State := wRun fun s => { (s.put (hbFld 1) 1) with strapReeve := true }; let h : Hdr := wFor 0x0906 4; let x : Nat := 1
     Accepts (Op.plain 0x0906 .service) h s.hw ∧
     Room s.hw 1 ∧
     s.hw.strapReeve = true ∧
     x ≤ 1 ∧
     s.hw.flag (hbFld x) = true) := by
  refine ⟨?_, ?_, ?_, ?_, ?_, ?_, ?_⟩ <;> decide +kernel

theorem test_met_twin_and_reeve_events :
    (let s : State := wRun fun s => { (s.put TW_CFG_TWIN_EN 1) with twin := { s.twin with edge := some 0 }, time := { s.time with base := 128 } }
     let c : Nat := 0; let t0 : Nat := 0
     Runs s.hw ∧
     s.hw.hasTwin = true ∧
     s.hw.twin.edge = some t0 ∧
     halfIn 400 600 ((s.hw.atEvent c).cycles - t0) = true) ∧
    (let s : State := wRun fun s => { (s.put TW_CFG_TWIN_EN 1) with twin := { s.twin with edge := some 0 }, time := { s.time with base := 512 } }
     let c : Nat := 0; let t0 : Nat := 0
     Runs s.hw ∧
     s.hw.hasTwin = true ∧
     s.hw.twin.edge = some t0 ∧
     halfIn 1600 2400 ((s.hw.atEvent c).cycles - t0) = true) ∧
    (let s : State := wRun fun s => { (s.put TW_CFG_TWIN_EN 1) with twin := { s.twin with edge := some 0 }, time := { s.time with base := 500 } }
     Runs s.hw ∧
     s.hw.hasTwin = true ∧
     s.hw.fallsDue (s.hw.twin.edge.getD 0 + 768) = true) ∧
    (let s : State := wRun fun s => { s with twin := { s.twin with swReqTick := some 0 }, time := { s.time with ticks := 50000 } }
     let t0 : Nat := 0
     Runs s.hw ∧
     s.hw.twin.swReqTick = some t0 ∧
     t0 + 100 * ticksPerMs ≤ s.hw.ticks) ∧
    (let s : State := wRun id
     Runs s.hw) ∧
    (let s : State := wRun fun s => { (s) with strapReeve := true }; let x : Nat := 1
     let w : Nat := 0xE2 * 2 ^ 40 + 2 ^ 24 * 0xFFFF + crc8 ((List.range 40).map fun i => bitOf (0xE2 * 2 ^ 40 + 2 ^ 24 * 0xFFFF) (47 - i))
     Runs s.hw ∧
     s.hw.strapReeve = true ∧
     x < 2 ∧
     w / 2 ^ 40 % 256 = 0xE2 ∧
     crc8 ((List.range 40).map fun i => bitOf w (47 - i)) = w % 256 ∧
     w / 2 ^ 24 % 65536 = (s.hw.time.tickNo + 2 ^ 32 - 1) % 65536) ∧
    (let s : State := wRun fun s => { (s) with strapReeve := true }
     Runs s.hw ∧
     s.hw.strapReeve = true) ∧
    (let s : State := wRun fun s => { (((s.put REEVE_CFG_REEVE_EN 1).put ALM_STAT_SET 1).put (hbFld 0) 1 |>.put REEVE_CFG_PREFER 0) with strapReeve := true }
     Runs s.hw ∧
     s.hw.strapReeve = true ∧
     s.hw.flag REEVE_CFG_REEVE_EN = true ∧
     s.hw.flag ALM_STAT_SET = true ∧
     s.hw.get REEVE_STAT_GRANT = 0 ∧
     s.hw.reeve.a.newest = none ∧
     s.hw.reeve.b.newest = none ∧
     s.hw.flag (hbFld (s.hw.get REEVE_CFG_PREFER)) = true ∧
     s.hw.time.cyc = 0 ∧
     s.hw.time.gapTo = none) ∧
    (let s : State := wRun fun s => { ({ s with time := { s.time with cyc := 5 } }) with strapReeve := true }
     Runs s.hw ∧
     s.hw.strapReeve = true ∧
     (s.hw.time.cyc ≠ 0 ∨ s.hw.time.gapTo ≠ none)) := by
  refine ⟨?_, ?_, ?_, ?_, ?_, ?_, ?_, ?_, ?_⟩ <;> decide +kernel

theorem test_met_granary_frames :
    (let s : State := wRun fun s => s.put TW_CFG_TWIN_EN 1
     Ticking s.hw ∧ s.hw.hasTwin = true ∧ s.hw.shf.clock = true) ∧
    (let s : State := wRun fun s => (s.put TW_CFG_TWIN_EN 1).onLane 49 fun l => { l with grLock := true }
     Runs s.hw ∧ s.hw.hasTwin = true ∧ wMarker.lane = 49 ∧ wMarker.path ≠ s.hw.strapTwinB ∧ (s.hw.laneOf 49).grLock = true ∧
     wMarker.kind ≠ 1 ∧ wMarker.kind ≠ 3) ∧
    readMarker (wMarker.bits % 2 ^ 128) = some wMarker ∧ readBlock (wMarker.bits % 2 ^ 128) wMarker wLine = some wBlock ∧
    blockOk wBlock = true ∧ blockField wBlock 0 4 = 3 := by
  refine ⟨?_, ?_, wmarker_reads, wline_reads, blockOk_blockOf _, wblock_head⟩ <;> decide +kernel

theorem test_met_almanac_commands :
    (let s : State := wRun id; let h : Hdr := wFor 0x0A00 1
     Accepts (Op.plain 0x0A00 .viewer) h s.hw) ∧
    (let s : State := wRun id; let h : Hdr := wFor 0x0A01 3; let k : Nat := 0; let sec : Int := 2 ^ 48 - 1
     let ns : Int := 999999999
     Accepts (Op.plain 0x0A01 .engineer) h s.hw ∧
     Room s.hw 1 ∧
     s.hw.flag ALM_CTRL_PTP_FW_EN = false ∧
     k ≤ 1 ∧
     let r : StepReq := ⟨decide (k = 0), sec, ns⟩
     r.formBad = false ∧
     r.resultBad s.hw.timeNow.1 s.hw.timeNow.2.1 = false ∧
     (∀ p ∈ s.hw.time.steps, p.belongs ≠ s.hw.ticks + 1)) ∧
    (let s : State := wRun id; let h : Hdr := wFor 0x0A02 2; let v : Nat := 0x3E8000000
     Accepts (Op.plain 0x0A02 .operator) h s.hw ∧
     s.hw.flag ALM_CTRL_PTP_FW_EN = false ∧
     incNear limAny v = true ∧
     s.hw.logRefuses 0 = false ∧
     incNear limRun v = true) ∧
    (let s : State := wRun id; let h : Hdr := wFor 0x0A03 1; let p : Nat := 1; let c : Nat := 16
     Accepts (Op.plain 0x0A03 .viewer) h s.hw ∧
     p ≤ 1 ∧
     1 ≤ c ∧
     c ≤ 16) ∧
    (let s : State := wRun id; let h : Hdr := wFor 0x0A04 3; let c : Nat := (State.reset.hw.reg (ALM_CTRL)).toNat; let u : Nat := 0
     let a : Nat := 1; let b : Nat := 2
     Accepts (Op.plain 0x0A04 .engineer) h s.hw ∧
     Room s.hw 4 ∧
     let t := ((((s.hw.accept h).setWord ALM_CTRL c).setWord ALM_UTC u).setWord (ALM_PORTp_LAT 0) a).setWord (ALM_PORTp_LAT 1) b
     almCtrlBad t = false) := by
  refine ⟨?_, ?_, ?_, ?_, ?_⟩ <;> decide +kernel

theorem test_met_almanac_events :
    (let s : State := wRun fun s => ({ s with time := { s.time with ticks := 1000000000 } } : Hw)
     Runs s.hw ∧
     s.hw.time.incTick + s.hw.get ALM_CTRL_HOLD_TMO * ticksPerSec ≤ s.hw.ticks) ∧
    (let s : State := wRun fun s => s.onNet fun t => { t with tx := smapSet [] t.tx 1 [⟨List.replicate 14 1#8, 0, 0, 0, wHdr 3⟩] }
     let p : Nat := 1; let f : TxFrame := ⟨List.replicate 14 1#8, 0, 0, 0, wHdr 3⟩; let q : List TxFrame := []
     Runs s.hw ∧
     p < 2 ∧
     smapGet [] s.hw.net.tx p = f :: q) ∧
    (let s : State := wRun fun s => s.onNet fun t => { t with rxTypes := [0x88F7], rxCount := 16 }; let p : Nat := 1
     let frame : List Byte := List.replicate 12 0#8 ++ [0x88#8, 0xF7#8, 0#8, 1#8]
     Runs s.hw ∧
     p < 2 ∧
     ptpAt frame = none ∧
     etherType frame ≠ 0 ∧
     s.hw.net.rxTypes.contains (etherType frame) = true ∧
     s.hw.net.rxCount ≠ 0) := by
  refine ⟨?_, ?_, ?_⟩ <;> decide +kernel

theorem test_met_clock_commands :
    (let s : State := wRun id; let h : Hdr := wFor 0x0A20 1
     Accepts (Op.plain 0x0A20 .viewer) h s.hw) ∧
    (let s : State := wMode mCommission fun s => s; let h : Hdr := wFor 0x0A21 3; let m : Nat := 3
     let c : Nat := ((ORY_MDLLm_CFG_MULT 3).into 0 40).toNat
     Accepts (Op.plain 0x0A21 .engineer) h s.hw ∧
     Room s.hw 4 ∧
     m < 4 ∧
     mdllRangeBad s.hw m c = false ∧
     mdllBars s.hw m = none ∧
     s.hw.mdllBusy m = false) ∧
    (let s : State := wMode mCommission fun s => (s.put (ORY_MDLLm_STAT_STATE 3) mdSearch); let h : Hdr := wFor 0x0A21 3
     let m : Nat := 3; let c : Nat := ((ORY_MDLLm_CFG_MULT 3).into 0 40).toNat
     Accepts (Op.plain 0x0A21 .engineer) h s.hw ∧
     Room s.hw 1 ∧
     m < 4 ∧
     mdllRangeBad s.hw m c = false ∧
     mdllBars s.hw m = none ∧
     s.hw.mdllBusy m = true) ∧
    (let s : State := wRun id; let h : Hdr := wFor 0x0A22 3
     Accepts (Op.plain 0x0A22 .engineer) h s.hw ∧
     Room s.hw 10) ∧
    (let s : State := wRun id; let h : Hdr := wFor 0x0A23 3; let n : Nat := 3; let c : Nat := 0
     Accepts (Op.plain 0x0A23 .engineer) h s.hw ∧
     Room s.hw 1 ∧
     n ≤ 3 ∧
     let t := (s.hw.accept h).setWord (ORY_CLKOUTn n) c
     clkoutBad t n = false ∧
     clkoutHeld s.hw t n = false) ∧
    (let s : State := wRun id; let h : Hdr := wFor 0x0A24 1
     Accepts (Op.plain 0x0A24 .viewer) h s.hw) := by
  refine ⟨?_, ?_, ?_, ?_, ?_, ?_⟩ <;> decide +kernel

theorem test_met_clock_losses :
    (let s : State := wRun id
     Runs s.hw ∧
     s.hw.time.clockLost = false) ∧
    (let s : State := wRun fun s => { s with time := { s.time with clockLost := true } }
     Runs s.hw ∧
     s.hw.time.clockLost = true) ∧
    (let s : State := wRun id
     Runs s.hw ∧
     s.hw.flag ORY_MON_CORE_LOSS = false) ∧
    (let s : State := wRun id
     Runs s.hw) ∧
    (let s : State := wRun id
     Runs s.hw) ∧
    (let s : State := wRun id; let d : Nat := 10; let c : Nat := 0
     Runs s.hw ∧
     d ≤ 10 ∧
     (c < (monWindow s.hw d).1 ∨ (monWindow s.hw d).2 < c)) := by
  refine ⟨?_, ?_, ?_, ?_, ?_, ?_⟩ <;> decide +kernel

theorem test_met_loops_crossings_and_halts :
    (let s : State := wRun fun s => s.put (ORY_MDLLm_STAT_STATE 3) mdLocked; let m : Nat := 3
     Runs s.hw ∧
     m < 4 ∧
     s.hw.mdllState m ≠ 0) ∧
    (let s : State := wRun fun s => s.put (ORY_MDLLm_STAT_STATE 3) mdSearch; let m : Nat := 3
     Runs s.hw ∧
     m < 4 ∧
     s.hw.acquiring m = true) ∧
    (let s : State := wRun id
     Runs s.hw) ∧
    (let s : State := wMode mCommission fun s => s; let n : Nat := 23
     Runs s.hw ∧
     s.hw.cfgMode = true ∧
     n < 24) ∧
    (let s : State := wMode mCommission fun s => s
     Runs s.hw ∧
     s.hw.cfgMode = true ∧
     s.hw.lst.halt = none) ∧
    (let s : State := wRun id; let n : Nat := 23
     Runs s.hw ∧
     n < 24) ∧
    (let s : State := wRun fun s => { s with lst := { s.lst with halt := some 0 } }
     Runs s.hw ∧
     s.hw.lst.halt ≠ none) := by
  refine ⟨?_, ?_, ?_, ?_, ?_, ?_, ?_⟩ <;> decide +kernel

theorem test_met_chronograph_record_commands :
    (let s : State := wRun id; let h : Hdr := wFor 0x0B00 1
     Accepts (Op.plain 0x0B00 .viewer) h s.hw) ∧
    (let s : State := wRun id; let h : Hdr := wFor 0x0B01 3; let u : Nat := 15; let c : Nat := 0; let x : Nat := 0
     Accepts (Op.plain 0x0B01 .engineer) h s.hw ∧
     Room s.hw 2 ∧
     u ≤ 15 ∧
     let t := ((s.hw.accept h).setWord (CHR_TRGu_CFG u) c).setWord (CHR_TRGu_THR u) x
     trgBad t u = false) ∧
    (let s : State := wRun id; let k : Nat := 3; let c : Nat := 0; let tr : Nat := 0; let sr : Nat := 1; let ln : Nat := 0
     let ns : Nat := 1; let b : Nat := 0x10000; let ls : Option (List Nat) := none
     let h : Hdr := { wHdr 3 with length := (if ls.isSome then 153 else 25) }
     Accepts (Op.sized 0x0B02 .engineer (if ls.isSome then 153 else 25)) h s.hw ∧
     Room s.hw 38 ∧
     k ≤ 3 ∧
     let t := ((recRegs k).zip [c, tr, sr, ln, ns, b]).foldl (fun t p => t.setWord p.1 p.2) (s.hw.accept h)
         let t := match ls with
           | some ws => (((List.range 32).map CHR_LEVj).zip ws).foldl (fun t p => t.setWord p.1 p.2) t
           | none => t
     recBad t k = false ∧
     (List.range 32).any (levBad t) = false ∧
     s.hw.recBusy k = false ∧
     (List.range 4).any (fun j => slotsMeet t j k) = false) ∧
    (let s : State := wRun fun s => s.put (CHR_RECk_NSEG_NSEG 3) 1; let h : Hdr := wFor 0x0B03 2; let m : Nat := 8
     Accepts (Op.plain 0x0B03 .operator) h s.hw ∧
     Room s.hw 1 ∧
     m < 16 ∧
     ((∀ k ∈ recsOf m, (s.hw.recState k = rcIdle ∨ s.hw.recState k = rcDone) ∧ s.hw.get (CHR_RECk_NSEG_NSEG k) ≠ 0)) ∧
     firstFail (armBars s.hw (recsOf m)) = none) ∧
    (let s : State := wRun id; let h : Hdr := wFor 0x0B04 2
     Accepts (Op.plain 0x0B04 .operator) h s.hw ∧
     Room s.hw 1) ∧
    (let s : State := wRun fun s => s.put (CHR_RECk_STAT_STATE 3) rcArmed; let h : Hdr := wFor 0x0B05 2; let m : Nat := 8
     Accepts (Op.plain 0x0B05 .operator) h s.hw ∧
     Room s.hw 1 ∧
     (∀ k ∈ recsOf m, s.hw.recState k = rcArmed)) ∧
    (let s : State := wRun fun s => (s.put CHR_STAT_DDR_GIB 1).put CHR_STAT_DDR_OK 1; let h : Hdr := wFor 0x0B06 1
     let o : Nat := 2 ^ 30 - 4; let n : Nat := 4
     Accepts (Op.plain 0x0B06 .viewer) h s.hw ∧
     n ≤ 2 ^ 20 ∧
     o + n ≤ s.hw.get CHR_STAT_DDR_GIB * 2 ^ 30 ∧
     s.hw.flag CHR_STAT_DDR_OK = true) := by
  refine ⟨?_, ?_, ?_, ?_, ?_, ?_, ?_⟩ <;> decide +kernel

theorem test_met_chronograph_other_commands :
    (let s : State := wRun id; let h : Hdr := wFor 0x0B07 3; let u : Nat := 16; let c : Nat := 0; let lo : Nat := 5
     let f : Nat := 6
     Accepts (Op.plain 0x0B07 .engineer) h s.hw ∧
     Room s.hw 3 ∧
     u ≤ 16 ∧
     let as := if u < 16 then [CHR_HISTh_CFG u, CHR_HISTh_LO u] else [CHR_MAP_CFG, CHR_MAP_LO, CHR_MAP_FREQ]
         let t := (as.zip [c, lo, f]).foldl (fun t p => t.setWord p.1 p.2) (s.hw.accept h)
     statBad t u = false) ∧
    (let s : State := wRun id; let c : Nat := 0; let sg : Nat := 0; let bl : Nat := (CHR_XSP_BLK_BLK.into 0 16).toNat
     let av : Nat := (CHR_XSP_AVG_AVG.into 0 1).toNat; let la : Nat := 0; let bins : List Nat := [16000000]
     let h : Hdr := { wHdr 3 with length := (20 + 4 * bins.length) }
     Accepts (Op.sized 0x0B08 .engineer (20 + 4 * bins.length)) h s.hw ∧
     Room s.hw (5 + bins.length) ∧
     let t := (([CHR_XSP_CFG, CHR_XSP_SIG, CHR_XSP_BLK, CHR_XSP_AVG, CHR_XSP_LEADDR] ++ (List.range bins.length).map CHR_XSP_BINb).zip
           ([c, sg, bl, av, la] ++ bins)).foldl (fun t p => t.setWord p.1 p.2) (s.hw.accept h)
     bins.length = t.get CHR_XSP_CFG_NBIN_M1 + 1 ∧
     xspBad t = false ∧
     s.hw.flag CHR_XSP_STAT_BUSY = false) ∧
    (let s : State := wRun id; let h : Hdr := wFor 0x0B09 2
     Accepts (Op.plain 0x0B09 .operator) h s.hw ∧
     Room s.hw 1) ∧
    (let s : State := wRun fun s => s.put CHR_CTRL_SYNC_ROLE 2; let h : Hdr := wFor 0x0B0A 2
     Accepts (Op.plain 0x0B0A .operator) h s.hw ∧
     Room s.hw 1 ∧
     s.hw.get CHR_CTRL_SYNC_ROLE = 2) ∧
    (let s : State := wRun id; let h : Hdr := wFor 0x0B0B 3
     Accepts (Op.plain 0x0B0B .engineer) h s.hw ∧
     Room s.hw 1) := by
  refine ⟨?_, ?_, ?_, ?_, ?_⟩ <;> decide +kernel

theorem test_met_chronograph_events :
    (let s : State := wRun id
     Runs s.hw) ∧
    (let s : State := wRun fun s => (s.put (CHR_RECk_STAT_STATE 3) rcClosing).onRec 3 fun r => { r with seg := some ⟨0, 0, 1, 0, 0, 0, 0, none, 0, 0⟩ }
     let k : Nat := 3
     Runs s.hw ∧
     k < 4 ∧
     s.hw.recState k = rcClosing ∧
     (s.hw.recOf k).seg ≠ none ∧
     s.hw.flag (CHR_RECk_CFG_AUTO_REARM k) = false) ∧
    (let s : State := wRun fun s => s.put (CHR_RECk_STAT_STATE 3) rcClosing; let k : Nat := 3
     Runs s.hw ∧
     k < 4 ∧
     s.hw.recState k = rcClosing ∧
     (s.hw.recOf k).seg = none) ∧
    (let s : State := wRun id
     Runs s.hw) ∧
    (let s : State := wRun id
     Runs s.hw) ∧
    (let s : State := wRun fun s => (s.put CHR_XSP_STAT_BUSY 1).onXsp fun x => { x with ended := some [] }
     Runs s.hw ∧
     s.hw.chr.xsp.ended ≠ none ∧
     s.hw.flag CHR_XSP_STAT_BUSY = true) ∧
    (let s : State := wRun fun s => { s with cmd := { s.cmd with waiting := [⟨wHdr 3, 0x0B0B, .selftest⟩] } }
     Runs s.hw ∧
     (∃ w ∈ s.hw.cmd.waiting, w.kind = .selftest)) := by
  refine ⟨?_, ?_, ?_, ?_, ?_, ?_, ?_⟩ <;> decide +kernel

theorem test_met_safety_commands :
    (let s : State := wRun id; let h : Hdr := wFor 0x0C00 1
     Accepts (Op.plain 0x0C00 .viewer) h s.hw) ∧
    (let s : State := wMode mCommission fun s => s; let h : Hdr := wFor 0x0C01 5; let b : List Byte := wSpb
     Accepts (Op.plain 0x0C01 .safetyOfficer) h s.hw ∧
     Room s.hw 1 ∧
     s.hw.mode = mCommission ∧
     spbOk b = true) ∧
    (let b := wSpb
     let p : State := wRun fun s => s.onSaf fun c => { c with pend := some b }
     let q : State := wRun fun s => s.onSaf fun c => { c with spb := some b }
     let r : State := wRun id
     b.length ≤ 1398 ∧ Accepts (Op.plain 0x0C02 .viewer) (wFor 0x0C02 1) p.hw ∧ p.hw.saf.pend = some b ∧
     Accepts (Op.plain 0x0C02 .viewer) (wFor 0x0C02 1) q.hw ∧ q.hw.saf.spb = some b ∧
     Accepts (Op.plain 0x0C02 .viewer) (wFor 0x0C02 1) r.hw ∧ r.hw.saf.spb = none) ∧
    (let s : State := wMode mCommission fun s => s.onSaf fun c => { c with pend := some wSpb }; let h : Hdr := wFor 0x0C03 5
     let b : List Byte := wSpb
     Accepts (Op.plain 0x0C03 .safetyOfficer) h s.hw ∧
     Room s.hw 1 ∧
     s.hw.mode = mCommission ∧
     s.hw.saf.pend = some b) ∧
    (let s : State := wMode mCommission fun s => s; let h : Hdr := wFor 0x0C04 5
     Accepts (Op.plain 0x0C04 .safetyOfficer) h s.hw ∧
     Room s.hw 1 ∧
     (s.hw.modeIn [mCommission, mBlocked, mTripped] = true ∨ s.hw.standby = true)) := by
  refine ⟨?_, ⟨?_, ?_, ?_, test_block_is_taken⟩, ?_, ?_, ?_⟩ <;> decide +kernel

theorem test_met_safety_events :
    (let s : State := wSafe fun s => s.onSaf fun c => { c with apart := 1 }
     Runs s.hw ∧ s.hw.saf.ready = true ∧ s.hw.saf.apart = 1) ∧
    (let s : State := wSafe fun s => s.onSafIn 15 fun x => { x with mixed := 102 }; let i : Nat := 15; let b : List Byte := wSpb
     Runs s.hw ∧
     s.hw.spbNow = some b ∧
     i < 16 ∧
     10 * inDisc b i + 1 < (s.hw.safIn i).mixed) ∧
    (let s : State := wSafe fun s => s.onSafFn 0 fun x => { x with stopped := false, since := 100 }; let f : Nat := 0
     let b : List Byte := wSpb
     Runs s.hw ∧
     s.hw.spbNow = some b ∧
     f < 8 ∧
     (s.hw.safFn f).permit = false ∧
     (s.hw.safFn f).stopped = false ∧
     10 * fnT1 b f ≤ (s.hw.safFn f).since) ∧
    (let s : State := wSafe fun s => s.onSaf fun c => { c with outs := 1 }; let n : Nat := 0; let b : List Byte := wSpb
     Runs s.hw ∧
     s.hw.spbNow = some b ∧
     n < 4 ∧
     bitOf s.hw.saf.outs n = true ∧
     spbOtp b ≠ 0) ∧
    (let s : State := wSafe fun s => (s.onSaf fun c => { c with outs := 1, changed := [(0, 1)], evals := 101 }).put (valFld 2) vOn
     let n : Nat := 0; let b : List Byte := wSpb
     Runs s.hw ∧
     s.hw.spbNow = some b ∧
     n < 4 ∧
     edmIn b n < 16 ∧
     smapGet 0 s.hw.saf.changed n ≠ 0 ∧
     smapGet 0 s.hw.saf.changed n + 10 * spbEdmT b ≤ s.hw.saf.evals ∧
     s.hw.inVal (edmIn b n) ≠ (if bitOf s.hw.saf.outs n then vOff else vOn)) ∧
    (let s : State := wSafe fun s => s; let k : Nat := 1; let high : Nat := 0x20; let i : Nat := 2; let c : Nat := 1
     let b : List Byte := wSpb
     Runs s.hw ∧
     s.hw.spbNow = some b ∧
     s.hw.flag SAF_STAT_SAFE_FAULT = false ∧
     i ∈ insUsed b ∧
     c < 2 ∧
     inTp b i c = k ∧
     bitOf high (2 * i + c) = true) ∧
    (let s : State := wRun id
     Runs s.hw) ∧
    (let s : State := wRun fun s => s.onSaf fun c => { c with proof := true }
     Runs s.hw ∧
     s.hw.saf.proof = true) := by
  refine ⟨?_, ?_, ?_, ?_, ?_, ?_, ?_, ?_⟩ <;> decide +kernel

theorem test_met_safety_pads_drive_only_when_confirmed :
    (let s : State := wRun fun s => s.put SAF_STAT_SAFE_FAULT 1
     s.hw.flag SAF_STAT_SAFE_FAULT = true) ∧
    (let s : State := wRun fun s => s.onSaf fun c => { c with ready := true }; let i : Nat := 15
     Runs s.hw ∧
     s.hw.saf.ready = true ∧
     s.hw.spbNow = none ∧
     s.hw.saf.apply = false ∧
     i < 16) := by
  refine ⟨?_, ?_⟩ <;> decide +kernel

theorem test_met_session_commands :
    (let s : State := wRun id; let h : Hdr := { wHdr 0 with length := 0 }
     Accepts { code := 0x0000, role := some .viewer, params := some 0, noSession := true } h s.hw) ∧
    (let s : State := wRun id; let k : Nat := 0; let o : Nat := 0; let r : Role := .viewer
     let nonce : List Byte := List.replicate 16 0#8; let h : Hdr := { wHdr 0 with length := 18 }
     roleOfCode k = some r ∧
     Accepts { code := 0x0001, role := none, params := some 18, noSession := true } h s.hw ∧
     nonce.length = 16 ∧
     s.hw.authLocked r = false ∧
     s.hw.sessionsFull h.transport r = false ∧
     (bitOf o 0 = true → h.transport = .spi)) ∧
    (let s : State := wMode mCommission fun s => { s with cmd := { s.cmd with pendingIds := [⟨9, .viewer, .pcie, false, [], [], 0⟩] } }
     let p : PendingId := ⟨9, .viewer, .pcie, false, [], [], 0⟩; let proof : List Byte := List.replicate 32 0#8
     let h : Hdr := { wHdr 9 with length := 32 }
     Accepts { code := 0x0001, role := none, params := some 32, pendingId := true } h s.hw ∧
     s.hw.pendingId? h = some p ∧
     proof.length = 32 ∧
     s.hw.authLocked p.role = false ∧
     s.hw.ticks ≤ p.tick + ticksPerSec ∧
     proofGood p proof s.hw = true) ∧
    (let s : State := wRun id; let h : Hdr := { wHdr 1 with length := 0 }
     s.hw.inReset = false ∧
     s.hw.cmd.resuming = false ∧
     gate closeOp s.hw h = .accept ∧
     closeOp.sizeBad h = false) ∧
    (let s : State := wRun id; let h : Hdr := wFor 0x0003 1
     Accepts (Op.plain 0x0003 .viewer) h s.hw) ∧
    (let s : State := wMode mCommission fun s => s; let h : Hdr := wFor 0x0004 4
     Accepts (Op.plain 0x0004 .service) h s.hw ∧
     Room s.hw 1 ∧
     (s.hw.standby = true ∨ s.hw.modeIn [mCommission, mBlocked, mTripped] = true)) ∧
    (let s : State := wRun id; let h : Hdr := wFor 0x0005 3; let c : Nat := (State.reset.hw.reg (NET_CTRL)).toNat; let i : Nat := 1
     let m : Nat := 2; let g : Nat := 3
     Accepts (Op.plain 0x0005 .engineer) h s.hw ∧
     Room s.hw 4 ∧
     let u := ((((s.hw.accept h).setWord NET_CTRL c).setWord NET_IP i).setWord NET_MASK m).setWord NET_GW g
     netCtrlBad u = false) := by
  refine ⟨?_, ?_, ?_, ?_, ?_, ?_, ?_⟩ <;> decide +kernel

theorem test_met_ports_and_session_timers :
    (let s : State := wRun fun s => s.put NET_CTRL_SPI_EN 0
     s.hw.transportOn .spi = false) ∧
    (let s : State := wRun id; let tr : Transport := .spi
     Runs s.hw ∧
     s.hw.transportOn tr = true) ∧
    (let p : State := wRun id
     let q : State := wRun fun s => s.put MB_FREE_FREE 0
     (Runs p.hw ∧ bitOf (p.hw.get MB_FREE_FREE) 7 = true) ∧ Runs q.hw ∧ bitOf (q.hw.get MB_FREE_FREE) 7 = false) ∧
    (let s : State := wRun fun s => s.put MB_READY_READY 128; let m : Nat := 128; let k : Nat := 7
     Runs s.hw ∧
     k < 8 ∧
     bitOf m k = true ∧
     bitOf (s.hw.get MB_READY_READY) k = true) ∧
    (let p : State := wRun fun s => s.put NET_CTRL_SPI_EN 1
     let q : State := wRun fun s => (s.put NET_CTRL_SPI_EN 1).onSpi fun p => { p with ready := false }
     (Runs p.hw ∧ p.hw.flag NET_CTRL_SPI_EN = true ∧ p.hw.cmd.spi.ready = true) ∧
     Runs q.hw ∧ q.hw.flag NET_CTRL_SPI_EN = true ∧ q.hw.cmd.spi.ready = false) ∧
    (let s : State := wRun fun s => s.put NET_CTRL_SPI_EN 1
     Runs s.hw ∧
     s.hw.flag NET_CTRL_SPI_EN = true) ∧
    (let s : State := wRun fun s => (s.put NET_CTRL_SPI_EN 1).onSpi fun p => { p with reply := some ⟨.spi, 0, 1, 1, 1, .ok, [], 0#256⟩ }
     let r : Reply := ⟨.spi, 0, 1, 1, 1, .ok, [], 0#256⟩
     Runs s.hw ∧
     s.hw.flag NET_CTRL_SPI_EN = true ∧
     s.hw.cmd.spi.reply = some r) ∧
    (let s : State := wRun fun s => ({ s with time := { s.time with ticks := 1000000000 } } : Hw); let i : Nat := 1
     let x : Session := wSes 1 .viewer
     Runs s.hw ∧
     s.hw.cmd.sessions.find? (fun x => x.id == i) = some x ∧
     x.lastTick + s.hw.get NET_CTRL_SESSION_IDLE * ticksPerSec ≤ s.hw.ticks ∧
     heldSession s.hw i = false) ∧
    (let s : State := wRun fun s => ({ s with time := { s.time with ticks := 5000000 }, cmd := { s.cmd with pendingIds := [⟨9, .viewer, .pcie, false, [], [], 0⟩] } } : Hw)
     let i : Nat := 9; let p : PendingId := ⟨9, .viewer, .pcie, false, [], [], 0⟩
     Runs s.hw ∧
     s.hw.cmd.pendingIds.find? (fun x => x.id == i) = some p ∧
     p.tick + 10 * ticksPerSec ≤ s.hw.ticks) ∧
    (let s : State := wRun fun s => ({ s with time := { s.time with ticks := 30000000 }, cmd := { s.cmd with lockedAt := [(2, some 0)] } } : Hw)
     let k : Nat := 2; let n : Nat := 0
     Runs s.hw ∧
     smapGet none s.hw.cmd.lockedAt k = some n ∧
     n + 60 * ticksPerSec ≤ s.hw.ticks) := by
  refine ⟨?_, ?_, ?_, ?_, ?_, ?_, ?_, ?_, ?_, ?_⟩ <;> decide +kernel

theorem test_met_network_commands :
    (let s : State := wMode mCommission fun s => s; let h : Hdr := wFor 0x0006 3; let n : Nat := 15
     Accepts (Op.plain 0x0006 .engineer) h s.hw ∧
     Room s.hw 4 ∧
     s.hw.cfgMode = true ∧
     n ≤ 15) ∧
    (let s : State := wMode mCommission fun s => s; let h : Hdr := wFor 0x0007 3; let g : Nat := 31; let c : Nat := 0
     let a : Nat := 0; let r : Nat := 0
     Accepts (Op.plain 0x0007 .engineer) h s.hw ∧
     Room s.hw 3 ∧
     s.hw.cfgMode = true ∧
     g ≤ 31 ∧
     let u := (((s.hw.accept h).setWord (NET_GOg_CFG g) c).setWord (NET_GOg_ADDR g) a).setWord (NET_GOg_CONFREV g) r
     gooseBad u g = false) ∧
    (let s : State := wRun id; let h : Hdr := wFor 0x0008 1
     Accepts (Op.plain 0x0008 .viewer) h s.hw) ∧
    (let s : State := wRun id; let p : Nat := 1; let q : Nat := 0; let frame : List Byte := List.replicate 1514 0#8
     let h : Hdr := { wHdr 3 with length := (12 + frame.length) }
     Accepts { code := 0x0009, role := some .engineer, params := some (12 + frame.length), pcieOnly := true } h s.hw ∧
     p ≤ 2 ∧
     q ≤ 2 ∧
     14 ≤ frame.length ∧
     frame.length ≤ 1514 ∧
     (s.hw.flag ALM_CTRL_PTP_FW_EN = false ∨ ptpAt frame = none)) ∧
    (let s : State := wRun id; let c : Nat := 16; let ts : List Nat := [1, 2, 3, 4]; let h : Hdr := { wHdr 3 with length := 18 }
     Accepts { code := 0x000A, role := some .engineer, params := some 18, pcieOnly := true } h s.hw ∧
     Room s.hw 1 ∧
     16 ≤ c ∧
     c ≤ 4096 ∧
     isPow2 c = true ∧
     ts.length = 4) ∧
    (let s : State := wRun id; let h : Hdr := wHdr 3; let b : Nat := 0; let c : Nat := 16; let r : Nat := 1; let d : Nat := 1
     let ws : List (Nat × Nat) := [(23, 8191)]
     Accepts { code := 0x000B, role := some .engineer, pcieOnly := true } h s.hw ∧
     Room s.hw 1 ∧
     (ws = [] ∨ Telem.bad ⟨b, c, r, d, ws⟩ = false)) := by
  refine ⟨?_, ?_, ?_, ?_, ?_, ?_⟩ <;> decide +kernel

theorem test_met_network_events :
    (let s : State := wRun fun s => { s with live := [(NET_SVs_CFG 15, (NET_SVs_CFG_EN 15).into 0 1)] }; let p : Nat := 1
     let c : Nat := 5; let n : Nat := 15; let dev : Int := 0; let f : SvFrame := ⟨0x010CCD040000, 0, false, [⟨0, 0, 2, [(5, 0)]⟩]⟩
     let a : SvAsdu := ⟨0, 0, 2, [(5, 0)]⟩
     Runs s.hw ∧
     p < 2 ∧
     n < 16 ∧
     svMatch s.hw n f = some a ∧
     let r := svRate (s.hw.liveGet (NET_SVs_CFG_RATE n))
         let units := (s.hw.atEvent c).stampAt c dev (-(s.hw.get (ALM_PORTp_LAT_INGRESS p) : Int))
         let sec := svSecond units a.smpCnt r
     a.smpCnt < r ∧
     0 ≤ sec ∧
     (smapGet {} s.hw.net.sv n).seen.contains (sec.toNat, a.smpCnt) = false ∧
     svAge units a.smpCnt r sec ≤ ((s.hw.get ALM_CTRL_SV_AGE_MAX * 1000 * 2 ^ 32 * r : Nat) : Int) ∧
     a.smpSynch ≠ 0 ∧
     (a.smpSynch = 1 → s.hw.flag ALM_CTRL_SMPSYNCH_LOCAL = true)) ∧
    (let s : State := wRun fun s => { s with time := { s.time with sec := 1 }, net := { s.net with sv := [(15, { newest := some (0, 0) })] } }
     let n : Nat := 15; let x : Nat × Nat := (0, 0)
     Runs s.hw ∧
     n < 16 ∧
     (smapGet {} s.hw.net.sv n).newest = some x ∧
     svOld ((s.hw.timeNow.1 * nsPerSec + s.hw.timeNow.2.1) * 2 ^ 32 + s.hw.timeNow.2.2) (svRate (s.hw.liveGet (NET_SVs_CFG_RATE n))) x = true) ∧
    (let s : State := wRun fun s => { s with live := [(NET_GOg_CFG 31, (NET_GOg_CFG_EN 31).into 0 1)] }; let g : Nat := 31
     let m : GooseMsg := ⟨0x010CCD010000, 0, 0, false, 3, 0, 100, []⟩
     Runs s.hw ∧
     g < 32 ∧
     gooseMatch s.hw g m = true ∧
     (smapGet {} s.hw.net.goose g).last ≠ some (m.stNum, m.sqNum)) ∧
    (let s : State := wRun fun s => ({ s with time := { s.time with base := 25600000 }, net := { s.net with goose := [(31, { ttl := 100 })] } } : Hw).put (NET_GOg_STAT_VALID 31) 1
     let g : Nat := 31
     Runs s.hw ∧
     g < 32 ∧
     s.hw.flag (NET_GOg_STAT_VALID g) = true ∧
     (smapGet {} s.hw.net.goose g).at_ + (smapGet {} s.hw.net.goose g).ttl * 256000 ≤ s.hw.cycles) ∧
    (let s : State := wRun fun s => s.onNet fun n => { n with telem := some ⟨0, 16, 1, 1, [(0, 0)]⟩, telDue := [[1], [2]] }
     Runs s.hw ∧ s.hw.net.telem = some ⟨0, 16, 1, 1, [(0, 0)]⟩ ∧ s.hw.net.telDue = [1] :: [[2]] ∧
     (s.hw.get TL_WR_WR + 1) % (⟨0, 16, 1, 1, [(0, 0)]⟩ : Telem).count ≠ 0 % 2 ^ 24 ∧ (s.hw.get TL_WR_WR + 1) % (⟨0, 16, 1, 1, [(0, 0)]⟩ : Telem).count = 1 % 2 ^ 24) := by
  refine ⟨?_, ?_, ?_, ?_, ?_⟩ <;> decide +kernel

theorem test_met_store_commands :
    (let s : State := wRun id; let h : Hdr := wFor 0x0300 1
     Accepts (Op.plain 0x0300 .viewer) h s.hw) ∧
    (let s : State := wRun id; let h : Hdr := wFor 0x0301 3
     Accepts (Op.plain 0x0301 .engineer) h s.hw ∧
     Room s.hw 1 ∧
     s.hw.storeBusy = false) ∧
    (let s : State := wMode mCommission fun s => s; let h : Hdr := wFor 0x0302 3
     Accepts (Op.plain 0x0302 .engineer) h s.hw ∧
     Room s.hw 1 ∧
     s.hw.cfgMode = true) ∧
    (let s : State := wMode mCommission fun s => s; let h : Hdr := wFor 0x0303 4
     Accepts (Op.plain 0x0303 .service) h s.hw ∧
     Room s.hw 1 ∧
     s.hw.mode = mCommission ∧
     s.hw.storeBusy = false) ∧
    (let s : State := wRun fun s => s.onSto fun t => { t with storing := some {} }; let c : Stored := {}
     Runs s.hw ∧
     s.hw.sto.storing = some c) ∧
    (let s : State := wRun fun s => s.put STO_STAT_CHK_BUSY 1
     Runs s.hw ∧
     s.hw.flag STO_STAT_CHK_BUSY = true) := by
  refine ⟨?_, ?_, ?_, ?_, ?_, ?_⟩ <;> decide +kernel

theorem test_met_security_commands :
    (let s : State := wRun id; let h : Hdr := wFor 0x0D00 1
     Accepts (Op.plain 0x0D00 .viewer) h s.hw) ∧
    (let s : State := wRun id; let b : Nat := 1; let o : Nat := slotSize - 1; let n : Nat := 1; let bs : List Byte := [7#8]
     let h : Hdr := { wHdr 4 with length := (7 + n) }
     Accepts (Op.sized 0x0D01 .service (7 + n)) h s.hw ∧
     Room s.hw 1 ∧
     b ≤ 1 ∧
     o + n ≤ slotSize ∧
     bs.length = n ∧
     s.hw.runSlot ≠ some b) ∧
    (let s : State := wRun id; let h : Hdr := wFor 0x0D02 4; let b : Nat := 1
     Accepts (Op.plain 0x0D02 .service) h s.hw ∧
     b ≤ 1) ∧
    (let s : State := wRun fun s => s.onSto fun t => { t with verified := [(1, true)] }; let h : Hdr := wFor 0x0D03 4
     let b : Nat := 1
     Accepts (Op.plain 0x0D03 .service) h s.hw ∧
     Room s.hw 1 ∧
     b ≤ 1 ∧
     smapGet false s.hw.sto.verified b = true) ∧
    (let s : State := wRun id; let h : Hdr := wFor 0x0D04 4
     Accepts (Op.plain 0x0D04 .service) h s.hw ∧
     Room s.hw 1) ∧
    (let s : State := wMode mCommission fun s => s; let h : Hdr := wFor 0x0D05 3; let k : List Byte := List.replicate 68 1#8
     Accepts (Op.plain 0x0D05 .engineer) h s.hw ∧
     Room s.hw 1 ∧
     s.hw.mode = mCommission ∧
     k.length = 68 ∧
     s.hw.nv.custKey = none) ∧
    (let s : State := wMode mCommission fun s => s.onNv fun v => v.onKey fun r => { r with custKey := some (List.replicate 68 1#8) }
     let h : Hdr := wFor 0x0D06 4; let k : List Byte := List.replicate 68 1#8
     Accepts (Op.plain 0x0D06 .service) h s.hw ∧
     Room s.hw 1 ∧
     s.hw.mode = mCommission ∧
     s.hw.nv.custKey = some k) ∧
    (let s : State := wMode mCommission fun s => s; let h : Hdr := wFor 0x0D07 4; let r : Nat := 3; let w : BitVec 256 := 0#256
     Accepts (Op.plain 0x0D07 (roleKeyNeed s.hw h r)) h s.hw ∧
     Room s.hw 1 ∧
     r ≤ 4 ∧
     let k := unwrapKey (s.hw.accept h) h w
     (s.hw.mode = mCommission ∨ k ≠ 0#256)) ∧
    (let s : State := wRun fun s => ({ s with time := { s.time with ticks := 50000000 }, sto := { s.sto with lastQuote := some 0 } } : Hw)
     let h : Hdr := wFor 0x0D08 1; let n : List Byte := List.replicate 32 0#8
     Accepts (Op.plain 0x0D08 .viewer) h s.hw ∧
     n.length = 32 ∧
     s.hw.nv.sigIndex < 2 ^ 20 ∧
     (∀ k ∈ s.hw.sto.lastQuote, k + s.hw.get SEC_CFG_ATT_PERIOD * 50000 ≤ s.hw.ticks)) ∧
    (let s : State := wRun fun s => s.onSto fun t => { t with signature := List.replicate 1024 3#8 }; let h : Hdr := wFor 0x0D09 1
     let o : Nat := 0; let n : Nat := 1024
     Accepts (Op.plain 0x0D09 .viewer) h s.hw ∧
     n ≤ 1024 ∧
     o + n ≤ s.hw.sto.signature.length) ∧
    (let s : State := wRun id; let h : Hdr := wFor 0x0D0A 1; let o : Nat := 2887; let n : Nat := 1
     Accepts (Op.plain 0x0D0A .viewer) h s.hw ∧
     n ≤ 1024 ∧
     o + n ≤ 2888) ∧
    (let s : State := wRun id; let h : Hdr := wFor 0x0D0B 4; let c : Nat := 600
     Accepts (Op.plain 0x0D0B .service) h s.hw ∧
     Room s.hw 1 ∧
     let u := (s.hw.accept h).setWord SEC_CFG c
     secCfgBad u = false) := by
  refine ⟨?_, ?_, ?_, ?_, ?_, ?_, ?_, ?_, ?_, ?_, ?_, ?_⟩ <;> decide +kernel

theorem test_met_log_and_integrity_commands :
    (let s : State := wRun id; let h : Hdr := wFor 0x0E00 1
     Accepts (Op.plain 0x0E00 .viewer) h s.hw) ∧
    (let s : State := wRun fun s => { s with log := { s.log with count := 5 } }; let h : Hdr := wFor 0x0E01 1; let f : Nat := 4
     let n : Nat := 1
     Accepts (Op.plain 0x0E01 .viewer) h s.hw ∧
     1 ≤ n ∧
     n ≤ 1024 ∧
     let d := s.hw.log.behind f
     d < s.hw.log.count ∧
     d < logSlots ∧
     n ≤ d + 1 ∧
     let data := (List.range n).flatMap fun k => (smapGet blankLogEntry s.hw.log.ring ((s.hw.log.count - 1 - d + k) % logSlots)).bytes
     Fits h data) ∧
    (let s : State := wRun fun s => { s with log := { s.log with count := 5 } }; let h : Hdr := wFor 0x0E02 3; let q : Nat := 4
     Accepts (Op.plain 0x0E02 .engineer) h s.hw ∧
     let d := s.hw.log.behind q
     d ≤ s.hw.log.count - s.hw.log.exported ∧
     d < s.hw.log.count ∧
     (s.hw.flag LOG_CFG_LOG_POLICY = false ∨ 257 ≤ logSlots - min d logSlots)) ∧
    (let s : State := wRun id; let h : Hdr := wFor 0x0E03 4
     Accepts (Op.plain 0x0E03 .service) h s.hw ∧
     Room s.hw 1) ∧
    (let s : State := wRun id; let h : Hdr := wFor 0x0F00 1
     Accepts (Op.plain 0x0F00 .viewer) h s.hw) ∧
    (let s : State := wRun id; let h : Hdr := wFor 0x0F01 3; let c : Nat := (State.reset.hw.reg (INT_CFG)).toNat
     Accepts (Op.plain 0x0F01 .engineer) h s.hw ∧
     Room s.hw 1 ∧
     let u := (s.hw.accept h).setWord INT_CFG c
     intCfgBad u = false) ∧
    (let s : State := wRun id; let h : Hdr := wFor 0x0F02 3; let b : Nat := 4; let i : Nat := 959
     Accepts (Op.plain 0x0F02 .engineer) h s.hw ∧
     Room s.hw 1 ∧
     s.hw.mode ≠ mRide ∧
     i < bundleCount b ∧
     s.hw.int.inj = none ∧
     s.hw.int.injSlow ≠ some s.hw.nextSlow ∧
     (b = 3 → s.hw.laneState (i / 2) = lnRun)) := by
  refine ⟨?_, ?_, ?_, ?_, ?_, ?_, ?_⟩ <;> decide +kernel

theorem test_met_log_appends_a_chained_entry :
    (let s : Hw := { State.reset.hw with log := { State.reset.hw.log with count := logSlots } }
     s.log.unexported = logSlots ∧ State.reset.hw.log.unexported < logSlots) := by
  decide +kernel

theorem test_met_register_reads :
    (let s : State := wRun id; let h : Hdr := wFor 0x1000 1; let a : Nat := 0x2000FC00; let n : Nat := 256
     Accepts (Op.plain 0x1000 .viewer) h s.hw ∧
     1 ≤ n ∧
     n ≤ 256 ∧
     a % 4 = 0 ∧
     0x20000000 ≤ a ∧
     a + 4 * n ≤ 0x20010000) ∧
    (let s : State := wRun id; let h : Hdr := wFor 0x1000 1; let a : Nat := 0x2000FFFC; let n : Nat := 2
     let w : Window := ⟨0x20000000, 0x2000FFFF, true⟩
     Accepts (Op.plain 0x1000 .viewer) h s.hw ∧
     windowOf a = some w ∧
     1 ≤ n ∧
     w.last < a + 4 * (n - 1)) ∧
    (let s : State := wRun id; let h : Hdr := wFor 0x1000 1
     Accepts (Op.plain 0x1000 .viewer) h s.hw) ∧
    (let s : State := wRun id; let h : Hdr := wFor 0x1000 1; let n : Nat := 1
     Accepts (Op.plain 0x1000 .viewer) h s.hw ∧
     n < 2) ∧
    (let s : State := wRun id; let h : Hdr := wFor 0x1000 1; let n : Nat := 1; let m : Nat := 15
     Accepts (Op.plain 0x1000 .viewer) h s.hw ∧
     n < 2 ∧
     m < 16) ∧
    (let s : State := wRun id; let h : Hdr := wFor 0x1000 1; let p : Nat := 1
     Accepts (Op.plain 0x1000 .viewer) h s.hw ∧
     p < 2) := by
  refine ⟨?_, ?_, ?_, ?_, ?_, ?_⟩ <;> decide +kernel

theorem test_met_register_writes :
    (let s : State := wRun id
     let u : State := wRun fun s => s.put LOG_CFG_LOG_POLICY 1
     let h := wFor 0x1001 3
     let log : Hw × List Chg × Bool → List Chg := fun x => x.2.1
     Accepts (Op.plain 0x1001 .viewer) h s.hw ∧ Accepts (Op.plain 0x1001 .viewer) h u.hw ∧ NET_GW ≠ ALM_INCH ∧
     ((writeWord (s.hw.roleOf h) NET_GW 0xFF 7 (s.hw.accept h)).toOption.map log).map List.length = some 1 ∧ Room s.hw 1 ∧
     ((writeWord (u.hw.roleOf h) NET_GW 0 7 (u.hw.accept h)).toOption.map log) = some [] ∧
     (match writeWord (s.hw.roleOf h) NET_STAT 0xFF 7 (s.hw.accept h) with | .error st => some st | .ok _ => none) = some .regRo) ∧
    (let s : State := wRun id
     let vs := [1, 2]
     let h : Hdr := { wHdr 3 with length := 8 + 4 * vs.length }
     let log : Hw × List Chg × Bool → List Chg := fun x => x.2.1
     Accepts (Op.sized 0x1002 .viewer (8 + 4 * vs.length)) h s.hw ∧ (∃ w, windowOf NET_MASK = some w ∧ NET_MASK + 4 ≤ w.last) ∧
     blockIncFar NET_MASK vs (s.hw.accept h) = false ∧ ((writeWords (s.hw.roleOf h) NET_MASK 0 vs (s.hw.accept h)).toOption.map log).map List.length = some 2 ∧
     Room s.hw 2 ∧ (match writeWords (s.hw.roleOf h) SYS_DEVID 0 vs (s.hw.accept h) with | .error x => some x.2 | .ok _ => none) = some 0 ∧
     blockIncFar ALM_INCL [0xE7C00000, 3] (s.hw.accept h) = true) ∧
    (let s : State := wRun id; let h : Hdr := wFor 0x1001 3; let r : Role := .engineer; let a : Nat := NET_GW
     Accepts (Op.plain 0x1001 .viewer) h s.hw ∧
     Room s.hw 1 ∧
     s.hw.roleOf h = some r ∧
     roleMeets r .engineer = true ∧
     (a = NET_IP ∨ a = NET_MASK ∨ a = NET_GW)) ∧
    (let s : State := wRun fun s => s.setReg SYS_TISTAT 31#32; let h : Hdr := wFor 0x1001 2; let r : Role := .operator
     let m : Word := 31#32
     Accepts (Op.plain 0x1001 .viewer) h s.hw ∧
     Room s.hw 1 ∧
     s.hw.roleOf h = some r ∧
     roleMeets r .operator = true ∧
     m &&& 0xFFFFFFE0#32 = 0#32) ∧
    (let s : State := wRun id; let r : Role := .engineer; let h : Hdr := { wHdr 3 with length := (8 + 4 * 2) }
     Accepts (Op.sized 0x1002 .viewer (8 + 4 * 2)) h s.hw ∧
     Room s.hw 2 ∧
     s.hw.roleOf h = some r ∧
     roleMeets r .engineer = true) ∧
    (let s : State := wRun id; let h : Hdr := wFor 0x1001 1; let a : Nat := SAF_STAT
     let w : Window := ⟨0x200D0000, 0x200DFFFF, false⟩
     Accepts (Op.plain 0x1001 .viewer) h s.hw ∧
     windowOf a = some w ∧
     w.writable = false) := by
  refine ⟨?_, ?_, ?_, ?_, ?_, ?_⟩ <;> decide +kernel

theorem test_met_action_registers :
    (let s : State := wRun fun s => s.put (LEGn_CFG_COMMIT_MODE 11) 1
     let x := s.hw.incStaged 3
     Accepts (Op.plain 0x1001 .viewer) (wFor 0x1001 3) s.hw ∧ Room s.hw 1 ∧ s.hw.roleOf (wFor 0x1001 3) = some .engineer ∧ roleMeets .engineer .engineer = true ∧
     roleMeets .engineer .operator = true ∧ s.hw.get SV_USERCTL_TAPS0 ≤ 128 ∧ s.hw.get SV_USERCTL_TAPS1 ≤ 128 ∧
     firstFail (commitChecks s.hw) = none ∧ s.hw.get SHAPE_CTRL_SHAPE_SRC ≠ 3 ∧ commitBarred s.hw = false ∧
     bitOf 0x800 11 = true ∧ s.hw.flag (LEGn_CFG_COMMIT_MODE 11) = true ∧ statBad s.hw 16 = false ∧ (s.hw.view ALM_INCH).toNat < 16 ∧
     incJudge s.hw x = none ∧ s.hw.logRefuses 0 = false ∧ incNear limRun x = true) := by
  decide +kernel

theorem test_met_supplies_and_reset :
    (let rs : List RailRise := [⟨1, 50, 500, true⟩, ⟨0, 100, 250, true⟩, ⟨2, 600, 600, true⟩]
     let s : State := { State.reset with hw := { State.reset.hw with pwr := { up := 0 } } }
     let rises := rs.filter fun r => decide (r.rail < 8) && !bitOf s.hw.pwr.up r.rail
     (⟨1, 50, 500, true⟩ : RailRise) ∈ rises ∧ orderBad s.hw.pwr.up rises ⟨1, 50, 500, true⟩ = true ∧
     (⟨2, 600, 600, true⟩ : RailRise) ∈ rises ∧ slewBad ⟨2, 600, 600, true⟩ = true) ∧
    (let s : State := wRun id; let d : Nat := 0x80
     Runs s.hw ∧
     d % 256 ≠ 0) ∧
    (let s : State := wRun id; let r : Nat := 7
     Runs s.hw ∧
     r < 8) ∧
    (1000 ≤ 1000 ∧ 99 < 100) ∧
    (let s : State := wRun id; let d : Int := 126
     125 < d ∧
     s.hw.pwr.hot = false) ∧
    (let s : State := wRun fun s => { s with cmd := { s.cmd with resetPending := true } }
     Runs s.hw ∧
     s.hw.cmd.resetPending = true) ∧
    (let s : State := State.reset; let b : BootIn := ⟨false, false, 1, 0, 0, [], 8, true, [], 0⟩
     s.hw.inReset = true ∧
     s.hw.pwr.hold = false ∧
     s.hw.pwr.holdAon = false ∧
     s.hw.pwr.hot = false ∧
     s.hw.pwr.up = 255 ∧
     b.ref % 4 ≠ 3) := by
  refine ⟨?_, ?_, ?_, ?_, ?_, ?_, ?_⟩ <;> decide +kernel

theorem test_met_tick_points :
    (let s : State := wRun id
     Runs s.hw) ∧
    (let s : State := State.reset
     s.hw.inReset = true) ∧
    (let s : State := wRun fun s => { s with fch := { s.fch with strobe := 15 } }
     CoreRuns s.hw ∧
     s.hw.time.clockLost = false ∧
     (s.hw.fch.strobe < 16 ∨ s.hw.time.gapTo ≠ none)) ∧
    (let s : State := wRun id
     Ticking s.hw) ∧
    (let s : State := wRun id
     Ticking s.hw) ∧
    (let r : StepReq := ⟨true, 5, 0⟩
     let s : State := wRun fun s => { s with time := { s.time with steps := [⟨r, none, 0⟩], ticks := 1 } }
     let u : State := wRun id
     (Runs s.hw ∧ s.hw.time.clockLost = false ∧ s.hw.time.gapTo = none ∧ s.hw.stepDue = some ⟨r, none, 0⟩ ∧ s.hw.running = false ∧
     r.resultBad (s.hw.timeAt (max s.hw.time.cyc 256)).1 (s.hw.timeAt (max s.hw.time.cyc 256)).2.1 = false) ∧
     Runs u.hw ∧ u.hw.time.clockLost = false ∧ u.hw.time.gapTo = none ∧ u.hw.stepDue = none) := by
  refine ⟨?_, ?_, ?_, ?_, ?_, ?_⟩ <;> decide +kernel

theorem test_met_tick_numbers :
    (let s : Hw := { State.reset.hw with time := { State.reset.hw.time with sec := 2 ^ 48 - 2, ns := 999999999 } }
     s.time.clockLost = false ∧ s.time.gapTo = none ∧ s.time.ns < 10 ^ 9 ∧ s.time.frac < 2 ^ 32 ∧ s.time.sec < 2 ^ 48 - 1 ∧
     0 < s.inc ∧ s.inc ≤ 2000 * 2 ^ 32) := by
  decide +kernel

theorem test_met_step_runs_the_front_command :
    (let c : Instr := .modeGet (wHdr 1); let q : List Instr := [.trip (wHdr 2)]
     let s : State := { wRun id with pending := [.modeGet (wHdr 1), .trip (wHdr 2)] }
     s.pending = c :: q) := by
  decide +kernel

theorem test_met_empty_queue_resumes_or_idles :
    (let s : State := wRun fun s => { s with cmd := { s.cmd with waiting := [⟨wHdr 2, 0x0105, .mode⟩], held := [(2, .modeGet (wHdr 2))] } }
     s.pending = [] ∧
     (∀ p ∈ s.hw.cmd.held, heldSession s.hw p.1 = true)) ∧
    (let s : State := wRun fun s => { s with cmd := { s.cmd with waiting := [⟨wHdr 2, 0x0105, .mode⟩], held := [(2, .modeGet (wHdr 2)), (1, .modeGet (wHdr 1))] } }
     let pre : List (Nat × Instr) := [(2, .modeGet (wHdr 2))]; let post : List (Nat × Instr) := []; let k : Nat := 1
     let i : Instr := .modeGet (wHdr 1)
     s.pending = [] ∧
     s.hw.cmd.held = pre ++ (k, i) :: post ∧
     (∀ p ∈ pre, heldSession s.hw p.1 = true) ∧
     heldSession s.hw k = false) := by
  refine ⟨?_, ?_⟩ <;> decide +kernel

theorem test_met_capture_memory_stays_canonical :
    let s : State := { wRun (fun s => (s.put (CHR_RECk_STAT_STATE 0) rcTriggered).onRec 0 fun r => { r with seg := some ⟨0, 0, 1, 0, 0, 0, 0, none, 0, 0⟩ })
      with pending := [.chrStop (wFor 0x0B04 2) 1], capture := memWriteList [] 5 [9#8] }
    Safe s ∧ (nextOf (step s)).isSome = true ∧ (nextOf (step s)).any (fun t => decide (t.capture ≠ s.capture)) = true := by
  refine ⟨?_, ?_, ?_⟩ <;> decide +kernel

theorem test_met_host_commands_pass_the_checks_first :
    (let i : Instr := .netFrameSend (wHdr 1) 0 0 0 []
     let s : State := wRun fun s => { s with cmd := { s.cmd with waiting := [⟨wHdr 2, 0x0105, .mode⟩], sessions := s.cmd.sessions.map fun x =>
       if x.id = 3 then { x with recent := [⟨1, some ⟨.spi, 0, 1, 1, 1, .ok, [], 0#256⟩⟩] } else x } }
     let d : Instr := .block (wHdr 3)
     hostRow s.hw i = some ({ code := 0x0009, role := some .engineer, params := some 12, pcieOnly := true }, wHdr 1) ∧ s.hw.inReset = false ∧ s.hw.cmd.resuming = false ∧
     gate ({ code := 0x0009, role := some .engineer, params := some 12, pcieOnly := true } : Op) s.hw (wHdr 1) = .fail .roleDenied ∧
     hostRow s.hw d = some (Op.plain 0x0105 .operator, wHdr 3) ∧ gate (Op.plain 0x0105 .operator) s.hw (wHdr 3) = .again (some ⟨.spi, 0, 1, 1, 1, .ok, [], 0#256⟩) ∧
     hostRow s.hw (.modeGet (wHdr 2)) = some (Op.plain 0x0100 .viewer, wHdr 2) ∧
     gate (Op.plain 0x0100 .viewer) s.hw (wHdr 2) = .accept ∧ s.hw.sessionBusy 2 = true ∧ State.reset.hw.inReset = true) := by
  decide +kernel

theorem test_met_sequence_numbers :
    (let op : Op := Op.plain 0x0100 .viewer
     let s : Hw := { State.reset.hw with inReset := false, cmd := { State.reset.hw.cmd with sessions := [⟨1, .viewer, .pcie, false, 0#256, some 40000, [⟨40000, none⟩], 0⟩] } }
     let h : Hdr := ⟨.pcie, 0, 1, 0, 7231, 1, 16, true⟩
     let x : Session := ⟨1, .viewer, .pcie, false, 0#256, some 40000, [⟨40000, none⟩], 0⟩
     Sys2Proof.Addressed op s h ∧
     s.session? h = some x) ∧
    (let s : Hw := { State.reset.hw with inReset := false, cmd := { State.reset.hw.cmd with sessions := [⟨1, .viewer, .pcie, false, 0#256, some 40000, [⟨40000, none⟩], 0⟩] } }
     let h : Hdr := ⟨.pcie, 0, 1, 0, 1, 1, 16, true⟩
     let x : Session := ⟨1, .viewer, .pcie, false, 0#256, some 40000, [⟨40000, none⟩], 0⟩
     s.session? h = some x) ∧
    (let s : Hw := { State.reset.hw with inReset := false, cmd := { State.reset.hw.cmd with sessions := [⟨1, .viewer, .pcie, false, 0#256, some 40000, [⟨40000, none⟩], 0⟩] } }
     let h : Hdr := ⟨.pcie, 0, 1, 0, 1, 1, 16, true⟩
     let x : Session := ⟨1, .viewer, .pcie, false, 0#256, some 40000, [⟨40000, none⟩], 0⟩; let code : Nat := 0x0100
     let data : List Byte := []
     s.session? h = some x ∧
     h.session ≠ 0 ∧
     code ≠ 1 ∧
     Fits h data) ∧
    (let op : Op := Op.plain 0x0100 .viewer
     let s : Hw := { State.reset.hw with inReset := false, cmd := { State.reset.hw.cmd with sessions := [⟨1, .viewer, .pcie, false, 0#256, some 40000, [⟨40000, none⟩], 0⟩] } }
     let h : Hdr := ⟨.pcie, 0, 1, 0, 40000, 1, 16, true⟩
     s.inReset = false ∧
     s.cmd.resuming = false ∧
     gate op s h ≠ .accept) := by
  refine ⟨?_, ?_, ?_, ?_⟩ <;> decide +kernel

end Sys2Proof
end

section
/-! SUPPORT. The tick that begins: Almanac time at its cycle 0, its number and its place in the slow cycle (R10, R11). -/

namespace Sys2Proof.Machine

/-! ### Almanac time as one count of 2^-32 ns (R301) -/

/-- Before the seconds wrap, (S, N) names the count's whole nanoseconds. -/
theorem splitUnits_sec_ns {u : Nat} (h : u / 2 ^ 32 / nsPerSec < 2 ^ 48) :
    (splitUnits u).1 * nsPerSec + (splitUnits u).2.1 = u / 2 ^ 32 := by
  simp only [splitUnits, Nat.mod_eq_of_lt h, Nat.div_add_mod']

/-- The time within a tick is the count's rest by the tick: a second is a whole number of ticks (R10). -/
theorem splitUnits_within_tick (u : Nat) :
    (splitUnits u).2.1 % 2000 * 2 ^ 32 + (splitUnits u).2.2 = u % tickUnits := by
  have hsec : u / 2 ^ 32 % nsPerSec % 2000 = u / 2 ^ 32 % 2000 := Nat.mod_mod_of_dvd _ (by decide)
  rw [splitUnits, hsec, tickUnits, Nat.mul_comm 2000, Nat.mod_mul, Nat.mul_comm, Nat.add_comm]

theorem div_tickUnits (u : Nat) : u / tickUnits = u / 2 ^ 32 / 2000 := by
  rw [tickUnits, Nat.mul_comm, Nat.div_div_eq_div_mul]

theorem TimeSt.baseUnits_ns {t : TimeSt} (hfrac : t.frac < 2 ^ 32) : t.baseUnits / 2 ^ 32 = t.sec * nsPerSec + t.ns := by
  unfold TimeSt.baseUnits
  omega

/-! ### The first cycle that reaches the next multiple of 2 us (R10) -/

/-- Steps of `d`, as many as the ceiling of the distance to `g`, reach `g` and pass it by less than one step. -/
theorem ceil_steps_reach {b g d : Nat} (hd : 0 < d) (hg : b ≤ g) :
    g ≤ b + (g - b + d - 1) / d * d ∧ b + (g - b + d - 1) / d * d < g + d := by
  have hdiv := Nat.div_add_mod' (g - b + d - 1) d
  have hmod := Nat.mod_lt (g - b + d - 1) hd
  omega

/-- While Almanac runs and no step has been applied, the tick ends in the cycle in which its time first reaches the boundary. -/
theorem Hw.tickLen_reaches_boundary {s : Hw} (hlost : s.time.clockLost = false) (hgap : s.time.gapTo = none) (hinc : 0 < s.inc) :
    (s.time.baseUnits / tickUnits + 1) * tickUnits ≤ s.time.baseUnits + s.tickLen * s.inc ∧
      s.time.baseUnits + s.tickLen * s.inc < (s.time.baseUnits / tickUnits + 1) * tickUnits + s.inc := by
  have hlen : s.tickLen =
      ((s.time.baseUnits / tickUnits + 1) * tickUnits - s.time.baseUnits + s.inc - 1) / s.inc := by
    simp [Hw.tickLen, hlost, hgap, hinc.ne']
  have hahead : s.time.baseUnits ≤ (s.time.baseUnits / tickUnits + 1) * tickUnits :=
    Nat.succ_mul _ _ ▸ (Nat.lt_div_mul_add (by decide)).le
  rw [hlen]
  exact ceil_steps_reach hinc hahead

/-- The count at the next boundary lies in the next tick, by less than an increment after its start. -/
theorem Hw.units_at_tickLen {s : Hw} (hlost : s.time.clockLost = false) (hgap : s.time.gapTo = none) (hinc : 0 < s.inc)
    (hmax : s.inc ≤ tickUnits) :
    (s.time.baseUnits + s.tickLen * s.inc) / tickUnits = s.time.baseUnits / tickUnits + 1 ∧
      (s.time.baseUnits + s.tickLen * s.inc) % tickUnits < s.inc := by
  obtain ⟨hreach, hless⟩ := s.tickLen_reaches_boundary hlost hgap hinc
  have hdiv : (s.time.baseUnits + s.tickLen * s.inc) / tickUnits = s.time.baseUnits / tickUnits + 1 :=
    Nat.div_eq_of_lt_le hreach (by rw [Nat.succ_mul]; omega)
  have hrest := Nat.div_add_mod' (s.time.baseUnits + s.tickLen * s.inc) tickUnits
  rw [hdiv] at hrest
  exact ⟨hdiv, by omega⟩

/-! ### What `nextTickBegins` sets -/

theorem nextTickBegins_sec (s : Hw) : (nextTickBegins s).time.sec = (s.timeAt s.tickLen).1 := rfl
theorem nextTickBegins_ns (s : Hw) : (nextTickBegins s).time.ns = (s.timeAt s.tickLen).2.1 := rfl
theorem nextTickBegins_frac (s : Hw) : (nextTickBegins s).time.frac = (s.timeAt s.tickLen).2.2 := rfl

theorem nextTickBegins_tickNo (s : Hw) :
    (nextTickBegins s).time.tickNo = tickNumber (nextTickBegins s).time.sec (nextTickBegins s).time.ns := rfl

theorem Hw.timeAt_of_running {s : Hw} (hlost : s.time.clockLost = false) (c : Nat) :
    s.timeAt c = splitUnits (s.time.baseUnits + c * s.inc) := by
  simp [Hw.timeAt, hlost]

theorem Hw.frameStart_iff (s : Hw) : s.frameStart = true ↔ s.time.tickNo % 16 = 0 := by
  simp [Hw.frameStart]

/-- The tick that begins follows the one in progress, and its cycle 0 is the first cycle that has reached it (R10). -/
theorem nextTickBegins_at_first_cycle {s : Hw} (hlost : s.time.clockLost = false) (hgap : s.time.gapTo = none)
    (hns : s.time.ns < nsPerSec) (hfrac : s.time.frac < 2 ^ 32) (hsec : s.time.sec < 2 ^ 48 - 1) (hinc : 0 < s.inc)
    (hmax : s.inc ≤ tickUnits) :
    ((nextTickBegins s).time.sec * nsPerSec + (nextTickBegins s).time.ns) / 2000 =
        (s.time.sec * nsPerSec + s.time.ns) / 2000 + 1 ∧
      (nextTickBegins s).time.ns % 2000 * 2 ^ 32 + (nextTickBegins s).time.frac < s.inc := by
  obtain ⟨hnext, hwithin⟩ := s.units_at_tickLen hlost hgap hinc hmax
  have hno_wrap : (s.time.baseUnits + s.tickLen * s.inc) / 2 ^ 32 / nsPerSec < 2 ^ 48 := by
    rw [div_tickUnits, div_tickUnits, TimeSt.baseUnits_ns hfrac] at hnext
    simp only [nsPerSec] at hnext hns ⊢
    omega
  rw [nextTickBegins_sec, nextTickBegins_ns, nextTickBegins_frac, Hw.timeAt_of_running hlost, splitUnits_sec_ns hno_wrap,
    splitUnits_within_tick, ← TimeSt.baseUnits_ns hfrac, ← div_tickUnits, ← div_tickUnits]
  exact ⟨hnext, hwithin⟩

end Sys2Proof.Machine

namespace Sys2Proof

open Sys2Proof.Machine

/-- Settles O52: the numbers follow from `nextTickBegins` for every state, and its instant from the length of the tick that ends. -/
theorem tickNumbers : Obligations.TickNumbers := by
  intro s
  refine ⟨nextTickBegins_tickNo s, Hw.frameStart_iff _, rfl, rfl, rfl, ?_⟩
  intro hlost hgap hns hfrac hsec hinc hmax
  exact nextTickBegins_at_first_cycle hlost hgap hns hfrac hsec hinc hmax

end Sys2Proof
end

section
/-! SUPPORT. The safety island (R358): when its pads drive, and what an evaluation of an unconfirmed part writes. -/

namespace Sys2Proof.Machine

/-! ### Pads -/

theorem Hw.spbNow_ne_none_iff (s : Hw) : s.spbNow ≠ none ↔ s.flag SAF_STAT_CONFIRMED = true ∧ s.saf.spb ≠ none := by
  by_cases h : s.flag SAF_STAT_CONFIRMED = true <;> simp [Hw.spbNow, h]

theorem Hw.islandDrives_iff (s : Hw) :
    s.islandDrives = true ↔ s.flag SAF_STAT_CONFIRMED = true ∧ s.saf.spb ≠ none ∧ s.flag SAF_STAT_SAFE_FAULT = false := by
  rw [← and_assoc, ← s.spbNow_ne_none_iff, Hw.islandDrives, Bool.and_eq_true, Option.isSome_iff_ne_none, Bool.not_eq_true']

theorem Hw.soPin_ne_none_iff (s : Hw) (n : Nat) : s.soPin n ≠ none ↔ s.islandDrives = true := by
  by_cases h : s.islandDrives = true <;> simp [Hw.soPin, h]

theorem Hw.tpPin_ne_none_iff (s : Hw) (k : Nat) : s.tpPin k ≠ none ↔ s.islandDrives = true := by
  by_cases h : s.islandDrives = true <;> simp [Hw.tpPin, h]

/-! ### What changes the island alone -/

/-- `t` is `s` but for the island's own part, the pending enables and the register bits of `fs`. -/
structure IslandOnly (fs : List Fld) (s t : Hw) : Prop where
  regs : SameBut fs s t
  rest : { t with saf := s.saf, ops := s.ops, regs := s.regs } = s

namespace IslandOnly

variable {fs gs : List Fld} {s t u : Hw}

theorem refl (fs : List Fld) (s : Hw) : IslandOnly fs s s := ⟨SameBut.refl fs s, rfl⟩

theorem trans (h : IslandOnly fs s t) (g : IslandOnly fs t u) : IslandOnly fs s u :=
  ⟨h.regs.trans g.regs, (congrArg (fun x : Hw => { x with saf := s.saf, ops := s.ops, regs := s.regs }) g.rest).trans h.rest⟩

theorem mono (h : IslandOnly fs s t) (sub : ∀ f ∈ fs, f ∈ gs) : IslandOnly gs s t := ⟨h.regs.mono sub, h.rest⟩

theorem onSaf (fs : List Fld) (s : Hw) (f : SafSt → SafSt) : IslandOnly fs s (s.onSaf f) := ⟨SameBut.of_regs rfl, rfl⟩

theorem setReg (s : Hw) {a : Nat} (m : word a ∈ fs) (v : Word) : IslandOnly fs s (s.setReg a v) :=
  ⟨(SameBut.refl fs s).setReg m v, rfl⟩

theorem put_word (s : Hw) (f : Fld) (m : word f.addr ∈ fs) (v : Nat) : IslandOnly fs s (s.put f v) :=
  ⟨(SameBut.refl fs s).put_word f m v, rfl⟩

theorem setPend (s : Hw) (cls : Nat) (p : Option PendEnable) (m : SYS_PEND_PENDING ∈ fs) : IslandOnly fs s (s.setPend cls p) :=
  ⟨((SameBut.refl fs s).parts rfl).put (by decide) m _, rfl⟩

/-- Rounds that each change the island alone. -/
theorem each (is : List Nat) {f : Nat → Hw → Hw} (step : ∀ i u, IslandOnly fs u (f i u)) (s : Hw) : IslandOnly fs s (s.each is f) := by
  induction is generalizing s with
  | nil => exact refl fs s
  | cons i is ih => exact (step i s).trans (ih (f i s))

end IslandOnly

/-! ### The island's shared operations -/

/-- An island fault writes SAF_FAULT and SAF_STAT (R367). -/
theorem safFault_islandOnly {f : Fld} (hf : f.addr = SAF_FAULT) (s : Hw) :
    IslandOnly [word SAF_FAULT, word SAF_STAT] s (safFault f s) :=
  (IslandOnly.put_word s f (by simp [hf]) 1).trans (IslandOnly.put_word _ SAF_STAT_SAFE_FAULT (by decide) 1)

@[simp] theorem safFault_saf (f : Fld) (s : Hw) : (safFault f s).saf = s.saf := by
  rw [safFault, Hw.raise, Hw.raise, Hw.put_saf, Hw.put_saf]

/-- An island fault leaves the block in force, or its absence. -/
theorem safFault_spbNow {f : Fld} (hf : f.addr = SAF_FAULT) (s : Hw) : (safFault f s).spbNow = s.spbNow := by
  have hget : (safFault f s).get SAF_STAT_CONFIRMED = s.get SAF_STAT_CONFIRMED := by
    rw [safFault, Hw.raise, Hw.raise, Hw.get_put_apart _ (by decide) (by decide) (by decide), s.get_put_ne 1 (by rw [hf]; decide)]
  have hconf : (safFault f s).flag SAF_STAT_CONFIRMED = s.flag SAF_STAT_CONFIRMED := by rw [Hw.flag, hget, Hw.flag]
  rw [Hw.spbNow, hconf, safFault_saf, Hw.spbNow]

/-- The results go to SAF_STAT and to no other register. -/
theorem safResults_islandOnly (s : Hw) : IslandOnly [word SAF_STAT] s (safResults s) := by
  have hstat (u : Hw) (f : Fld) (v : Nat) (hf : f.addr = SAF_STAT) : IslandOnly [word SAF_STAT] u (u.put f v) :=
    IslandOnly.put_word u f (by simp [hf]) v
  unfold safResults
  refine IslandOnly.trans ?_ (hstat _ SAF_STAT_DEBLOCK_PERM _ rfl)
  refine IslandOnly.trans ?_ (hstat _ SAF_STAT_TWOHAND_OK _ rfl)
  refine IslandOnly.trans ?_ (hstat _ SAF_STAT_STOP_CAT0 _ rfl)
  refine IslandOnly.trans ?_ (hstat _ SAF_STAT_STOP_REQ _ rfl)
  refine IslandOnly.trans ?_ (hstat _ SAF_STAT_FN_PERMIT _ rfl)
  refine IslandOnly.trans ?_ (hstat _ SAF_STAT_SO_ON _ rfl)
  refine IslandOnly.trans ?_ (IslandOnly.onSaf _ _ _)
  exact IslandOnly.each _ (fun _ u => IslandOnly.onSaf _ u _) s

theorem safPend_islandOnly (s : Hw) : IslandOnly [SYS_PEND_PENDING] s (safPend s) := IslandOnly.setPend _ _ _ (by decide)

/-- After an evaluation or an event, the results and the pending resets. -/
theorem safPend_safResults_islandOnly (s : Hw) : IslandOnly [word SAF_STAT, SYS_PEND_PENDING] s (safPend (safResults s)) :=
  ((safResults_islandOnly s).mono (by decide)).trans ((safPend_islandOnly _).mono (by decide))

/-! ### An evaluation -/

/-- An evaluation is counted, and consecutive ones at which X and Y disagree. -/
def safCount (apart : Bool) (s : Hw) : Hw :=
  s.onSaf fun c => { c with evals := c.evals + 1, apart := if apart then c.apart + 1 else 0 }

/-- The disagreement of X and Y latches at the second evaluation in a row (R367). -/
def safCompare (s : Hw) : Hw := if s.saf.apart = 2 then safFault SAF_FAULT_XCOMP s else s

/-- What every evaluation begins with: the count, the comparison of X and Y, the oscillator. -/
def safChecks (apart osc : Bool) (s : Hw) : Hw :=
  let s := safCompare (safCount apart s)
  if osc then safFault SAF_FAULT_OSC s else s

/-- A property that the count and both faults keep, the checks keep. -/
theorem safChecks_induct {P : Hw → Prop} (apart osc : Bool) (s : Hw) (count : P (safCount apart s))
    (fault : ∀ (u : Hw) (f : Fld), f.addr = SAF_FAULT → P u → P (safFault f u)) : P (safChecks apart osc s) := by
  have hcompare : P (safCompare (safCount apart s)) := by
    unfold safCompare
    split
    · exact fault _ SAF_FAULT_XCOMP rfl count
    · exact count
  cases osc with
  | true => exact fault _ SAF_FAULT_OSC rfl hcompare
  | false => exact hcompare

theorem safChecks_spbNow (apart osc : Bool) (s : Hw) : (safChecks apart osc s).spbNow = s.spbNow :=
  safChecks_induct (P := fun u => u.spbNow = s.spbNow) apart osc s rfl fun u _ hf hu => (safFault_spbNow hf u).trans hu

theorem safChecks_apply (apart osc : Bool) (s : Hw) : (safChecks apart osc s).saf.apply = s.saf.apply :=
  safChecks_induct (P := fun u => u.saf.apply = s.saf.apply) apart osc s rfl fun u f _ hu => by rw [safFault_saf, hu]

theorem safChecks_islandOnly (apart osc : Bool) (s : Hw) :
    IslandOnly [word SAF_FAULT, word SAF_STAT] s (safChecks apart osc s) :=
  safChecks_induct (P := IslandOnly _ s) apart osc s (IslandOnly.onSaf _ s _) fun u _ hf hu =>
    hu.trans (safFault_islandOnly hf u)

/-- With an island fault latched no TP pad drives, so the levels of the contacts do not count (R358; log entry 97). -/
theorem safEvaluate_of_fault {s : Hw} (hfault : s.flag SAF_STAT_SAFE_FAULT = true) (lv mv rb : Nat) (apart osc : Bool) :
    safEvaluate lv mv rb apart osc s = safEvaluate 0 mv rb apart osc s := by
  simp only [safEvaluate, hfault, if_true]

/-- Without a confirmed block an evaluation reads no contact and clears SAF_IN, so every input is OFF (R358; log entry 97). -/
theorem safEvaluate_of_unconfirmed {s : Hw} (hready : s.saf.ready = true) (hnone : s.spbNow = none) (happly : s.saf.apply = false)
    (lv mv rb : Nat) (apart osc : Bool) :
    safEvaluate lv mv rb apart osc s = safPend (safResults ((safChecks apart osc s).setReg SAF_IN 0#32)) := by
  have hnone' : (safChecks apart osc s).spbNow = none := (safChecks_spbNow apart osc s).trans hnone
  have happly' : ¬ (safChecks apart osc s).saf.apply = true := by rw [safChecks_apply, happly]; decide
  delta safEvaluate
  rw [if_neg (by simp [hready])]
  extract_lets levels counted compared checked applied bad cleared
  have hchecked : checked = safChecks apart osc s := rfl
  have happlied : applied = safChecks apart osc s := (if_neg (hchecked ▸ happly')).trans hchecked
  have hcleared : cleared = (safChecks apart osc s).setReg SAF_IN 0#32 := by
    clear_value applied
    simp only [cleared, happlied, hnone']
  rw [hcleared]

theorem safEvaluate_islandOnly_of_unconfirmed {s : Hw} (hready : s.saf.ready = true) (hnone : s.spbNow = none)
    (happly : s.saf.apply = false) (lv mv rb : Nat) (apart osc : Bool) :
    IslandOnly islandFlds s (safEvaluate lv mv rb apart osc s) := by
  rw [safEvaluate_of_unconfirmed hready hnone happly]
  have hchecks := (safChecks_islandOnly apart osc s).mono (gs := islandFlds) (by decide)
  have hclear := IslandOnly.setReg (fs := islandFlds) (a := SAF_IN) (safChecks apart osc s) (by decide) 0#32
  exact (hchecks.trans hclear).trans ((safPend_safResults_islandOnly _).mono (by decide))

theorem safEvaluate_inVal_of_unconfirmed {s : Hw} (hready : s.saf.ready = true) (hnone : s.spbNow = none)
    (happly : s.saf.apply = false) (lv mv rb : Nat) (apart osc : Bool) (i : Nat) :
    (safEvaluate lv mv rb apart osc s).inVal i = vOff := by
  rw [safEvaluate_of_unconfirmed hready hnone happly, Hw.inVal]
  split
  · rw [(safPend_safResults_islandOnly _).regs.get (g := valFld i) (by change ∀ f : Fld, f ∈ _ → f.addr ≠ SAF_IN; decide), Hw.get]
    simp [valFld, Fld.of, vOff]
  · rfl

theorem exec_safetyEvaluation (s : State) (lv mv rb : Nat) (apart osc : Bool) :
    exec (.safetyEvaluation lv mv rb apart osc) s = .next (s.onHw (onRun (safEvaluate lv mv rb apart osc))) := rfl

theorem exec_safetyEvaluation_of_runs {s : State} (hruns : s.hw.inReset = false) (lv mv rb : Nat) (apart osc : Bool) :
    exec (.safetyEvaluation lv mv rb apart osc) s = .next (s.onHw (safEvaluate lv mv rb apart osc)) := by
  simp [exec_safetyEvaluation, State.onHw, onRun, hruns]

end Sys2Proof.Machine

namespace Sys2Proof

open Sys2Proof.Machine

/-- Settles O38: the pads by `Hw.islandDrives`, an evaluation under an island fault by the levels it reads, one of an unconfirmed part
by the register SAF_IN that it clears. -/
theorem safetyPadsDriveOnlyWhenConfirmed : Obligations.SafetyPadsDriveOnlyWhenConfirmed := by
  refine ⟨?pads, ?fault, ?unconfirmed⟩
  case pads =>
    intro s n k
    rw [s.soPin_ne_none_iff, s.tpPin_ne_none_iff, or_self, s.islandDrives_iff]
  case fault =>
    intro s lv mv rb apart osc hfault
    simp only [exec_safetyEvaluation, State.onHw, onRun, safEvaluate_of_fault hfault lv]
  case unconfirmed =>
    intro s lv mv rb apart osc i hruns hready hnone happly _
    have honly := safEvaluate_islandOnly_of_unconfirmed hready hnone happly lv mv rb apart osc
    exact ⟨_, exec_safetyEvaluation_of_runs hruns lv mv rb apart osc, ⟨rfl, rfl, honly.regs, honly.rest⟩,
      safEvaluate_inVal_of_unconfirmed hready hnone happly lv mv rb apart osc i⟩

end Sys2Proof
end

section
/-! SUPPORT. Sequence numbers (R383): the session a packet names after a change, what the checks make of a SEQ, what is stored. -/

namespace Sys2Proof.Machine

/-! ### The session that a packet names -/

/-- The packet names this session on its transport. -/
def Session.namedBy (h : Hdr) (x : Session) : Bool := x.id == h.session && decide (x.transport = h.transport)

theorem Hw.session?_eq_find?_namedBy (s : Hw) (h : Hdr) : s.session? h = s.cmd.sessions.find? (Session.namedBy h) := rfl

theorem Hw.id_of_session? {s : Hw} {h : Hdr} {x : Session} (hx : s.session? h = some x) : x.id = h.session := by
  have hnamed : Session.namedBy h x = true := List.find?_some hx
  simp only [Session.namedBy, Bool.and_eq_true, beq_iff_eq] at hnamed
  exact hnamed.1

/-- A change of a session that keeps its identifier and transport is seen by the packets that name it. -/
theorem Hw.session?_onSession {s : Hw} {h : Hdr} {x : Session} (hx : s.session? h = some x) {f : Session → Session}
    (hf : ∀ y, (f y).id = y.id ∧ (f y).transport = y.transport) : (s.onSession h.session f).session? h = some (f x) := by
  have hid := Hw.id_of_session? hx
  have hsame : (Session.namedBy h ∘ fun y => if y.id = h.session then f y else y) = Session.namedBy h := by
    funext y
    by_cases hy : y.id = h.session <;> simp [Session.namedBy, hy, hf y]
  rw [Hw.session?_eq_find?_namedBy] at hx ⊢
  rw [Hw.onSession_cmd, List.find?_map, hsame, hx, Option.map_some, if_pos hid]

theorem Hw.session?_accept {s : Hw} {h : Hdr} {x : Session} (hx : s.session? h = some x) : (s.accept h).session? h =
    some { x with last := some h.seq, recent := (⟨h.seq, none⟩ :: x.recent).take 4, lastTick := s.ticks } :=
  Hw.session?_onSession hx fun _ => ⟨rfl, rfl⟩

/-! ### What the checks make of a SEQ -/

/-- The distance of `seq` from the newest accepted SEQ `last` lies in 1 to 32,767. -/
abbrev SeqFollows (seq last : Nat) : Prop := 1 ≤ (seq + 2 ^ 16 - last) % 2 ^ 16 ∧ (seq + 2 ^ 16 - last) % 2 ^ 16 ≤ 32767

section
variable {op : Op} {s : Hw} {h : Hdr} {x : Session}

theorem gate_of_duplicate (ha : Addressed op s h) (hx : s.session? h = some x) {q : StoredReply}
    (hq : x.recent.find? (fun q => q.seq == h.seq) = some q) : gate op s h = .again q.reply := by
  obtain ⟨hon, hversion, hflags, hcheck, hlength, hsession⟩ := ha
  simp [gate, hon, hversion, hflags, hcheck, Nat.not_lt.mpr hlength, hsession, hx, hq]

theorem gate_of_stale (ha : Addressed op s h) (hx : s.session? h = some x)
    (hnew : x.recent.find? (fun q => q.seq == h.seq) = none) {l : Nat} (hlast : x.last = some l) (hstale : ¬ SeqFollows h.seq l) :
    gate op s h = .fail .seqStale := by
  obtain ⟨hon, hversion, hflags, hcheck, hlength, hsession⟩ := ha
  have hfar : (h.seq + 2 ^ 16 - l) % 2 ^ 16 < 1 ∨ 32767 < (h.seq + 2 ^ 16 - l) % 2 ^ 16 := by omega
  simp only [gate, hon, hversion, hflags, hcheck, Nat.not_lt.mpr hlength, hsession, hx, hnew, hlast, Option.bind_some, hfar]
  simp

/-- Steps 6 to 10 of Table CMD-3, which come after the SEQ, fail with other statuses. -/
theorem laterChecks_ne_seqStale (opcode group reeve transport role busy : Bool) :
    (if opcode then Gate.fail .opcodeUnknown else if group then .fail .groupUnavailable
      else if reeve then .fail .modeNotAllowed else if transport then .fail .transport
      else if role then .fail .roleDenied else if busy then .fail .busy else .accept) ≠ Gate.fail .seqStale := by
  split_ifs <;> simp

theorem gate_ne_seqStale_of_follows (ha : Addressed op s h) (hx : s.session? h = some x)
    (hnew : x.recent.find? (fun q => q.seq == h.seq) = none) (hfollows : ∀ l, x.last = some l → SeqFollows h.seq l) :
    gate op s h ≠ .fail .seqStale := by
  obtain ⟨hon, hversion, hflags, hcheck, hlength, hsession⟩ := ha
  simp only [gate, hon, hversion, hflags, hcheck, Nat.not_lt.mpr hlength, hsession, hx, hnew, Option.bind_some, Bool.not_true,
    ne_eq, not_true_eq_false, or_self, Bool.false_eq_true, if_false]
  cases hlast : x.last with
  | none => exact laterChecks_ne_seqStale _ _ _ _ _ _
  | some l =>
    have hnear : ¬ ((h.seq + 2 ^ 16 - l) % 2 ^ 16 < 1 ∨ 32767 < (h.seq + 2 ^ 16 - l) % 2 ^ 16) := by
      have := hfollows l hlast
      omega
    simp only [hnear, decide_false, Bool.false_eq_true, if_false]
    exact laterChecks_ne_seqStale _ _ _ _ _ _

theorem gate_seqStale_iff (ha : Addressed op s h) (hx : s.session? h = some x)
    (hnew : x.recent.find? (fun q => q.seq == h.seq) = none) :
    gate op s h = .fail .seqStale ↔ ∃ l, x.last = some l ∧ ¬ SeqFollows h.seq l := by
  constructor
  · intro hstale
    by_contra hnone
    push Not at hnone
    exact gate_ne_seqStale_of_follows ha hx hnew hnone hstale
  · rintro ⟨l, hlast, hfar⟩
    exact gate_of_stale ha hx hnew hlast hfar

end

/-! ### What a delivered reply and a refused packet leave of the sessions -/

theorem deliver_sessions (s : Hw) (r : Reply) : (s.deliver r).cmd.sessions = s.cmd.sessions := by
  unfold Hw.deliver
  cases r.transport <;> simp [Hw.raiseBit, Hw.clearBit, Hw.put_cmd]

theorem deliver_session? (s : Hw) (r : Reply) (h : Hdr) : (s.deliver r).session? h = s.session? h := by
  rw [Hw.session?, deliver_sessions, Hw.session?]

theorem countDiscard_cmd (s : Hw) (tagFailed : Bool) : (s.countDiscard tagFailed).cmd = s.cmd := by
  cases tagFailed <;> simp [Hw.countDiscard, Hw.raise, Hw.bump, Hw.put_cmd]

theorem hostCmd_sessions_of_not_accepted {op : Op} {s : Hw} {h : Hdr} (hruns : s.inReset = false)
    (hfirst : s.cmd.resuming = false) (hgate : gate op s h ≠ .accept) (i : Instr) (body : Hw → Done) :
    (hostCmd op i h body s).cmd.sessions = s.cmd.sessions := by
  simp only [hostCmd, hruns, hfirst, Bool.false_eq_true, if_false]
  cases hg : gate op s h with
  | lost => rfl
  | discard tagFailed => exact congrArg CmdSt.sessions (countDiscard_cmd s tagFailed)
  | fail st => exact deliver_sessions s _
  | again r =>
    cases r with
    | none => rfl
    | some r => exact deliver_sessions s _
  | accept => exact absurd hg hgate

/-! ### The stored reply -/

theorem mkReply_of_fits {h : Hdr} {data : List Byte} (hfits : Fits h data) (s : Hw) (code : Nat) (st : Status) :
    (mkReply s h code st data).status = st ∧ (mkReply s h code st data).data = data := by
  unfold Fits at hfits
  simp [mkReply, hfits]

/-- The session with `r` stored as the reply to its command `seq`, at the tick count `tick`. -/
def Session.storeReply (seq : Nat) (r : Reply) (tick : Nat) (x : Session) : Session :=
  { x with recent := x.recent.map (fun q => if q.seq = seq ∧ q.reply = none then { q with reply := some r } else q), lastTick := tick }

theorem Hw.reply_of_session {s : Hw} {h : Hdr} {x : Session} (hx : s.session? h = some x) (hopen : h.session ≠ 0) {code : Nat}
    (hcode : code ≠ 1) (st : Status) (data : List Byte) : s.reply h code st data =
      (s.onSession h.session (Session.storeReply h.seq (mkReply s h code st data) s.ticks)).deliver (mkReply s h code st data) := by
  simp only [Hw.reply, hopen, hcode, hx, Option.isSome_some, or_self, if_false, if_true]
  rfl

theorem Hw.session?_reply {s : Hw} {h : Hdr} {x : Session} (hx : s.session? h = some x) (hopen : h.session ≠ 0) {code : Nat}
    (hcode : code ≠ 1) (st : Status) (data : List Byte) :
    (s.reply h code st data).session? h = some (x.storeReply h.seq (mkReply s h code st data) s.ticks) := by
  rw [Hw.reply_of_session hx hopen hcode, deliver_session?]
  exact Hw.session?_onSession hx fun _ => ⟨rfl, rfl⟩

end Sys2Proof.Machine

namespace Sys2Proof

open Sys2Proof.Machine

/-- Settles O60: the SEQ by the checks `gate` makes of it, acceptance and the stored reply by the session they change, and a command that
is not accepted by the outcomes of `gate`. -/
theorem sequenceNumbers : Obligations.SequenceNumbers := by
  refine ⟨?checks, ?accepted, ?stored, ?refused⟩
  case checks =>
    intro op s h x ha hx
    exact ⟨fun q hq => gate_of_duplicate ha hx hq, fun hnew => gate_seqStale_iff ha hx hnew⟩
  case accepted =>
    intro s h x hx
    exact Hw.session?_accept hx
  case stored =>
    intro s h x code st data hx hopen hcode hfits
    obtain ⟨hstatus, hdata⟩ := mkReply_of_fits hfits s code st
    exact ⟨mkReply s h code st data, hstatus, hdata, Hw.session?_reply hx hopen hcode st data⟩
  case refused =>
    intro op i s h body hruns hfirst hgate
    exact hostCmd_sessions_of_not_accepted hruns hfirst hgate i body

end Sys2Proof
end
